-- ==== Sys2Proof/Syntax.lean ====
section
/-! DEFINITION. The abstract syntax: one constructor for every row of the opcode table.
The first 139 constructors are the ops of the five opcode maps (04_encoding R60); an operand holds the raw bits of its
encoding field, and its docstring names the rule that gives the op its meaning.
The other 99 are the device's events, the atomic steps that no op word encodes (95_what_each_step_holds);
their operands name the partition (by virtual function), the core, and what the event carries from outside. -/

namespace Sys2Proof

/-- The predicate field PRED and the invert bit PN of an op word (03_core R39, 04_encoding R57). -/
structure Guard where
  pred : Nat
  pn : Nat
deriving DecidableEq, Repr

/-- One atomic step of the part: an op of a slot, or an event. -/
inductive Instr where
  /-- NOP (any slot), R339. -/
  | nop (g : Guard)
  /-- BR (K), R300. -/
  | br (g : Guard) (off : Nat)
  /-- BRK (K), R301. -/
  | brk (g : Guard) (ka : Nat)
  /-- CALL (K), R115. -/
  | call (g : Guard) (off : Nat)
  /-- RET (K), R344. -/
  | ret (g : Guard)
  /-- LOOP (K), R117. -/
  | loop (g : Guard) (kn ki body stages cl res : Nat)
  /-- YIELD (K), R250. -/
  | yieldOp (g : Guard)
  /-- END (K), R314. -/
  | endOp (g : Guard)
  /-- TRAP (K), R248. -/
  | trap (g : Guard) (code : Nat)
  /-- WAKE (K), R185. -/
  | wake (g : Guard) (dom mode : Nat)
  /-- SLEEP (K), R183. -/
  | sleep (g : Guard) (dom mode : Nat)
  /-- WSTAT (K), R189. -/
  | wstat (g : Guard) (kd dom : Nat)
  /-- LEAVE (K), R177. -/
  | leave (g : Guard) (mask : Nat)
  /-- XLT (K), R148. -/
  | xlt (g : Guard) (hd ka : Nat)
  /-- HINV (K), R150. -/
  | hinv (g : Guard) (hd : Nat)
  /-- SETFMT (K), R351. -/
  | setfmt (g : Guard) (ka : Nat)
  /-- SETFMT_LONG (K), R351. -/
  | setfmtLong (g : Guard) (val : Nat)
  /-- BARA (K), R299. -/
  | bara (g : Guard) (bar : Nat)
  /-- BARW (K), R221. -/
  | barw (g : Guard) (bar : Nat)
  /-- BARW_TIMEOUT (K), R222. -/
  | barwTimeout (g : Guard) (bar beats : Nat)
  /-- PHASE (K), R217. -/
  | phase (g : Guard)
  /-- LAUNCH (K), R231. -/
  | launch (g : Guard) (kq kn : Nat)
  /-- FENCE (K), R205. -/
  | fence (g : Guard) (scope kind : Nat)
  /-- TABR (K), R32. -/
  | tabr (g : Guard) (kd clk : Nat)
  /-- KLI (K), R324. -/
  | kli (g : Guard) (kd imm : Nat)
  /-- KCP (K), R323. -/
  | kcp (g : Guard) (kd ka : Nat)
  /-- XCP_K (K), R51. -/
  | xcpK (g : Guard) (f d s u : Nat)
  /-- ADD (S), R295. -/
  | add (g : Guard) (d a b : Nat)
  /-- ADD_IMMEDIATE (S), R295. -/
  | addImm (g : Guard) (d a imm : Nat)
  /-- ADDI (S), R296. -/
  | addi (g : Guard) (d a imm : Nat)
  /-- SUB (S), R354. -/
  | sub (g : Guard) (d a b : Nat)
  /-- SUB_IMMEDIATE (S), R354. -/
  | subImm (g : Guard) (d a imm : Nat)
  /-- ADC (S), R294. -/
  | adc (g : Guard) (d a b ci co : Nat)
  /-- SBB (S), R349. -/
  | sbb (g : Guard) (d a b ci co : Nat)
  /-- MUL (S), R338. -/
  | mul (g : Guard) (d a b : Nat)
  /-- MUL_IMMEDIATE (S), R338. -/
  | mulImm (g : Guard) (d a imm : Nat)
  /-- MULH (S), R330. -/
  | mulh (g : Guard) (d a b nat : Nat)
  /-- DIV (S), R309. -/
  | div (g : Guard) (d a b nat : Nat)
  /-- AND (S), R297. -/
  | andOp (g : Guard) (d a b : Nat)
  /-- AND_IMMEDIATE (S), R297. -/
  | andImm (g : Guard) (d a imm : Nat)
  /-- OR (S), R340. -/
  | orOp (g : Guard) (d a b : Nat)
  /-- OR_IMMEDIATE (S), R340. -/
  | orImm (g : Guard) (d a imm : Nat)
  /-- XOR (S), R383. -/
  | xorOp (g : Guard) (d a b : Nat)
  /-- XOR_IMMEDIATE (S), R383. -/
  | xorImm (g : Guard) (d a imm : Nat)
  /-- SHL (S), R348. -/
  | shl (g : Guard) (d a b : Nat)
  /-- SHL_IMMEDIATE (S), R348. -/
  | shlImm (g : Guard) (d a imm : Nat)
  /-- SHR (S), R348. -/
  | shr (g : Guard) (d a b : Nat)
  /-- SHR_IMMEDIATE (S), R348. -/
  | shrImm (g : Guard) (d a imm : Nat)
  /-- SAR (S), R348. -/
  | sar (g : Guard) (d a b : Nat)
  /-- SAR_IMMEDIATE (S), R348. -/
  | sarImm (g : Guard) (d a imm : Nat)
  /-- MIN (S), R330. -/
  | minOp (g : Guard) (d a b nat : Nat)
  /-- MAX (S), R330. -/
  | maxOp (g : Guard) (d a b nat : Nat)
  /-- CLZ (S), R302. -/
  | clz (g : Guard) (d a : Nat)
  /-- POPC (S), R343. -/
  | popc (g : Guard) (d a : Nat)
  /-- LI (S), R328. -/
  | li (g : Guard) (d imm : Nat)
  /-- LIH (S), R328. -/
  | lih (g : Guard) (d imm : Nat)
  /-- SEL (S), R350. -/
  | sel (g : Guard) (d a b p : Nat)
  /-- CMP (S), R303. -/
  | cmp (g : Guard) (d a b nat cond isImm imm : Nat)
  /-- PLOG (S), R342. -/
  | plog (g : Guard) (pd pa pb tt : Nat)
  /-- LDS (S), R326. -/
  | lds (g : Guard) (d a nat size off : Nat)
  /-- STS (S), R353. -/
  | sts (g : Guard) (d a size off : Nat)
  /-- XCP_S (S), R51. -/
  | xcpS (g : Guard) (f d s u : Nat)
  /-- VADD (VA or VB), R360. -/
  | vadd (g : Guard) (d a b t : Nat)
  /-- VADD_LONG (VA or VB), R360. -/
  | vaddLong (g : Guard) (d a b t na aa nb ab clp sc rm rmo : Nat)
  /-- VSUB (VA or VB), R360. -/
  | vsub (g : Guard) (d a b t : Nat)
  /-- VSUB_LONG (VA or VB), R360. -/
  | vsubLong (g : Guard) (d a b t na aa nb ab clp sc rm rmo : Nat)
  /-- VMUL (VA or VB), R360. -/
  | vmul (g : Guard) (d a b t : Nat)
  /-- VMUL_LONG (VA or VB), R360. -/
  | vmulLong (g : Guard) (d a b t na aa nb ab clp sc rm rmo : Nat)
  /-- VFMA (VA or VB), R367. -/
  | vfma (g : Guard) (d a b t c na aa nb ab nc ac clp sc rm rmo : Nat)
  /-- VMIN (VA or VB), R360. -/
  | vmin (g : Guard) (d a b t : Nat)
  /-- VMIN_LONG (VA or VB), R360. -/
  | vminLong (g : Guard) (d a b t na aa nb ab clp sc rm rmo : Nat)
  /-- VMAX (VA or VB), R360. -/
  | vmax (g : Guard) (d a b t : Nat)
  /-- VMAX_LONG (VA or VB), R360. -/
  | vmaxLong (g : Guard) (d a b t na aa nb ab clp sc rm rmo : Nat)
  /-- VAND (VA or VB), R361. -/
  | vand (g : Guard) (d a b t : Nat)
  /-- VOR (VA or VB), R361. -/
  | vor (g : Guard) (d a b t : Nat)
  /-- VXOR (VA or VB), R361. -/
  | vxor (g : Guard) (d a b t : Nat)
  /-- VSHL (VA or VB), R376. -/
  | vshl (g : Guard) (d a b t : Nat)
  /-- VSHR (VA or VB), R376. -/
  | vshr (g : Guard) (d a b t : Nat)
  /-- VSAR (VA or VB), R376. -/
  | vsar (g : Guard) (d a b t : Nat)
  /-- VCMP (VA or VB), R364. -/
  | vcmp (g : Guard) (d a b t na aa nb ab cond : Nat)
  /-- VSEL (VA or VB), R377. -/
  | vsel (g : Guard) (d a b t c : Nat)
  /-- VCVT (VA or VB), R365. -/
  | vcvt (g : Guard) (d a t na aa clp sc rm rmo dc : Nat)
  /-- VRCP (VA or VB), R366. -/
  | vrcp (g : Guard) (d a t : Nat)
  /-- VRCP_LONG (VA or VB), R366. -/
  | vrcpLong (g : Guard) (d a t na aa clp sc rm rmo : Nat)
  /-- VRSQ (VA or VB), R366. -/
  | vrsq (g : Guard) (d a t : Nat)
  /-- VRSQ_LONG (VA or VB), R366. -/
  | vrsqLong (g : Guard) (d a t na aa clp sc rm rmo : Nat)
  /-- VEXP (VA or VB), R366. -/
  | vexp (g : Guard) (d a t : Nat)
  /-- VEXP_LONG (VA or VB), R366. -/
  | vexpLong (g : Guard) (d a t na aa clp sc rm rmo : Nat)
  /-- VLOG (VA or VB), R366. -/
  | vlog (g : Guard) (d a t : Nat)
  /-- VLOG_LONG (VA or VB), R366. -/
  | vlogLong (g : Guard) (d a t na aa clp sc rm rmo : Nat)
  /-- VSUM (VA or VB), R374. -/
  | vsum (g : Guard) (d a t : Nat)
  /-- VSUM_LONG (VA or VB), R374. -/
  | vsumLong (g : Guard) (d a t na aa clp sc rm rmo : Nat)
  /-- VRMAX (VA or VB), R374. -/
  | vrmax (g : Guard) (d a t : Nat)
  /-- VRMAX_LONG (VA or VB), R374. -/
  | vrmaxLong (g : Guard) (d a t na aa : Nat)
  /-- VPERM (VA or VB), R372. -/
  | vperm (g : Guard) (d a b t : Nat)
  /-- VBCAST (VA or VB), R363. -/
  | vbcast (g : Guard) (d a t : Nat)
  /-- VBCAST_LONG (VA or VB), R363. -/
  | vbcastLong (g : Guard) (d a t lane : Nat)
  /-- VIOTA (VA or VB), R368. -/
  | viota (g : Guard) (d t : Nat)
  /-- VLI (VA or VB), R371. -/
  | vli (g : Guard) (d t imm : Nat)
  /-- VLD (VA or VB), R103. -/
  | vld (g : Guard) (r ar off : Nat)
  /-- VLD_LONG (VA or VB), R103. -/
  | vldLong (g : Guard) (r ar off step : Nat)
  /-- VST (VA or VB), R103. -/
  | vst (g : Guard) (r ar off : Nat)
  /-- VST_LONG (VA or VB), R103. -/
  | vstLong (g : Guard) (r ar off step : Nat)
  /-- VRNG (VA or VB), R111. -/
  | vrng (g : Guard) (d a b t : Nat)
  /-- VPOPC (VA or VB), R373. -/
  | vpopc (g : Guard) (d a t : Nat)
  /-- VANY (VA or VB), R362. -/
  | vany (g : Guard) (pd a : Nat)
  /-- XCP_V (VA or VB), R51. -/
  | xcpV (g : Guard) (f d s u : Nat)
  /-- XCP_V_LANE (VA or VB), R49. -/
  | xcpVLane (g : Guard) (f d s u lane : Nat)
  /-- MGW (M), R158. -/
  | mgw (g : Guard) (gw : Nat)
  /-- MGREQ (M), R159. -/
  | mgreq (g : Guard) (ma mb n : Nat)
  /-- MPACK (M), R161. -/
  | mpack (g : Guard) (z im off n rev str start step : Nat)
  /-- MLDB (M), R164. -/
  | mldb (g : Guard) (lane entry im : Nat)
  /-- MLDB_LONG (M), R164. -/
  | mldbLong (g : Guard) (lane entry im off lstep estep : Nat)
  /-- MMUL (M), R166. -/
  | mmul (g : Guard) (q z e : Nat)
  /-- MMAC (M), R166. -/
  | mmac (g : Guard) (q z e : Nat)
  /-- MCLR (M), R174. -/
  | mclr (g : Guard) (q : Nat)
  /-- MEXT (M), R172. -/
  | mext (g : Guard) (q im first count wide off : Nat)
  /-- MCVT (M), R173. -/
  | mcvt (g : Guard) (q im first count off : Nat)
  /-- MSHR (M), R174. -/
  | mshr (g : Guard) (q k : Nat)
  /-- MNEG (M), R174. -/
  | mneg (g : Guard) (q : Nat)
  /-- MLDQ (M), R175. -/
  | mldq (g : Guard) (q im : Nat)
  /-- MLDQ_LONG (M), R175. -/
  | mldqLong (g : Guard) (q im off : Nat)
  /-- MSTQ (M), R175. -/
  | mstq (g : Guard) (q im : Nat)
  /-- MSTQ_LONG (M), R175. -/
  | mstqLong (g : Guard) (q im off : Nat)
  /-- XCP_M (M), R51. -/
  | xcpM (g : Guard) (f d s u : Nat)
  /-- CPY (CA or CB), R304. -/
  | cpy (g : Guard) (sstep dstep src dst cnt : Nat)
  /-- CPYX (CA or CB), R305. -/
  | cpyx (g : Guard) (core sstep dstep src dst cnt : Nat)
  /-- DACT (CA or CB), R308. -/
  | dact (g : Guard) (vch bank h row : Nat)
  /-- DRD (CA or CB), R311. -/
  | drd (g : Guard) (vch bank col line step : Nat)
  /-- DWR (CA or CB), R313. -/
  | dwr (g : Guard) (vch bank col line step : Nat)
  /-- DPRE (CA or CB), R310. -/
  | dpre (g : Guard) (vch bank all : Nat)
  /-- DREF (CA or CB), R312. -/
  | dref (g : Guard) (vch bank : Nat)
  /-- RLD (CA or CB), R345. -/
  | rld (g : Guard) (r line idx : Nat)
  /-- RSET (CA or CB), R347. -/
  | rset (g : Guard) (r fld val : Nat)
  /-- ENQ (CA or CB), R317. -/
  | enq (g : Guard) (rs rd scope acq rel kind off : Nat)
  /-- AOP (CA or CB), R298. -/
  | aop (g : Guard) (r fn size scope acq rel opl resl foff : Nat)
  /-- FSEND (CA or CB), R276. -/
  | fsend (g : Guard) (r line cnt port : Nat)
  /-- FPUT (CA or CB), R320. -/
  | fput (g : Guard) (rs rd scope rel flag : Nat)
  /-- XCP_C (CA or CB), R51. -/
  | xcpC (g : Guard) (f d s u : Nat)
  /-- HEADER_BREAK, R54. -/
  | headerBreak (vf core : Nat)
  /-- TRANSFER_TAKES_EFFECT, R45. -/
  | transferTakesEffect (vf core : Nat)
  /-- LOOP_PASS_END, R117. -/
  | loopPassEnd (vf core : Nat)
  /-- REGISTER_RESULT, R37. -/
  | registerResult (vf core : Nat)
  /-- SCRATCHPAD_TOUCH, R124. -/
  | scratchpadTouch (vf core : Nat)
  /-- DRD_LANDING, R125. -/
  | drdLanding (vf core : Nat)
  /-- CPYX_ARRIVAL, R305. -/
  | cpyxArrival (vf core : Nat)
  /-- FSEND_LANDING, R276. -/
  | fsendLanding (vf core : Nat)
  /-- LINK_TIMING_FAULT, R277. -/
  | linkTimingFault (vf core : Nat)
  /-- XLT_RESULT, R148. -/
  | xltResult (vf core : Nat)
  /-- MPACK_RESULT, R162. -/
  | mpackResult (vf core : Nat)
  /-- MLDB_ENTRY_WRITE, R164. -/
  | mldbEntryWrite (vf core : Nat)
  /-- MULTIPLY_RESULT, R168. -/
  | multiplyResult (vf core : Nat)
  /-- ACCUMULATOR_RESULT, R174. -/
  | accumulatorResult (vf core : Nat)
  /-- MEXT_WRITE, R172. -/
  | mextWrite (vf core : Nat)
  /-- MLDQ_RESULT, R175. -/
  | mldqResult (vf core : Nat)
  /-- VCVT_BLOCK_RESULT, R96. -/
  | vcvtBlockResult (vf core : Nat)
  /-- ENQ_START_CHECK, R208. -/
  | enqStartCheck (vf core : Nat)
  /-- ENQ_READ_PHASE, R208. -/
  | enqReadPhase (vf core : Nat)
  /-- UNTIMED_SCRATCH_ACCESS, R128. -/
  | untimedScratchAccess (vf core cmd : Nat)
  /-- ENGINE_PIECE, R141. -/
  | enginePiece (vf core cmd : Nat)
  /-- ENGINE_WALK, R155. -/
  | engineWalk (vf core cmd : Nat)
  /-- AOP_PERFORM, R210. -/
  | aopPerform (vf core cmd : Nat)
  /-- FLAG_WORD_WRITE, R201. -/
  | flagWordWrite (vf core cmd : Nat)
  /-- STREAM_REPLAY, R212. -/
  | streamReplay (vf core dev scope seq : Nat)
  /-- PORT_DOWN, R278. -/
  | portDown (port : Nat)
  /-- DESTINATION_UNREACHABLE, R278. -/
  | destinationUnreachable (vf core cmd : Nat)
  /-- REFRESH_DONE, R312. -/
  | refreshDone (vf vch bank : Nat)
  /-- REFRESH_DEADLINE, R137. -/
  | refreshDeadline (vf : Nat)
  /-- REFRESH_KEEPER, R138. -/
  | refreshKeeper (vf : Nat)
  /-- SERVICE_WINDOW, R142. -/
  | serviceWindow (vf vch : Nat)
  /-- WAKE_START, R185. -/
  | wakeStart (vf core dom : Nat)
  /-- DOMAIN_READY, R183. -/
  | domainReady (vf core dom : Nat)
  /-- NOTICE_LAPSE, R177. -/
  | noticeLapse (vf core : Nat)
  /-- BARRIER_ARRIVAL, R220. -/
  | barrierArrival (vf bar member : Nat)
  /-- BARRIER_TIMEOUT, R222. -/
  | barrierTimeout (vf bar : Nat)
  /-- ABSENCE_TOKEN, R222. -/
  | absenceToken (vf bar member : Nat)
  /-- WATCHDOG, R236. -/
  | watchdog (vf : Nat)
  /-- HOLD_REQUEST, R21. -/
  | holdRequest (vf n : Nat)
  /-- HOLD_START, R17. -/
  | holdStart (vf : Nat)
  /-- HOLD_END, R22. -/
  | holdEnd (vf : Nat)
  /-- STOP_NOTICE, R28. -/
  | stopNotice (vf dev pt : Nat)
  /-- ALIGNMENT_FLIT_SEND, R28. -/
  | alignmentFlitSend (vf : Nat)
  /-- ALIGNMENT_FLIT_ARRIVAL, R28. -/
  | alignmentFlitArrival (vf : Nat)
  /-- DROOP_STRETCH, R29. -/
  | droopStretch (cycles lost : Nat)
  /-- STRETCH_NOTICE, R30. -/
  | stretchNotice (vf lost : Nat)
  /-- ALIGNMENT_PAUSE, R30. -/
  | alignmentPause (vf : Nat)
  /-- RAIL_ERROR, R12. -/
  | railError
  /-- FAULT_HANDLER, R246. -/
  | faultHandler (vf : Nat)
  /-- BELFRY_PANIC, R247. -/
  | belfryPanic
  /-- PAGE_MOVE, R153. -/
  | pageMove (vf page unmap prow : Nat)
  /-- TASK_DISPATCH, R232. -/
  | taskDispatch (vf : Nat)
  /-- TASK_START, R232. -/
  | taskStart (vf : Nat)
  /-- TASK_COMPLETION, R235. -/
  | taskCompletion (vf : Nat)
  /-- LAUNCH_NODE_READ, R231. -/
  | launchNodeRead (vf core : Nat)
  /-- PREEMPTION_REQUEST, R249. -/
  | preemptionRequest (vf stopPt : Nat)
  /-- CLAMP_EFFECT, R249. -/
  | clampEffect (vf : Nat)
  /-- PARK_FREEZE, R251. -/
  | parkFreeze (vf : Nat)
  /-- PARK_DEADLINE, R251. -/
  | parkDeadline (vf : Nat)
  /-- FORCED_STOP, R252. -/
  | forcedStop (vf : Nat)
  /-- DRAIN_TIMEOUT, R253. -/
  | drainTimeout (vf : Nat)
  /-- CONTEXT_SAVE, R254. -/
  | contextSave (vf : Nat)
  /-- RESUME, R255. -/
  | resume (vf : Nat)
  /-- CHANNEL_REASSIGNMENT, R265. -/
  | channelReassignment (ch vf : Nat)
  /-- END_SLICE, R263. -/
  | endSlice (vf : Nat)
  /-- RESHAPE, R269. -/
  | reshape (vf m : Nat)
  /-- PAGE_OUT, R266. -/
  | pageOut (vf : Nat)
  /-- COLD_RESTORE, R267. -/
  | coldRestore (vf : Nat)
  /-- QSUB_WRITE, R279. -/
  | qsubWrite (vf addr : Nat)
  /-- FEATURE_COMMIT, R280. -/
  | featureCommit (vf : Nat)
  /-- EMLO_READ, R192. -/
  | emloRead (vf : Nat)
  /-- EMHI_READ, R192. -/
  | emhiRead (vf : Nat)
  /-- ENERGY_METER_CLEAR, R191. -/
  | energyMeterClear (vf : Nat)
  /-- PCAP_WRITE, R288. -/
  | pcapWrite (val : Nat)
  /-- MMIO_WRITE, R279. -/
  | mmioWrite (fn off val : Nat)
  /-- REGISTER_IMAGE, R290. -/
  | registerImage (pf : Nat)
  /-- UNREGISTER_IMAGE, R290. -/
  | unregisterImage (pf : Nat)
  /-- CREATE_TENANT, R290. -/
  | createTenant (pf : Nat)
  /-- DELETE_TENANT, R290. -/
  | deleteTenant (pf : Nat)
  /-- CREATE_LOGICAL_PARTITION, R290. -/
  | createLogicalPartition (pf : Nat)
  /-- DELETE_LOGICAL_PARTITION, R290. -/
  | deleteLogicalPartition (pf : Nat)
  /-- LIFE_CYCLE_NONCE, R290. -/
  | lifeCycleNonce (pf : Nat)
  /-- LIFE_CYCLE_CHANGE, R285. -/
  | lifeCycleChange (pf : Nat)
  /-- ATTESTATION_REPORT, R284. -/
  | attestationReport (pf : Nat)
  /-- ATTESTATION_KEY, R290. -/
  | attestationKey (pf : Nat)
  /-- DEBUG_ENABLE, R291. -/
  | debugEnable (pf : Nat)
  /-- SET_BREAK_MASK, R291. -/
  | setBreakMask (pf : Nat)
  /-- DEBUG_RELEASE, R291. -/
  | debugRelease (pf : Nat)
  /-- PACKAGE_RESET, R282. -/
  | packageReset
  /-- PORT_TRAINING, R272. -/
  | portTraining (port dom cls : Nat)
  /-- SYNC_FLIT, R15. -/
  | syncFlit (dom val : Nat)
  /-- THERMAL_SAMPLE, R287. -/
  | thermalSample (temp power : Nat)
  /-- MAINTENANCE_CYCLE, R31. -/
  | maintenanceCycle (vf : Nat)
  /-- ENERGY_METER_CHARGE, R193. -/
  | energyMeterCharge (vf amount : Nat)
  /-- POWER_LOSS, R286. -/
  | powerLoss
  /-- ABSENCE_TOKEN_WITHDRAWN, R222. -/
  | absenceTokenWithdrawn (vf bar member : Nat)
  /-- UNTIMED_FLIT_RECEIVED, R212. -/
  | untimedFlitReceived (dev srcCore scope seq : Nat)
  /-- ALIGNMENT_PAUSE_END, R30. -/
  | alignmentPauseEnd (vf : Nat)
  /-- MAILBOX_UNKNOWN_CODE, R289. -/
  | mailboxUnknownCode (pf : Nat)
deriving DecidableEq, Repr

end Sys2Proof
end

