-- ==== Sys2Proof/WellFormed.lean ====
section
/-! DEFINITION. Well-formed ops and events: every operand inside its field, every code legal, every field that the op must
leave zero zero (04_encoding R58 to R68), and the op in a slot whose map holds it (R33). -/

namespace Sys2Proof

/-- The lane count of an element type code (07_vector R100), capped at the 128 lanes that VBCAST reaches (04_encoding R65). -/
def laneCount (t : Nat) : Nat :=
  match t with
  | 0 | 4 => 128
  | 1 | 5 | 8 | 9 => 128
  | 3 | 7 => 32
  | _ => 64

/-- The modifiers that VCVT accepts for a source type and destination code (06_numbers R92). -/
def vcvtLegal (t dc clp sc rmo : Nat) : Bool :=
  if 16 ≤ dc ∧ dc ≤ 22 then (t == 9 || t == 10) && clp == 0 && sc == 0 && rmo == 0
  else if 10 < dc then false
  else if 8 ≤ dc then true
  else if 8 ≤ t then decide (clp ≤ 1)
  else decide (clp ≤ 1) && sc == 0 && rmo == 0

/-- The FORMAT codes of a record (09_memory R143). -/
def formatLegal (v : Nat) : Bool := decide (v ≤ 10) || (decide (16 ≤ v) && decide (v ≤ 22))

/-- An RSET value whose FORMAT, CHECK or SPACE code is legal; a value with a bit above its field is left to `rsetZero` (09_memory R145). -/
def rsetLegal (fld val : Nat) : Bool :=
  match fld with
  | 7 => formatLegal (val % 256)
  | 8 => decide (val % 16 ≤ 3)
  | 9 => decide (val % 16 ≤ 4)
  | _ => true

/-- An RSET value with no bit above its field (09_memory R145). -/
def rsetZero (fld val : Nat) : Bool :=
  match fld with
  | 5 | 6 => decide (val < 65536)
  | 7 => decide (val < 256)
  | 8 | 9 => decide (val < 16)
  | 10 => decide (val < 16777216)
  | _ => true

/-- The predicate field is a predicate number and the invert bit a bit (04_encoding R57). -/
def Guard.inRange (g : Guard) : Bool := decide (g.pred < 32 ∧ g.pn < 2)

/-- Every operand fits the field of its encoding (04_encoding R62 to R68); an event has no encoding. -/
def Instr.inRange : Instr → Bool
  | .nop g => decide (g.inRange = true)
  | .br g off => decide (g.inRange = true ∧ off < 524288)
  | .brk g ka => decide (g.inRange = true ∧ ka < 16)
  | .call g off => decide (g.inRange = true ∧ off < 524288)
  | .ret g => decide (g.inRange = true)
  | .loop g kn ki body stages cl res => decide (g.inRange = true ∧ kn < 16 ∧ ki < 16 ∧ body < 128 ∧ stages < 16 ∧ cl < 2 ∧ res < 2147483648)
  | .yieldOp g => decide (g.inRange = true)
  | .endOp g => decide (g.inRange = true)
  | .trap g code => decide (g.inRange = true ∧ code < 524288)
  | .wake g dom mode => decide (g.inRange = true ∧ dom < 32 ∧ mode < 4)
  | .sleep g dom mode => decide (g.inRange = true ∧ dom < 32 ∧ mode < 4)
  | .wstat g kd dom => decide (g.inRange = true ∧ kd < 16 ∧ dom < 32)
  | .leave g mask => decide (g.inRange = true ∧ mask < 16)
  | .xlt g hd ka => decide (g.inRange = true ∧ hd < 16 ∧ ka < 16)
  | .hinv g hd => decide (g.inRange = true ∧ hd < 16)
  | .setfmt g ka => decide (g.inRange = true ∧ ka < 16)
  | .setfmtLong g val => decide (g.inRange = true ∧ val < 4)
  | .bara g bar => decide (g.inRange = true ∧ bar < 16)
  | .barw g bar => decide (g.inRange = true ∧ bar < 16)
  | .barwTimeout g bar beats => decide (g.inRange = true ∧ bar < 16 ∧ beats < 4294967296)
  | .phase g => decide (g.inRange = true)
  | .launch g kq kn => decide (g.inRange = true ∧ kq < 16 ∧ kn < 16)
  | .fence g scope kind => decide (g.inRange = true ∧ scope < 4 ∧ kind < 4)
  | .tabr g kd clk => decide (g.inRange = true ∧ kd < 16 ∧ clk < 2)
  | .kli g kd imm => decide (g.inRange = true ∧ kd < 16 ∧ imm < 4294967296)
  | .kcp g kd ka => decide (g.inRange = true ∧ kd < 16 ∧ ka < 16)
  | .xcpK g f d s u => decide (g.inRange = true ∧ f < 8 ∧ d < 64 ∧ s < 64 ∧ u < 16)
  | .add g d a b => decide (g.inRange = true ∧ d < 64 ∧ a < 64 ∧ b < 64)
  | .addImm g d a imm => decide (g.inRange = true ∧ d < 64 ∧ a < 64 ∧ imm < 4294967296)
  | .addi g d a imm => decide (g.inRange = true ∧ d < 64 ∧ a < 64 ∧ imm < 128)
  | .sub g d a b => decide (g.inRange = true ∧ d < 64 ∧ a < 64 ∧ b < 64)
  | .subImm g d a imm => decide (g.inRange = true ∧ d < 64 ∧ a < 64 ∧ imm < 4294967296)
  | .adc g d a b ci co => decide (g.inRange = true ∧ d < 64 ∧ a < 64 ∧ b < 64 ∧ ci < 32 ∧ co < 32)
  | .sbb g d a b ci co => decide (g.inRange = true ∧ d < 64 ∧ a < 64 ∧ b < 64 ∧ ci < 32 ∧ co < 32)
  | .mul g d a b => decide (g.inRange = true ∧ d < 64 ∧ a < 64 ∧ b < 64)
  | .mulImm g d a imm => decide (g.inRange = true ∧ d < 64 ∧ a < 64 ∧ imm < 4294967296)
  | .mulh g d a b nat => decide (g.inRange = true ∧ d < 64 ∧ a < 64 ∧ b < 64 ∧ nat < 2)
  | .div g d a b nat => decide (g.inRange = true ∧ d < 64 ∧ a < 64 ∧ b < 64 ∧ nat < 2)
  | .andOp g d a b => decide (g.inRange = true ∧ d < 64 ∧ a < 64 ∧ b < 64)
  | .andImm g d a imm => decide (g.inRange = true ∧ d < 64 ∧ a < 64 ∧ imm < 4294967296)
  | .orOp g d a b => decide (g.inRange = true ∧ d < 64 ∧ a < 64 ∧ b < 64)
  | .orImm g d a imm => decide (g.inRange = true ∧ d < 64 ∧ a < 64 ∧ imm < 4294967296)
  | .xorOp g d a b => decide (g.inRange = true ∧ d < 64 ∧ a < 64 ∧ b < 64)
  | .xorImm g d a imm => decide (g.inRange = true ∧ d < 64 ∧ a < 64 ∧ imm < 4294967296)
  | .shl g d a b => decide (g.inRange = true ∧ d < 64 ∧ a < 64 ∧ b < 64)
  | .shlImm g d a imm => decide (g.inRange = true ∧ d < 64 ∧ a < 64 ∧ imm < 4294967296)
  | .shr g d a b => decide (g.inRange = true ∧ d < 64 ∧ a < 64 ∧ b < 64)
  | .shrImm g d a imm => decide (g.inRange = true ∧ d < 64 ∧ a < 64 ∧ imm < 4294967296)
  | .sar g d a b => decide (g.inRange = true ∧ d < 64 ∧ a < 64 ∧ b < 64)
  | .sarImm g d a imm => decide (g.inRange = true ∧ d < 64 ∧ a < 64 ∧ imm < 4294967296)
  | .minOp g d a b nat => decide (g.inRange = true ∧ d < 64 ∧ a < 64 ∧ b < 64 ∧ nat < 2)
  | .maxOp g d a b nat => decide (g.inRange = true ∧ d < 64 ∧ a < 64 ∧ b < 64 ∧ nat < 2)
  | .clz g d a => decide (g.inRange = true ∧ d < 64 ∧ a < 64)
  | .popc g d a => decide (g.inRange = true ∧ d < 64 ∧ a < 64)
  | .li g d imm => decide (g.inRange = true ∧ d < 64 ∧ imm < 4294967296)
  | .lih g d imm => decide (g.inRange = true ∧ d < 64 ∧ imm < 4294967296)
  | .sel g d a b p => decide (g.inRange = true ∧ d < 64 ∧ a < 64 ∧ b < 64 ∧ p < 32)
  | .cmp g d a b nat cond isImm imm => decide (g.inRange = true ∧ d < 64 ∧ a < 64 ∧ b < 64 ∧ nat < 2 ∧ cond < 8 ∧ isImm < 2 ∧ imm < 16777216)
  | .plog g pd pa pb tt => decide (g.inRange = true ∧ pd < 32 ∧ pa < 32 ∧ pb < 32 ∧ tt < 16)
  | .lds g d a nat size off => decide (g.inRange = true ∧ d < 64 ∧ a < 64 ∧ nat < 2 ∧ size < 4 ∧ off < 1048576)
  | .sts g d a size off => decide (g.inRange = true ∧ d < 64 ∧ a < 64 ∧ size < 4 ∧ off < 1048576)
  | .xcpS g f d s u => decide (g.inRange = true ∧ f < 8 ∧ d < 64 ∧ s < 64 ∧ u < 16)
  | .vadd g d a b t => decide (g.inRange = true ∧ d < 32 ∧ a < 32 ∧ b < 32 ∧ t < 16)
  | .vaddLong g d a b t na aa nb ab clp sc rm rmo => decide (g.inRange = true ∧ d < 32 ∧ a < 32 ∧ b < 32 ∧ t < 16 ∧ na < 2 ∧ aa < 2 ∧ nb < 2 ∧ ab < 2 ∧ clp < 4 ∧ sc < 16 ∧ rm < 4 ∧ rmo < 2)
  | .vsub g d a b t => decide (g.inRange = true ∧ d < 32 ∧ a < 32 ∧ b < 32 ∧ t < 16)
  | .vsubLong g d a b t na aa nb ab clp sc rm rmo => decide (g.inRange = true ∧ d < 32 ∧ a < 32 ∧ b < 32 ∧ t < 16 ∧ na < 2 ∧ aa < 2 ∧ nb < 2 ∧ ab < 2 ∧ clp < 4 ∧ sc < 16 ∧ rm < 4 ∧ rmo < 2)
  | .vmul g d a b t => decide (g.inRange = true ∧ d < 32 ∧ a < 32 ∧ b < 32 ∧ t < 16)
  | .vmulLong g d a b t na aa nb ab clp sc rm rmo => decide (g.inRange = true ∧ d < 32 ∧ a < 32 ∧ b < 32 ∧ t < 16 ∧ na < 2 ∧ aa < 2 ∧ nb < 2 ∧ ab < 2 ∧ clp < 4 ∧ sc < 16 ∧ rm < 4 ∧ rmo < 2)
  | .vfma g d a b t c na aa nb ab nc ac clp sc rm rmo => decide (g.inRange = true ∧ d < 32 ∧ a < 32 ∧ b < 32 ∧ t < 16 ∧ c < 32 ∧ na < 2 ∧ aa < 2 ∧ nb < 2 ∧ ab < 2 ∧ nc < 2 ∧ ac < 2 ∧ clp < 4 ∧ sc < 16 ∧ rm < 4 ∧ rmo < 2)
  | .vmin g d a b t => decide (g.inRange = true ∧ d < 32 ∧ a < 32 ∧ b < 32 ∧ t < 16)
  | .vminLong g d a b t na aa nb ab clp sc rm rmo => decide (g.inRange = true ∧ d < 32 ∧ a < 32 ∧ b < 32 ∧ t < 16 ∧ na < 2 ∧ aa < 2 ∧ nb < 2 ∧ ab < 2 ∧ clp < 4 ∧ sc < 16 ∧ rm < 4 ∧ rmo < 2)
  | .vmax g d a b t => decide (g.inRange = true ∧ d < 32 ∧ a < 32 ∧ b < 32 ∧ t < 16)
  | .vmaxLong g d a b t na aa nb ab clp sc rm rmo => decide (g.inRange = true ∧ d < 32 ∧ a < 32 ∧ b < 32 ∧ t < 16 ∧ na < 2 ∧ aa < 2 ∧ nb < 2 ∧ ab < 2 ∧ clp < 4 ∧ sc < 16 ∧ rm < 4 ∧ rmo < 2)
  | .vand g d a b t => decide (g.inRange = true ∧ d < 32 ∧ a < 32 ∧ b < 32 ∧ t < 16)
  | .vor g d a b t => decide (g.inRange = true ∧ d < 32 ∧ a < 32 ∧ b < 32 ∧ t < 16)
  | .vxor g d a b t => decide (g.inRange = true ∧ d < 32 ∧ a < 32 ∧ b < 32 ∧ t < 16)
  | .vshl g d a b t => decide (g.inRange = true ∧ d < 32 ∧ a < 32 ∧ b < 32 ∧ t < 16)
  | .vshr g d a b t => decide (g.inRange = true ∧ d < 32 ∧ a < 32 ∧ b < 32 ∧ t < 16)
  | .vsar g d a b t => decide (g.inRange = true ∧ d < 32 ∧ a < 32 ∧ b < 32 ∧ t < 16)
  | .vcmp g d a b t na aa nb ab cond => decide (g.inRange = true ∧ d < 32 ∧ a < 32 ∧ b < 32 ∧ t < 16 ∧ na < 2 ∧ aa < 2 ∧ nb < 2 ∧ ab < 2 ∧ cond < 8)
  | .vsel g d a b t c => decide (g.inRange = true ∧ d < 32 ∧ a < 32 ∧ b < 32 ∧ t < 16 ∧ c < 32)
  | .vcvt g d a t na aa clp sc rm rmo dc => decide (g.inRange = true ∧ d < 32 ∧ a < 32 ∧ t < 16 ∧ na < 2 ∧ aa < 2 ∧ clp < 4 ∧ sc < 16 ∧ rm < 4 ∧ rmo < 2 ∧ dc < 32)
  | .vrcp g d a t => decide (g.inRange = true ∧ d < 32 ∧ a < 32 ∧ t < 16)
  | .vrcpLong g d a t na aa clp sc rm rmo => decide (g.inRange = true ∧ d < 32 ∧ a < 32 ∧ t < 16 ∧ na < 2 ∧ aa < 2 ∧ clp < 4 ∧ sc < 16 ∧ rm < 4 ∧ rmo < 2)
  | .vrsq g d a t => decide (g.inRange = true ∧ d < 32 ∧ a < 32 ∧ t < 16)
  | .vrsqLong g d a t na aa clp sc rm rmo => decide (g.inRange = true ∧ d < 32 ∧ a < 32 ∧ t < 16 ∧ na < 2 ∧ aa < 2 ∧ clp < 4 ∧ sc < 16 ∧ rm < 4 ∧ rmo < 2)
  | .vexp g d a t => decide (g.inRange = true ∧ d < 32 ∧ a < 32 ∧ t < 16)
  | .vexpLong g d a t na aa clp sc rm rmo => decide (g.inRange = true ∧ d < 32 ∧ a < 32 ∧ t < 16 ∧ na < 2 ∧ aa < 2 ∧ clp < 4 ∧ sc < 16 ∧ rm < 4 ∧ rmo < 2)
  | .vlog g d a t => decide (g.inRange = true ∧ d < 32 ∧ a < 32 ∧ t < 16)
  | .vlogLong g d a t na aa clp sc rm rmo => decide (g.inRange = true ∧ d < 32 ∧ a < 32 ∧ t < 16 ∧ na < 2 ∧ aa < 2 ∧ clp < 4 ∧ sc < 16 ∧ rm < 4 ∧ rmo < 2)
  | .vsum g d a t => decide (g.inRange = true ∧ d < 32 ∧ a < 32 ∧ t < 16)
  | .vsumLong g d a t na aa clp sc rm rmo => decide (g.inRange = true ∧ d < 32 ∧ a < 32 ∧ t < 16 ∧ na < 2 ∧ aa < 2 ∧ clp < 4 ∧ sc < 16 ∧ rm < 4 ∧ rmo < 2)
  | .vrmax g d a t => decide (g.inRange = true ∧ d < 32 ∧ a < 32 ∧ t < 16)
  | .vrmaxLong g d a t na aa => decide (g.inRange = true ∧ d < 32 ∧ a < 32 ∧ t < 16 ∧ na < 2 ∧ aa < 2)
  | .vperm g d a b t => decide (g.inRange = true ∧ d < 32 ∧ a < 32 ∧ b < 32 ∧ t < 16)
  | .vbcast g d a t => decide (g.inRange = true ∧ d < 32 ∧ a < 32 ∧ t < 16)
  | .vbcastLong g d a t lane => decide (g.inRange = true ∧ d < 32 ∧ a < 32 ∧ t < 16 ∧ lane < 128)
  | .viota g d t => decide (g.inRange = true ∧ d < 32 ∧ t < 16)
  | .vli g d t imm => decide (g.inRange = true ∧ d < 32 ∧ t < 16 ∧ imm < 4294967296)
  | .vld g r ar off => decide (g.inRange = true ∧ r < 32 ∧ ar < 8 ∧ off < 2048)
  | .vldLong g r ar off step => decide (g.inRange = true ∧ r < 32 ∧ ar < 8 ∧ off < 2048 ∧ step < 4096)
  | .vst g r ar off => decide (g.inRange = true ∧ r < 32 ∧ ar < 8 ∧ off < 2048)
  | .vstLong g r ar off step => decide (g.inRange = true ∧ r < 32 ∧ ar < 8 ∧ off < 2048 ∧ step < 4096)
  | .vrng g d a b t => decide (g.inRange = true ∧ d < 32 ∧ a < 32 ∧ b < 32 ∧ t < 16)
  | .vpopc g d a t => decide (g.inRange = true ∧ d < 32 ∧ a < 32 ∧ t < 16)
  | .vany g pd a => decide (g.inRange = true ∧ pd < 32 ∧ a < 32)
  | .xcpV g f d s u => decide (g.inRange = true ∧ f < 8 ∧ d < 64 ∧ s < 64 ∧ u < 16)
  | .xcpVLane g f d s u lane => decide (g.inRange = true ∧ f < 8 ∧ d < 64 ∧ s < 64 ∧ u < 16 ∧ lane < 32)
  | .mgw g gw => decide (g.inRange = true ∧ gw < 64)
  | .mgreq g ma mb n => decide (g.inRange = true ∧ ma < 16 ∧ mb < 16 ∧ n < 2048)
  | .mpack g z im off n rev str start step => decide (g.inRange = true ∧ z < 8 ∧ im < 8 ∧ off < 8192 ∧ n < 512 ∧ rev < 2 ∧ str < 4 ∧ start < 512 ∧ step < 2048)
  | .mldb g lane entry im => decide (g.inRange = true ∧ lane < 4 ∧ entry < 512 ∧ im < 8)
  | .mldbLong g lane entry im off lstep estep => decide (g.inRange = true ∧ lane < 4 ∧ entry < 512 ∧ im < 8 ∧ off < 8192 ∧ lstep < 512 ∧ estep < 512)
  | .mmul g q z e => decide (g.inRange = true ∧ q < 4 ∧ z < 8 ∧ e < 512)
  | .mmac g q z e => decide (g.inRange = true ∧ q < 4 ∧ z < 8 ∧ e < 512)
  | .mclr g q => decide (g.inRange = true ∧ q < 4)
  | .mext g q im first count wide off => decide (g.inRange = true ∧ q < 4 ∧ im < 8 ∧ first < 512 ∧ count < 512 ∧ wide < 2 ∧ off < 8192)
  | .mcvt g q im first count off => decide (g.inRange = true ∧ q < 4 ∧ im < 8 ∧ first < 512 ∧ count < 512 ∧ off < 8192)
  | .mshr g q k => decide (g.inRange = true ∧ q < 4 ∧ k < 512)
  | .mneg g q => decide (g.inRange = true ∧ q < 4)
  | .mldq g q im => decide (g.inRange = true ∧ q < 4 ∧ im < 8)
  | .mldqLong g q im off => decide (g.inRange = true ∧ q < 4 ∧ im < 8 ∧ off < 8192)
  | .mstq g q im => decide (g.inRange = true ∧ q < 4 ∧ im < 8)
  | .mstqLong g q im off => decide (g.inRange = true ∧ q < 4 ∧ im < 8 ∧ off < 8192)
  | .xcpM g f d s u => decide (g.inRange = true ∧ f < 8 ∧ d < 64 ∧ s < 64 ∧ u < 16)
  | .cpy g sstep dstep src dst cnt => decide (g.inRange = true ∧ sstep < 128 ∧ dstep < 128 ∧ src < 4096 ∧ dst < 4096 ∧ cnt < 256)
  | .cpyx g core sstep dstep src dst cnt => decide (g.inRange = true ∧ core < 512 ∧ sstep < 32 ∧ dstep < 32 ∧ src < 4096 ∧ dst < 4096 ∧ cnt < 256)
  | .dact g vch bank h row => decide (g.inRange = true ∧ vch < 128 ∧ bank < 16 ∧ h < 16 ∧ row < 65536)
  | .drd g vch bank col line step => decide (g.inRange = true ∧ vch < 128 ∧ bank < 16 ∧ col < 16 ∧ line < 4096 ∧ step < 64)
  | .dwr g vch bank col line step => decide (g.inRange = true ∧ vch < 128 ∧ bank < 16 ∧ col < 16 ∧ line < 4096 ∧ step < 64)
  | .dpre g vch bank all => decide (g.inRange = true ∧ vch < 128 ∧ bank < 16 ∧ all < 2)
  | .dref g vch bank => decide (g.inRange = true ∧ vch < 128 ∧ bank < 16)
  | .rld g r line idx => decide (g.inRange = true ∧ r < 16 ∧ line < 4096 ∧ idx < 8)
  | .rset g r fld val => decide (g.inRange = true ∧ r < 16 ∧ fld < 16 ∧ val < 4294967296)
  | .enq g rs rd scope acq rel kind off => decide (g.inRange = true ∧ rs < 16 ∧ rd < 16 ∧ scope < 4 ∧ acq < 2 ∧ rel < 2 ∧ kind < 8 ∧ off < 4294967296)
  | .aop g r fn size scope acq rel opl resl foff => decide (g.inRange = true ∧ r < 16 ∧ fn < 16 ∧ size < 4 ∧ scope < 4 ∧ acq < 2 ∧ rel < 2 ∧ opl < 4096 ∧ resl < 4096 ∧ foff < 256)
  | .fsend g r line cnt port => decide (g.inRange = true ∧ r < 16 ∧ line < 4096 ∧ cnt < 256 ∧ port < 32)
  | .fput g rs rd scope rel flag => decide (g.inRange = true ∧ rs < 16 ∧ rd < 16 ∧ scope < 4 ∧ rel < 2 ∧ flag < 4096)
  | .xcpC g f d s u => decide (g.inRange = true ∧ f < 8 ∧ d < 64 ∧ s < 64 ∧ u < 16)
  | .headerBreak _ _ => false
  | .transferTakesEffect _ _ => false
  | .loopPassEnd _ _ => false
  | .registerResult _ _ => false
  | .scratchpadTouch _ _ => false
  | .drdLanding _ _ => false
  | .cpyxArrival _ _ => false
  | .fsendLanding _ _ => false
  | .linkTimingFault _ _ => false
  | .xltResult _ _ => false
  | .mpackResult _ _ => false
  | .mldbEntryWrite _ _ => false
  | .multiplyResult _ _ => false
  | .accumulatorResult _ _ => false
  | .mextWrite _ _ => false
  | .mldqResult _ _ => false
  | .vcvtBlockResult _ _ => false
  | .enqStartCheck _ _ => false
  | .enqReadPhase _ _ => false
  | .untimedScratchAccess _ _ _ => false
  | .enginePiece _ _ _ => false
  | .engineWalk _ _ _ => false
  | .aopPerform _ _ _ => false
  | .flagWordWrite _ _ _ => false
  | .streamReplay _ _ _ _ _ => false
  | .portDown _ => false
  | .destinationUnreachable _ _ _ => false
  | .refreshDone _ _ _ => false
  | .refreshDeadline _ => false
  | .refreshKeeper _ => false
  | .serviceWindow _ _ => false
  | .wakeStart _ _ _ => false
  | .domainReady _ _ _ => false
  | .noticeLapse _ _ => false
  | .barrierArrival _ _ _ => false
  | .barrierTimeout _ _ => false
  | .absenceToken _ _ _ => false
  | .watchdog _ => false
  | .holdRequest _ _ => false
  | .holdStart _ => false
  | .holdEnd _ => false
  | .stopNotice _ _ _ => false
  | .alignmentFlitSend _ => false
  | .alignmentFlitArrival _ => false
  | .droopStretch _ _ => false
  | .stretchNotice _ _ => false
  | .alignmentPause _ => false
  | .railError => false
  | .faultHandler _ => false
  | .belfryPanic => false
  | .pageMove _ _ _ _ => false
  | .taskDispatch _ => false
  | .taskStart _ => false
  | .taskCompletion _ => false
  | .launchNodeRead _ _ => false
  | .preemptionRequest _ _ => false
  | .clampEffect _ => false
  | .parkFreeze _ => false
  | .parkDeadline _ => false
  | .forcedStop _ => false
  | .drainTimeout _ => false
  | .contextSave _ => false
  | .resume _ => false
  | .channelReassignment _ _ => false
  | .endSlice _ => false
  | .reshape _ _ => false
  | .pageOut _ => false
  | .coldRestore _ => false
  | .qsubWrite _ _ => false
  | .featureCommit _ => false
  | .emloRead _ => false
  | .emhiRead _ => false
  | .energyMeterClear _ => false
  | .pcapWrite _ => false
  | .mmioWrite _ _ _ => false
  | .registerImage _ => false
  | .unregisterImage _ => false
  | .createTenant _ => false
  | .deleteTenant _ => false
  | .createLogicalPartition _ => false
  | .deleteLogicalPartition _ => false
  | .lifeCycleNonce _ => false
  | .lifeCycleChange _ => false
  | .attestationReport _ => false
  | .attestationKey _ => false
  | .debugEnable _ => false
  | .setBreakMask _ => false
  | .debugRelease _ => false
  | .packageReset => false
  | .portTraining _ _ _ => false
  | .syncFlit _ _ => false
  | .thermalSample _ _ => false
  | .maintenanceCycle _ => false
  | .energyMeterCharge _ _ => false
  | .powerLoss => false
  | .absenceTokenWithdrawn _ _ _ => false
  | .untimedFlitReceived _ _ _ _ => false
  | .alignmentPauseEnd _ => false
  | .mailboxUnknownCode _ => false

/-- The codes that the layout calls legal; a breach is an illegal-encoding fault (04_encoding R59). `sl` is the slot number (R33). -/
def Instr.legal (sl : Nat) : Instr → Bool
  | .nop _ => true
  | .br _ _ => true
  | .brk _ _ => true
  | .call _ _ => true
  | .ret _ => true
  | .loop _ kn ki body stages _ _ => decide (kn ≤ 11 ∧ ki ≤ 11 ∧ kn ≠ ki ∧ 1 ≤ body ∧ 1 ≤ stages)
  | .yieldOp _ => true
  | .endOp _ => true
  | .trap _ _ => true
  | .wake _ dom mode => decide (dom ≤ 28 ∧ mode = 0)
  | .sleep _ dom mode => decide (dom ≤ 28 ∧ mode ≤ 1)
  | .wstat _ kd dom => decide (kd ≤ 11 ∧ dom ≤ 28)
  | .leave _ mask => decide (1 ≤ mask)
  | .xlt _ _ _ => true
  | .hinv _ _ => true
  | .setfmt _ _ => true
  | .setfmtLong _ _ => true
  | .bara _ _ => true
  | .barw _ _ => true
  | .barwTimeout _ _ _ => true
  | .phase _ => true
  | .launch _ _ _ => true
  | .fence _ _ kind => decide (kind ≤ 2)
  | .tabr _ kd _ => decide (kd ≤ 11)
  | .kli _ kd _ => decide (kd ≤ 11)
  | .kcp _ kd _ => decide (kd ≤ 11)
  | .xcpK _ f _ s _ => decide (f = 1 ∧ s ≤ 15)
  | .add _ _ _ _ => true
  | .addImm _ _ _ _ => true
  | .addi _ _ _ _ => true
  | .sub _ _ _ _ => true
  | .subImm _ _ _ _ => true
  | .adc _ _ _ _ _ _ => true
  | .sbb _ _ _ _ _ _ => true
  | .mul _ _ _ _ => true
  | .mulImm _ _ _ _ => true
  | .mulh _ _ _ _ _ => true
  | .div _ _ _ _ _ => true
  | .andOp _ _ _ _ => true
  | .andImm _ _ _ _ => true
  | .orOp _ _ _ _ => true
  | .orImm _ _ _ _ => true
  | .xorOp _ _ _ _ => true
  | .xorImm _ _ _ _ => true
  | .shl _ _ _ _ => true
  | .shlImm _ _ _ _ => true
  | .shr _ _ _ _ => true
  | .shrImm _ _ _ _ => true
  | .sar _ _ _ _ => true
  | .sarImm _ _ _ _ => true
  | .minOp _ _ _ _ _ => true
  | .maxOp _ _ _ _ _ => true
  | .clz _ _ _ => true
  | .popc _ _ _ => true
  | .li _ _ _ => true
  | .lih _ _ _ => true
  | .sel _ _ _ _ _ => true
  | .cmp _ d _ _ _ cond _ _ => decide (d ≤ 31 ∧ cond ≤ 6)
  | .plog _ _ _ _ _ => true
  | .lds _ _ _ _ _ _ => true
  | .sts _ _ _ _ _ => true
  | .xcpS _ f d _ u => decide (((f = 0 ∧ d ≤ 11) ∨ ((f = 2 ∨ f = 3) ∧ d ≤ 31) ∨ (f = 7 ∧ d ≤ 7 ∧ u ≤ 2)))
  | .vadd _ _ _ _ t => decide (t ≤ 10)
  | .vaddLong _ _ _ _ t _ _ _ _ clp sc _ rmo => decide (t ≤ 10 ∧ (8 ≤ t ∨ (clp ≤ 1 ∧ sc = 0 ∧ rmo = 0)))
  | .vsub _ _ _ _ t => decide (t ≤ 10)
  | .vsubLong _ _ _ _ t _ _ _ _ clp sc _ rmo => decide (t ≤ 10 ∧ (8 ≤ t ∨ (clp ≤ 1 ∧ sc = 0 ∧ rmo = 0)))
  | .vmul _ _ _ _ t => decide (t ≤ 10)
  | .vmulLong _ _ _ _ t _ _ _ _ clp sc _ rmo => decide (t ≤ 10 ∧ (8 ≤ t ∨ (clp ≤ 1 ∧ sc = 0 ∧ rmo = 0)))
  | .vfma _ _ _ _ t _ _ _ _ _ _ _ clp sc _ rmo => decide (t ≤ 10 ∧ (8 ≤ t ∨ (clp ≤ 1 ∧ sc = 0 ∧ rmo = 0)))
  | .vmin _ _ _ _ t => decide (t ≤ 10)
  | .vminLong _ _ _ _ t _ _ _ _ clp sc _ rmo => decide (t ≤ 10 ∧ (8 ≤ t ∨ (clp ≤ 1 ∧ sc = 0 ∧ rmo = 0)))
  | .vmax _ _ _ _ t => decide (t ≤ 10)
  | .vmaxLong _ _ _ _ t _ _ _ _ clp sc _ rmo => decide (t ≤ 10 ∧ (8 ≤ t ∨ (clp ≤ 1 ∧ sc = 0 ∧ rmo = 0)))
  | .vand _ _ _ _ t => decide (t ≤ 7)
  | .vor _ _ _ _ t => decide (t ≤ 7)
  | .vxor _ _ _ _ t => decide (t ≤ 7)
  | .vshl _ _ _ _ t => decide (t ≤ 7)
  | .vshr _ _ _ _ t => decide (t ≤ 7)
  | .vsar _ _ _ _ t => decide (t ≤ 7)
  | .vcmp _ _ _ _ t _ _ _ _ cond => decide (t ≤ 10 ∧ cond ≤ 6)
  | .vsel _ _ _ _ t _ => decide (t ≤ 10)
  | .vcvt _ _ _ t _ _ clp sc _ rmo dc => decide (t ≤ 10 ∧ vcvtLegal t dc clp sc rmo = true)
  | .vrcp _ _ _ t => decide (8 ≤ t ∧ t ≤ 10)
  | .vrcpLong _ _ _ t _ _ _ _ _ _ => decide (8 ≤ t ∧ t ≤ 10)
  | .vrsq _ _ _ t => decide (8 ≤ t ∧ t ≤ 10)
  | .vrsqLong _ _ _ t _ _ _ _ _ _ => decide (8 ≤ t ∧ t ≤ 10)
  | .vexp _ _ _ t => decide (8 ≤ t ∧ t ≤ 10)
  | .vexpLong _ _ _ t _ _ _ _ _ _ => decide (8 ≤ t ∧ t ≤ 10)
  | .vlog _ _ _ t => decide (8 ≤ t ∧ t ≤ 10)
  | .vlogLong _ _ _ t _ _ _ _ _ _ => decide (8 ≤ t ∧ t ≤ 10)
  | .vsum _ _ _ t => decide (t ≤ 10)
  | .vsumLong _ _ _ t _ _ clp sc _ rmo => decide (t ≤ 10 ∧ (8 ≤ t ∨ (clp ≤ 1 ∧ sc = 0 ∧ rmo = 0)))
  | .vrmax _ _ _ t => decide (t ≤ 10)
  | .vrmaxLong _ _ _ t _ _ => decide (t ≤ 10)
  | .vperm _ _ _ _ t => decide (t ≤ 10)
  | .vbcast _ _ _ t => decide (t ≤ 10)
  | .vbcastLong _ _ _ t lane => decide (t ≤ 10 ∧ lane < laneCount t)
  | .viota _ _ t => decide (t ≤ 10)
  | .vli _ _ t _ => decide (t ≤ 10)
  | .vld _ _ _ _ => true
  | .vldLong _ _ _ _ _ => true
  | .vst _ _ _ _ => true
  | .vstLong _ _ _ _ _ => true
  | .vrng _ _ _ _ t => decide (t = 7)
  | .vpopc _ _ _ t => decide (t ≤ 7)
  | .vany _ _ _ => true
  | .xcpV _ f d s _ => decide (((f = 3 ∧ sl = 2 ∧ d ≤ 31) ∨ (f = 2 ∧ sl = 3 ∧ d ≤ 31) ∨ (f = 4 ∧ d ≤ 7)) ∧ s ≤ 31)
  | .xcpVLane _ f _ s _ _ => decide (f = 1 ∧ s ≤ 31)
  | .mgw _ gw => decide (6 ≤ gw)
  | .mgreq _ ma mb n => decide (1 ≤ ma ∧ 1 ≤ mb ∧ 1 ≤ n)
  | .mpack _ _ _ _ n _ _ _ _ => decide (1 ≤ n)
  | .mldb _ _ _ _ => true
  | .mldbLong _ _ _ _ _ _ _ => true
  | .mmul _ _ _ _ => true
  | .mmac _ _ _ _ => true
  | .mclr _ _ => true
  | .mext _ _ _ _ count _ _ => decide (1 ≤ count)
  | .mcvt _ _ _ _ count _ => decide (1 ≤ count)
  | .mshr _ _ k => decide (1 ≤ k)
  | .mneg _ _ => true
  | .mldq _ _ _ => true
  | .mldqLong _ _ _ _ => true
  | .mstq _ _ _ => true
  | .mstqLong _ _ _ _ => true
  | .xcpM _ f d s _ => decide (((f = 2 ∨ f = 3) ∧ d ≤ 31) ∧ s ≤ 7)
  | .cpy _ _ _ _ _ _ => true
  | .cpyx _ _ _ _ _ _ _ => true
  | .dact _ _ _ _ _ => true
  | .drd _ _ _ _ _ _ => true
  | .dwr _ _ _ _ _ _ => true
  | .dpre _ _ bank all => decide ((all = 0 ∨ bank = 0))
  | .dref _ _ _ => true
  | .rld _ _ _ _ => true
  | .rset _ _ fld val => decide (fld ≤ 10 ∧ rsetLegal fld val = true)
  | .enq _ _ _ _ _ _ kind _ => decide (kind ≤ 3)
  | .aop _ _ fn size _ _ _ _ _ _ => decide (fn ≤ 6 ∧ size ≤ 1)
  | .fsend _ _ _ _ _ => true
  | .fput _ _ _ _ _ _ => true
  | .xcpC _ f d s _ => decide (((f = 1 ∧ d ≤ 63) ∨ (f = 6 ∧ sl = 5 ∧ d ≤ 15) ∨ (f = 5 ∧ sl = 6 ∧ d ≤ 15)) ∧ s ≤ 15)
  | .headerBreak _ _ => false
  | .transferTakesEffect _ _ => false
  | .loopPassEnd _ _ => false
  | .registerResult _ _ => false
  | .scratchpadTouch _ _ => false
  | .drdLanding _ _ => false
  | .cpyxArrival _ _ => false
  | .fsendLanding _ _ => false
  | .linkTimingFault _ _ => false
  | .xltResult _ _ => false
  | .mpackResult _ _ => false
  | .mldbEntryWrite _ _ => false
  | .multiplyResult _ _ => false
  | .accumulatorResult _ _ => false
  | .mextWrite _ _ => false
  | .mldqResult _ _ => false
  | .vcvtBlockResult _ _ => false
  | .enqStartCheck _ _ => false
  | .enqReadPhase _ _ => false
  | .untimedScratchAccess _ _ _ => false
  | .enginePiece _ _ _ => false
  | .engineWalk _ _ _ => false
  | .aopPerform _ _ _ => false
  | .flagWordWrite _ _ _ => false
  | .streamReplay _ _ _ _ _ => false
  | .portDown _ => false
  | .destinationUnreachable _ _ _ => false
  | .refreshDone _ _ _ => false
  | .refreshDeadline _ => false
  | .refreshKeeper _ => false
  | .serviceWindow _ _ => false
  | .wakeStart _ _ _ => false
  | .domainReady _ _ _ => false
  | .noticeLapse _ _ => false
  | .barrierArrival _ _ _ => false
  | .barrierTimeout _ _ => false
  | .absenceToken _ _ _ => false
  | .watchdog _ => false
  | .holdRequest _ _ => false
  | .holdStart _ => false
  | .holdEnd _ => false
  | .stopNotice _ _ _ => false
  | .alignmentFlitSend _ => false
  | .alignmentFlitArrival _ => false
  | .droopStretch _ _ => false
  | .stretchNotice _ _ => false
  | .alignmentPause _ => false
  | .railError => false
  | .faultHandler _ => false
  | .belfryPanic => false
  | .pageMove _ _ _ _ => false
  | .taskDispatch _ => false
  | .taskStart _ => false
  | .taskCompletion _ => false
  | .launchNodeRead _ _ => false
  | .preemptionRequest _ _ => false
  | .clampEffect _ => false
  | .parkFreeze _ => false
  | .parkDeadline _ => false
  | .forcedStop _ => false
  | .drainTimeout _ => false
  | .contextSave _ => false
  | .resume _ => false
  | .channelReassignment _ _ => false
  | .endSlice _ => false
  | .reshape _ _ => false
  | .pageOut _ => false
  | .coldRestore _ => false
  | .qsubWrite _ _ => false
  | .featureCommit _ => false
  | .emloRead _ => false
  | .emhiRead _ => false
  | .energyMeterClear _ => false
  | .pcapWrite _ => false
  | .mmioWrite _ _ _ => false
  | .registerImage _ => false
  | .unregisterImage _ => false
  | .createTenant _ => false
  | .deleteTenant _ => false
  | .createLogicalPartition _ => false
  | .deleteLogicalPartition _ => false
  | .lifeCycleNonce _ => false
  | .lifeCycleChange _ => false
  | .attestationReport _ => false
  | .attestationKey _ => false
  | .debugEnable _ => false
  | .setBreakMask _ => false
  | .debugRelease _ => false
  | .packageReset => false
  | .portTraining _ _ _ => false
  | .syncFlit _ _ => false
  | .thermalSample _ _ => false
  | .maintenanceCycle _ => false
  | .energyMeterCharge _ _ => false
  | .powerLoss => false
  | .absenceTokenWithdrawn _ _ _ => false
  | .untimedFlitReceived _ _ _ _ => false
  | .alignmentPauseEnd _ => false
  | .mailboxUnknownCode _ => false

/-- The fields that must be zero in the form written; a breach is a reserved-field fault (04_encoding R59, R63 to R65). -/
def Instr.zeroRule : Instr → Bool
  | .nop _ => true
  | .br _ _ => true
  | .brk _ _ => true
  | .call _ _ => true
  | .ret _ => true
  | .loop _ _ _ _ _ cl res => decide ((cl = 1 ∨ res = 0))
  | .yieldOp _ => true
  | .endOp _ => true
  | .trap _ _ => true
  | .wake _ _ _ => true
  | .sleep _ _ _ => true
  | .wstat _ _ _ => true
  | .leave _ _ => true
  | .xlt _ _ _ => true
  | .hinv _ _ => true
  | .setfmt _ _ => true
  | .setfmtLong _ _ => true
  | .bara _ _ => true
  | .barw _ _ => true
  | .barwTimeout _ _ _ => true
  | .phase _ => true
  | .launch _ _ _ => true
  | .fence _ _ _ => true
  | .tabr _ _ _ => true
  | .kli _ _ _ => true
  | .kcp _ _ _ => true
  | .xcpK _ _ _ _ u => decide (u = 0)
  | .add _ _ _ _ => true
  | .addImm _ _ _ _ => true
  | .addi _ _ _ _ => true
  | .sub _ _ _ _ => true
  | .subImm _ _ _ _ => true
  | .adc _ _ _ _ _ _ => true
  | .sbb _ _ _ _ _ _ => true
  | .mul _ _ _ _ => true
  | .mulImm _ _ _ _ => true
  | .mulh _ _ _ _ _ => true
  | .div _ _ _ _ _ => true
  | .andOp _ _ _ _ => true
  | .andImm _ _ _ _ => true
  | .orOp _ _ _ _ => true
  | .orImm _ _ _ _ => true
  | .xorOp _ _ _ _ => true
  | .xorImm _ _ _ _ => true
  | .shl _ _ _ _ => true
  | .shlImm _ _ _ _ => true
  | .shr _ _ _ _ => true
  | .shrImm _ _ _ _ => true
  | .sar _ _ _ _ => true
  | .sarImm _ _ _ _ => true
  | .minOp _ _ _ _ _ => true
  | .maxOp _ _ _ _ _ => true
  | .clz _ _ _ => true
  | .popc _ _ _ => true
  | .li _ _ _ => true
  | .lih _ _ _ => true
  | .sel _ _ _ _ _ => true
  | .cmp _ _ _ b _ _ isImm imm => decide ((isImm = 0 ∨ b = 0) ∧ (isImm = 1 ∨ imm = 0))
  | .plog _ _ _ _ _ => true
  | .lds _ _ _ _ _ _ => true
  | .sts _ _ _ _ _ => true
  | .xcpS _ f _ _ u => decide ((f = 7 ∨ u = 0))
  | .vadd _ _ _ _ _ => true
  | .vaddLong _ _ _ _ _ _ _ _ _ _ _ rm rmo => decide ((rmo = 1 ∨ rm = 0))
  | .vsub _ _ _ _ _ => true
  | .vsubLong _ _ _ _ _ _ _ _ _ _ _ rm rmo => decide ((rmo = 1 ∨ rm = 0))
  | .vmul _ _ _ _ _ => true
  | .vmulLong _ _ _ _ _ _ _ _ _ _ _ rm rmo => decide ((rmo = 1 ∨ rm = 0))
  | .vfma _ _ _ _ _ _ _ _ _ _ _ _ _ _ rm rmo => decide ((rmo = 1 ∨ rm = 0))
  | .vmin _ _ _ _ _ => true
  | .vminLong _ _ _ _ _ _ _ _ _ _ _ rm rmo => decide ((rmo = 1 ∨ rm = 0))
  | .vmax _ _ _ _ _ => true
  | .vmaxLong _ _ _ _ _ _ _ _ _ _ _ rm rmo => decide ((rmo = 1 ∨ rm = 0))
  | .vand _ _ _ _ _ => true
  | .vor _ _ _ _ _ => true
  | .vxor _ _ _ _ _ => true
  | .vshl _ _ _ _ _ => true
  | .vshr _ _ _ _ _ => true
  | .vsar _ _ _ _ _ => true
  | .vcmp _ _ _ _ _ _ _ _ _ _ => true
  | .vsel _ _ _ _ _ _ => true
  | .vcvt _ _ _ _ _ _ _ _ rm rmo _ => decide ((rmo = 1 ∨ rm = 0))
  | .vrcp _ _ _ _ => true
  | .vrcpLong _ _ _ _ _ _ _ _ rm rmo => decide ((rmo = 1 ∨ rm = 0))
  | .vrsq _ _ _ _ => true
  | .vrsqLong _ _ _ _ _ _ _ _ rm rmo => decide ((rmo = 1 ∨ rm = 0))
  | .vexp _ _ _ _ => true
  | .vexpLong _ _ _ _ _ _ _ _ rm rmo => decide ((rmo = 1 ∨ rm = 0))
  | .vlog _ _ _ _ => true
  | .vlogLong _ _ _ _ _ _ _ _ rm rmo => decide ((rmo = 1 ∨ rm = 0))
  | .vsum _ _ _ _ => true
  | .vsumLong _ _ _ _ _ _ _ _ rm rmo => decide ((rmo = 1 ∨ rm = 0))
  | .vrmax _ _ _ _ => true
  | .vrmaxLong _ _ _ _ _ _ => true
  | .vperm _ _ _ _ _ => true
  | .vbcast _ _ _ _ => true
  | .vbcastLong _ _ _ _ _ => true
  | .viota _ _ _ => true
  | .vli _ _ _ _ => true
  | .vld _ _ _ _ => true
  | .vldLong _ _ _ _ _ => true
  | .vst _ _ _ _ => true
  | .vstLong _ _ _ _ _ => true
  | .vrng _ _ _ _ _ => true
  | .vpopc _ _ _ _ => true
  | .vany _ _ _ => true
  | .xcpV _ _ _ _ u => decide (u = 0)
  | .xcpVLane _ _ _ _ u _ => decide (u = 0)
  | .mgw _ _ => true
  | .mgreq _ _ _ _ => true
  | .mpack _ _ _ _ _ _ _ _ _ => true
  | .mldb _ _ _ _ => true
  | .mldbLong _ _ _ _ _ _ _ => true
  | .mmul _ _ _ _ => true
  | .mmac _ _ _ _ => true
  | .mclr _ _ => true
  | .mext _ _ _ _ _ _ _ => true
  | .mcvt _ _ _ _ _ _ => true
  | .mshr _ _ _ => true
  | .mneg _ _ => true
  | .mldq _ _ _ => true
  | .mldqLong _ _ _ _ => true
  | .mstq _ _ _ => true
  | .mstqLong _ _ _ _ => true
  | .xcpM _ _ _ _ u => decide (u = 0)
  | .cpy _ _ _ _ _ _ => true
  | .cpyx _ _ _ _ _ _ _ => true
  | .dact _ _ _ _ _ => true
  | .drd _ _ _ _ _ _ => true
  | .dwr _ _ _ _ _ _ => true
  | .dpre _ _ _ _ => true
  | .dref _ _ _ => true
  | .rld _ _ _ _ => true
  | .rset _ _ fld val => decide (rsetZero fld val = true)
  | .enq _ _ _ _ _ _ _ _ => true
  | .aop _ _ _ _ _ _ _ _ _ _ => true
  | .fsend _ _ _ _ _ => true
  | .fput _ _ _ _ _ _ => true
  | .xcpC _ f _ _ u => decide ((if f = 1 then u ≤ 7 else u = 0))
  | .headerBreak _ _ => false
  | .transferTakesEffect _ _ => false
  | .loopPassEnd _ _ => false
  | .registerResult _ _ => false
  | .scratchpadTouch _ _ => false
  | .drdLanding _ _ => false
  | .cpyxArrival _ _ => false
  | .fsendLanding _ _ => false
  | .linkTimingFault _ _ => false
  | .xltResult _ _ => false
  | .mpackResult _ _ => false
  | .mldbEntryWrite _ _ => false
  | .multiplyResult _ _ => false
  | .accumulatorResult _ _ => false
  | .mextWrite _ _ => false
  | .mldqResult _ _ => false
  | .vcvtBlockResult _ _ => false
  | .enqStartCheck _ _ => false
  | .enqReadPhase _ _ => false
  | .untimedScratchAccess _ _ _ => false
  | .enginePiece _ _ _ => false
  | .engineWalk _ _ _ => false
  | .aopPerform _ _ _ => false
  | .flagWordWrite _ _ _ => false
  | .streamReplay _ _ _ _ _ => false
  | .portDown _ => false
  | .destinationUnreachable _ _ _ => false
  | .refreshDone _ _ _ => false
  | .refreshDeadline _ => false
  | .refreshKeeper _ => false
  | .serviceWindow _ _ => false
  | .wakeStart _ _ _ => false
  | .domainReady _ _ _ => false
  | .noticeLapse _ _ => false
  | .barrierArrival _ _ _ => false
  | .barrierTimeout _ _ => false
  | .absenceToken _ _ _ => false
  | .watchdog _ => false
  | .holdRequest _ _ => false
  | .holdStart _ => false
  | .holdEnd _ => false
  | .stopNotice _ _ _ => false
  | .alignmentFlitSend _ => false
  | .alignmentFlitArrival _ => false
  | .droopStretch _ _ => false
  | .stretchNotice _ _ => false
  | .alignmentPause _ => false
  | .railError => false
  | .faultHandler _ => false
  | .belfryPanic => false
  | .pageMove _ _ _ _ => false
  | .taskDispatch _ => false
  | .taskStart _ => false
  | .taskCompletion _ => false
  | .launchNodeRead _ _ => false
  | .preemptionRequest _ _ => false
  | .clampEffect _ => false
  | .parkFreeze _ => false
  | .parkDeadline _ => false
  | .forcedStop _ => false
  | .drainTimeout _ => false
  | .contextSave _ => false
  | .resume _ => false
  | .channelReassignment _ _ => false
  | .endSlice _ => false
  | .reshape _ _ => false
  | .pageOut _ => false
  | .coldRestore _ => false
  | .qsubWrite _ _ => false
  | .featureCommit _ => false
  | .emloRead _ => false
  | .emhiRead _ => false
  | .energyMeterClear _ => false
  | .pcapWrite _ => false
  | .mmioWrite _ _ _ => false
  | .registerImage _ => false
  | .unregisterImage _ => false
  | .createTenant _ => false
  | .deleteTenant _ => false
  | .createLogicalPartition _ => false
  | .deleteLogicalPartition _ => false
  | .lifeCycleNonce _ => false
  | .lifeCycleChange _ => false
  | .attestationReport _ => false
  | .attestationKey _ => false
  | .debugEnable _ => false
  | .setBreakMask _ => false
  | .debugRelease _ => false
  | .packageReset => false
  | .portTraining _ _ _ => false
  | .syncFlit _ _ => false
  | .thermalSample _ _ => false
  | .maintenanceCycle _ => false
  | .energyMeterCharge _ _ => false
  | .powerLoss => false
  | .absenceTokenWithdrawn _ _ _ => false
  | .untimedFlitReceived _ _ _ _ => false
  | .alignmentPauseEnd _ => false
  | .mailboxUnknownCode _ => false

/-- The five opcode maps (04_encoding R60). -/
inductive OpMap where
  | k | s | v | m | c
deriving DecidableEq, Repr

/-- The map that a slot number is decoded in (03_core R33); a number above 6 is no slot. -/
def OpMap.ofSlot : Nat → Option OpMap
  | 0 => some .k
  | 1 => some .s
  | 2 => some .v
  | 3 => some .v
  | 4 => some .m
  | 5 => some .c
  | 6 => some .c
  | _ => none

/-- The map an op belongs to; NOP belongs to every map, an event to none (04_encoding R60). -/
def Instr.inMap (mp : OpMap) : Instr → Bool
  | .nop _ => true
  | .br _ _ => decide (mp = .k)
  | .brk _ _ => decide (mp = .k)
  | .call _ _ => decide (mp = .k)
  | .ret _ => decide (mp = .k)
  | .loop _ _ _ _ _ _ _ => decide (mp = .k)
  | .yieldOp _ => decide (mp = .k)
  | .endOp _ => decide (mp = .k)
  | .trap _ _ => decide (mp = .k)
  | .wake _ _ _ => decide (mp = .k)
  | .sleep _ _ _ => decide (mp = .k)
  | .wstat _ _ _ => decide (mp = .k)
  | .leave _ _ => decide (mp = .k)
  | .xlt _ _ _ => decide (mp = .k)
  | .hinv _ _ => decide (mp = .k)
  | .setfmt _ _ => decide (mp = .k)
  | .setfmtLong _ _ => decide (mp = .k)
  | .bara _ _ => decide (mp = .k)
  | .barw _ _ => decide (mp = .k)
  | .barwTimeout _ _ _ => decide (mp = .k)
  | .phase _ => decide (mp = .k)
  | .launch _ _ _ => decide (mp = .k)
  | .fence _ _ _ => decide (mp = .k)
  | .tabr _ _ _ => decide (mp = .k)
  | .kli _ _ _ => decide (mp = .k)
  | .kcp _ _ _ => decide (mp = .k)
  | .xcpK _ _ _ _ _ => decide (mp = .k)
  | .add _ _ _ _ => decide (mp = .s)
  | .addImm _ _ _ _ => decide (mp = .s)
  | .addi _ _ _ _ => decide (mp = .s)
  | .sub _ _ _ _ => decide (mp = .s)
  | .subImm _ _ _ _ => decide (mp = .s)
  | .adc _ _ _ _ _ _ => decide (mp = .s)
  | .sbb _ _ _ _ _ _ => decide (mp = .s)
  | .mul _ _ _ _ => decide (mp = .s)
  | .mulImm _ _ _ _ => decide (mp = .s)
  | .mulh _ _ _ _ _ => decide (mp = .s)
  | .div _ _ _ _ _ => decide (mp = .s)
  | .andOp _ _ _ _ => decide (mp = .s)
  | .andImm _ _ _ _ => decide (mp = .s)
  | .orOp _ _ _ _ => decide (mp = .s)
  | .orImm _ _ _ _ => decide (mp = .s)
  | .xorOp _ _ _ _ => decide (mp = .s)
  | .xorImm _ _ _ _ => decide (mp = .s)
  | .shl _ _ _ _ => decide (mp = .s)
  | .shlImm _ _ _ _ => decide (mp = .s)
  | .shr _ _ _ _ => decide (mp = .s)
  | .shrImm _ _ _ _ => decide (mp = .s)
  | .sar _ _ _ _ => decide (mp = .s)
  | .sarImm _ _ _ _ => decide (mp = .s)
  | .minOp _ _ _ _ _ => decide (mp = .s)
  | .maxOp _ _ _ _ _ => decide (mp = .s)
  | .clz _ _ _ => decide (mp = .s)
  | .popc _ _ _ => decide (mp = .s)
  | .li _ _ _ => decide (mp = .s)
  | .lih _ _ _ => decide (mp = .s)
  | .sel _ _ _ _ _ => decide (mp = .s)
  | .cmp _ _ _ _ _ _ _ _ => decide (mp = .s)
  | .plog _ _ _ _ _ => decide (mp = .s)
  | .lds _ _ _ _ _ _ => decide (mp = .s)
  | .sts _ _ _ _ _ => decide (mp = .s)
  | .xcpS _ _ _ _ _ => decide (mp = .s)
  | .vadd _ _ _ _ _ => decide (mp = .v)
  | .vaddLong _ _ _ _ _ _ _ _ _ _ _ _ _ => decide (mp = .v)
  | .vsub _ _ _ _ _ => decide (mp = .v)
  | .vsubLong _ _ _ _ _ _ _ _ _ _ _ _ _ => decide (mp = .v)
  | .vmul _ _ _ _ _ => decide (mp = .v)
  | .vmulLong _ _ _ _ _ _ _ _ _ _ _ _ _ => decide (mp = .v)
  | .vfma _ _ _ _ _ _ _ _ _ _ _ _ _ _ _ _ => decide (mp = .v)
  | .vmin _ _ _ _ _ => decide (mp = .v)
  | .vminLong _ _ _ _ _ _ _ _ _ _ _ _ _ => decide (mp = .v)
  | .vmax _ _ _ _ _ => decide (mp = .v)
  | .vmaxLong _ _ _ _ _ _ _ _ _ _ _ _ _ => decide (mp = .v)
  | .vand _ _ _ _ _ => decide (mp = .v)
  | .vor _ _ _ _ _ => decide (mp = .v)
  | .vxor _ _ _ _ _ => decide (mp = .v)
  | .vshl _ _ _ _ _ => decide (mp = .v)
  | .vshr _ _ _ _ _ => decide (mp = .v)
  | .vsar _ _ _ _ _ => decide (mp = .v)
  | .vcmp _ _ _ _ _ _ _ _ _ _ => decide (mp = .v)
  | .vsel _ _ _ _ _ _ => decide (mp = .v)
  | .vcvt _ _ _ _ _ _ _ _ _ _ _ => decide (mp = .v)
  | .vrcp _ _ _ _ => decide (mp = .v)
  | .vrcpLong _ _ _ _ _ _ _ _ _ _ => decide (mp = .v)
  | .vrsq _ _ _ _ => decide (mp = .v)
  | .vrsqLong _ _ _ _ _ _ _ _ _ _ => decide (mp = .v)
  | .vexp _ _ _ _ => decide (mp = .v)
  | .vexpLong _ _ _ _ _ _ _ _ _ _ => decide (mp = .v)
  | .vlog _ _ _ _ => decide (mp = .v)
  | .vlogLong _ _ _ _ _ _ _ _ _ _ => decide (mp = .v)
  | .vsum _ _ _ _ => decide (mp = .v)
  | .vsumLong _ _ _ _ _ _ _ _ _ _ => decide (mp = .v)
  | .vrmax _ _ _ _ => decide (mp = .v)
  | .vrmaxLong _ _ _ _ _ _ => decide (mp = .v)
  | .vperm _ _ _ _ _ => decide (mp = .v)
  | .vbcast _ _ _ _ => decide (mp = .v)
  | .vbcastLong _ _ _ _ _ => decide (mp = .v)
  | .viota _ _ _ => decide (mp = .v)
  | .vli _ _ _ _ => decide (mp = .v)
  | .vld _ _ _ _ => decide (mp = .v)
  | .vldLong _ _ _ _ _ => decide (mp = .v)
  | .vst _ _ _ _ => decide (mp = .v)
  | .vstLong _ _ _ _ _ => decide (mp = .v)
  | .vrng _ _ _ _ _ => decide (mp = .v)
  | .vpopc _ _ _ _ => decide (mp = .v)
  | .vany _ _ _ => decide (mp = .v)
  | .xcpV _ _ _ _ _ => decide (mp = .v)
  | .xcpVLane _ _ _ _ _ _ => decide (mp = .v)
  | .mgw _ _ => decide (mp = .m)
  | .mgreq _ _ _ _ => decide (mp = .m)
  | .mpack _ _ _ _ _ _ _ _ _ => decide (mp = .m)
  | .mldb _ _ _ _ => decide (mp = .m)
  | .mldbLong _ _ _ _ _ _ _ => decide (mp = .m)
  | .mmul _ _ _ _ => decide (mp = .m)
  | .mmac _ _ _ _ => decide (mp = .m)
  | .mclr _ _ => decide (mp = .m)
  | .mext _ _ _ _ _ _ _ => decide (mp = .m)
  | .mcvt _ _ _ _ _ _ => decide (mp = .m)
  | .mshr _ _ _ => decide (mp = .m)
  | .mneg _ _ => decide (mp = .m)
  | .mldq _ _ _ => decide (mp = .m)
  | .mldqLong _ _ _ _ => decide (mp = .m)
  | .mstq _ _ _ => decide (mp = .m)
  | .mstqLong _ _ _ _ => decide (mp = .m)
  | .xcpM _ _ _ _ _ => decide (mp = .m)
  | .cpy _ _ _ _ _ _ => decide (mp = .c)
  | .cpyx _ _ _ _ _ _ _ => decide (mp = .c)
  | .dact _ _ _ _ _ => decide (mp = .c)
  | .drd _ _ _ _ _ _ => decide (mp = .c)
  | .dwr _ _ _ _ _ _ => decide (mp = .c)
  | .dpre _ _ _ _ => decide (mp = .c)
  | .dref _ _ _ => decide (mp = .c)
  | .rld _ _ _ _ => decide (mp = .c)
  | .rset _ _ _ _ => decide (mp = .c)
  | .enq _ _ _ _ _ _ _ _ => decide (mp = .c)
  | .aop _ _ _ _ _ _ _ _ _ _ => decide (mp = .c)
  | .fsend _ _ _ _ _ => decide (mp = .c)
  | .fput _ _ _ _ _ _ => decide (mp = .c)
  | .xcpC _ _ _ _ _ => decide (mp = .c)
  | .headerBreak _ _ => false
  | .transferTakesEffect _ _ => false
  | .loopPassEnd _ _ => false
  | .registerResult _ _ => false
  | .scratchpadTouch _ _ => false
  | .drdLanding _ _ => false
  | .cpyxArrival _ _ => false
  | .fsendLanding _ _ => false
  | .linkTimingFault _ _ => false
  | .xltResult _ _ => false
  | .mpackResult _ _ => false
  | .mldbEntryWrite _ _ => false
  | .multiplyResult _ _ => false
  | .accumulatorResult _ _ => false
  | .mextWrite _ _ => false
  | .mldqResult _ _ => false
  | .vcvtBlockResult _ _ => false
  | .enqStartCheck _ _ => false
  | .enqReadPhase _ _ => false
  | .untimedScratchAccess _ _ _ => false
  | .enginePiece _ _ _ => false
  | .engineWalk _ _ _ => false
  | .aopPerform _ _ _ => false
  | .flagWordWrite _ _ _ => false
  | .streamReplay _ _ _ _ _ => false
  | .portDown _ => false
  | .destinationUnreachable _ _ _ => false
  | .refreshDone _ _ _ => false
  | .refreshDeadline _ => false
  | .refreshKeeper _ => false
  | .serviceWindow _ _ => false
  | .wakeStart _ _ _ => false
  | .domainReady _ _ _ => false
  | .noticeLapse _ _ => false
  | .barrierArrival _ _ _ => false
  | .barrierTimeout _ _ => false
  | .absenceToken _ _ _ => false
  | .watchdog _ => false
  | .holdRequest _ _ => false
  | .holdStart _ => false
  | .holdEnd _ => false
  | .stopNotice _ _ _ => false
  | .alignmentFlitSend _ => false
  | .alignmentFlitArrival _ => false
  | .droopStretch _ _ => false
  | .stretchNotice _ _ => false
  | .alignmentPause _ => false
  | .railError => false
  | .faultHandler _ => false
  | .belfryPanic => false
  | .pageMove _ _ _ _ => false
  | .taskDispatch _ => false
  | .taskStart _ => false
  | .taskCompletion _ => false
  | .launchNodeRead _ _ => false
  | .preemptionRequest _ _ => false
  | .clampEffect _ => false
  | .parkFreeze _ => false
  | .parkDeadline _ => false
  | .forcedStop _ => false
  | .drainTimeout _ => false
  | .contextSave _ => false
  | .resume _ => false
  | .channelReassignment _ _ => false
  | .endSlice _ => false
  | .reshape _ _ => false
  | .pageOut _ => false
  | .coldRestore _ => false
  | .qsubWrite _ _ => false
  | .featureCommit _ => false
  | .emloRead _ => false
  | .emhiRead _ => false
  | .energyMeterClear _ => false
  | .pcapWrite _ => false
  | .mmioWrite _ _ _ => false
  | .registerImage _ => false
  | .unregisterImage _ => false
  | .createTenant _ => false
  | .deleteTenant _ => false
  | .createLogicalPartition _ => false
  | .deleteLogicalPartition _ => false
  | .lifeCycleNonce _ => false
  | .lifeCycleChange _ => false
  | .attestationReport _ => false
  | .attestationKey _ => false
  | .debugEnable _ => false
  | .setBreakMask _ => false
  | .debugRelease _ => false
  | .packageReset => false
  | .portTraining _ _ _ => false
  | .syncFlit _ _ => false
  | .thermalSample _ _ => false
  | .maintenanceCycle _ => false
  | .energyMeterCharge _ _ => false
  | .powerLoss => false
  | .absenceTokenWithdrawn _ _ _ => false
  | .untimedFlitReceived _ _ _ _ => false
  | .alignmentPauseEnd _ => false
  | .mailboxUnknownCode _ => false

/-- An op is well-formed in slot `sl`: in the slot's map, in range, legal, and zero where it must be. -/
def Instr.wellFormed (sl : Nat) (i : Instr) : Bool :=
  (match OpMap.ofSlot sl with
   | some mp => i.inMap mp
   | none => false) && i.inRange && i.legal sl && i.zeroRule

/-- An event is well-formed: its operands name things the package has (01_device R9, R11; 17_partitions R259; 14_determinism R219;
12_power R182; 09_memory R131; 02_time R21, R29; 18_fabric_host R271; 19_belfry R290). An op is no event. -/
def Instr.eventWellFormed : Instr → Bool
  | .nop _ => false
  | .br _ _ => false
  | .brk _ _ => false
  | .call _ _ => false
  | .ret _ => false
  | .loop _ _ _ _ _ _ _ => false
  | .yieldOp _ => false
  | .endOp _ => false
  | .trap _ _ => false
  | .wake _ _ _ => false
  | .sleep _ _ _ => false
  | .wstat _ _ _ => false
  | .leave _ _ => false
  | .xlt _ _ _ => false
  | .hinv _ _ => false
  | .setfmt _ _ => false
  | .setfmtLong _ _ => false
  | .bara _ _ => false
  | .barw _ _ => false
  | .barwTimeout _ _ _ => false
  | .phase _ => false
  | .launch _ _ _ => false
  | .fence _ _ _ => false
  | .tabr _ _ _ => false
  | .kli _ _ _ => false
  | .kcp _ _ _ => false
  | .xcpK _ _ _ _ _ => false
  | .add _ _ _ _ => false
  | .addImm _ _ _ _ => false
  | .addi _ _ _ _ => false
  | .sub _ _ _ _ => false
  | .subImm _ _ _ _ => false
  | .adc _ _ _ _ _ _ => false
  | .sbb _ _ _ _ _ _ => false
  | .mul _ _ _ _ => false
  | .mulImm _ _ _ _ => false
  | .mulh _ _ _ _ _ => false
  | .div _ _ _ _ _ => false
  | .andOp _ _ _ _ => false
  | .andImm _ _ _ _ => false
  | .orOp _ _ _ _ => false
  | .orImm _ _ _ _ => false
  | .xorOp _ _ _ _ => false
  | .xorImm _ _ _ _ => false
  | .shl _ _ _ _ => false
  | .shlImm _ _ _ _ => false
  | .shr _ _ _ _ => false
  | .shrImm _ _ _ _ => false
  | .sar _ _ _ _ => false
  | .sarImm _ _ _ _ => false
  | .minOp _ _ _ _ _ => false
  | .maxOp _ _ _ _ _ => false
  | .clz _ _ _ => false
  | .popc _ _ _ => false
  | .li _ _ _ => false
  | .lih _ _ _ => false
  | .sel _ _ _ _ _ => false
  | .cmp _ _ _ _ _ _ _ _ => false
  | .plog _ _ _ _ _ => false
  | .lds _ _ _ _ _ _ => false
  | .sts _ _ _ _ _ => false
  | .xcpS _ _ _ _ _ => false
  | .vadd _ _ _ _ _ => false
  | .vaddLong _ _ _ _ _ _ _ _ _ _ _ _ _ => false
  | .vsub _ _ _ _ _ => false
  | .vsubLong _ _ _ _ _ _ _ _ _ _ _ _ _ => false
  | .vmul _ _ _ _ _ => false
  | .vmulLong _ _ _ _ _ _ _ _ _ _ _ _ _ => false
  | .vfma _ _ _ _ _ _ _ _ _ _ _ _ _ _ _ _ => false
  | .vmin _ _ _ _ _ => false
  | .vminLong _ _ _ _ _ _ _ _ _ _ _ _ _ => false
  | .vmax _ _ _ _ _ => false
  | .vmaxLong _ _ _ _ _ _ _ _ _ _ _ _ _ => false
  | .vand _ _ _ _ _ => false
  | .vor _ _ _ _ _ => false
  | .vxor _ _ _ _ _ => false
  | .vshl _ _ _ _ _ => false
  | .vshr _ _ _ _ _ => false
  | .vsar _ _ _ _ _ => false
  | .vcmp _ _ _ _ _ _ _ _ _ _ => false
  | .vsel _ _ _ _ _ _ => false
  | .vcvt _ _ _ _ _ _ _ _ _ _ _ => false
  | .vrcp _ _ _ _ => false
  | .vrcpLong _ _ _ _ _ _ _ _ _ _ => false
  | .vrsq _ _ _ _ => false
  | .vrsqLong _ _ _ _ _ _ _ _ _ _ => false
  | .vexp _ _ _ _ => false
  | .vexpLong _ _ _ _ _ _ _ _ _ _ => false
  | .vlog _ _ _ _ => false
  | .vlogLong _ _ _ _ _ _ _ _ _ _ => false
  | .vsum _ _ _ _ => false
  | .vsumLong _ _ _ _ _ _ _ _ _ _ => false
  | .vrmax _ _ _ _ => false
  | .vrmaxLong _ _ _ _ _ _ => false
  | .vperm _ _ _ _ _ => false
  | .vbcast _ _ _ _ => false
  | .vbcastLong _ _ _ _ _ => false
  | .viota _ _ _ => false
  | .vli _ _ _ _ => false
  | .vld _ _ _ _ => false
  | .vldLong _ _ _ _ _ => false
  | .vst _ _ _ _ => false
  | .vstLong _ _ _ _ _ => false
  | .vrng _ _ _ _ _ => false
  | .vpopc _ _ _ _ => false
  | .vany _ _ _ => false
  | .xcpV _ _ _ _ _ => false
  | .xcpVLane _ _ _ _ _ _ => false
  | .mgw _ _ => false
  | .mgreq _ _ _ _ => false
  | .mpack _ _ _ _ _ _ _ _ _ => false
  | .mldb _ _ _ _ => false
  | .mldbLong _ _ _ _ _ _ _ => false
  | .mmul _ _ _ _ => false
  | .mmac _ _ _ _ => false
  | .mclr _ _ => false
  | .mext _ _ _ _ _ _ _ => false
  | .mcvt _ _ _ _ _ _ => false
  | .mshr _ _ _ => false
  | .mneg _ _ => false
  | .mldq _ _ _ => false
  | .mldqLong _ _ _ _ => false
  | .mstq _ _ _ => false
  | .mstqLong _ _ _ _ => false
  | .xcpM _ _ _ _ _ => false
  | .cpy _ _ _ _ _ _ => false
  | .cpyx _ _ _ _ _ _ _ => false
  | .dact _ _ _ _ _ => false
  | .drd _ _ _ _ _ _ => false
  | .dwr _ _ _ _ _ _ => false
  | .dpre _ _ _ _ => false
  | .dref _ _ _ => false
  | .rld _ _ _ _ => false
  | .rset _ _ _ _ => false
  | .enq _ _ _ _ _ _ _ _ => false
  | .aop _ _ _ _ _ _ _ _ _ _ => false
  | .fsend _ _ _ _ _ => false
  | .fput _ _ _ _ _ _ => false
  | .xcpC _ _ _ _ _ => false
  | .headerBreak vf core => decide (vf < 128 ∧ core < 512)
  | .transferTakesEffect vf core => decide (vf < 128 ∧ core < 512)
  | .loopPassEnd vf core => decide (vf < 128 ∧ core < 512)
  | .registerResult vf core => decide (vf < 128 ∧ core < 512)
  | .scratchpadTouch vf core => decide (vf < 128 ∧ core < 512)
  | .drdLanding vf core => decide (vf < 128 ∧ core < 512)
  | .cpyxArrival vf core => decide (vf < 128 ∧ core < 512)
  | .fsendLanding vf core => decide (vf < 128 ∧ core < 512)
  | .linkTimingFault vf core => decide (vf < 128 ∧ core < 512)
  | .xltResult vf core => decide (vf < 128 ∧ core < 512)
  | .mpackResult vf core => decide (vf < 128 ∧ core < 512)
  | .mldbEntryWrite vf core => decide (vf < 128 ∧ core < 512)
  | .multiplyResult vf core => decide (vf < 128 ∧ core < 512)
  | .accumulatorResult vf core => decide (vf < 128 ∧ core < 512)
  | .mextWrite vf core => decide (vf < 128 ∧ core < 512)
  | .mldqResult vf core => decide (vf < 128 ∧ core < 512)
  | .vcvtBlockResult vf core => decide (vf < 128 ∧ core < 512)
  | .enqStartCheck vf core => decide (vf < 128 ∧ core < 512)
  | .enqReadPhase vf core => decide (vf < 128 ∧ core < 512)
  | .untimedScratchAccess vf core _ => decide (vf < 128 ∧ core < 512)
  | .enginePiece vf core _ => decide (vf < 128 ∧ core < 512)
  | .engineWalk vf core _ => decide (vf < 128 ∧ core < 512)
  | .aopPerform vf core _ => decide (vf < 128 ∧ core < 512)
  | .flagWordWrite vf core _ => decide (vf < 128 ∧ core < 512)
  | .streamReplay vf core dev scope _ => decide (vf < 128 ∧ core < 512 ∧ dev < 16777216 ∧ scope < 4)
  | .portDown port => decide (port < 32)
  | .destinationUnreachable vf core _ => decide (vf < 128 ∧ core < 512)
  | .refreshDone vf vch bank => decide (vf < 128 ∧ vch < 128 ∧ bank < 16)
  | .refreshDeadline vf => decide (vf < 128)
  | .refreshKeeper vf => decide (vf < 128)
  | .serviceWindow vf vch => decide (vf < 128 ∧ vch < 128)
  | .wakeStart vf core dom => decide (vf < 128 ∧ core < 512 ∧ dom ≤ 28)
  | .domainReady vf core dom => decide (vf < 128 ∧ core < 512 ∧ dom ≤ 28)
  | .noticeLapse vf core => decide (vf < 128 ∧ core < 512)
  | .barrierArrival vf bar _ => decide (vf < 128 ∧ bar < 16)
  | .barrierTimeout vf bar => decide (vf < 128 ∧ bar < 16)
  | .absenceToken vf bar _ => decide (vf < 128 ∧ bar < 16)
  | .watchdog vf => decide (vf < 128)
  | .holdRequest vf n => decide (vf < 128 ∧ 1 ≤ n ∧ n ≤ 4096)
  | .holdStart vf => decide (vf < 128)
  | .holdEnd vf => decide (vf < 128)
  | .stopNotice vf dev _ => decide (vf < 128 ∧ dev < 16777216)
  | .alignmentFlitSend vf => decide (vf < 128)
  | .alignmentFlitArrival vf => decide (vf < 128)
  | .droopStretch cycles lost => decide (cycles ≤ 8 ∧ lost ≤ 4 ∧ lost ≤ cycles)
  | .stretchNotice vf _ => decide (vf < 128)
  | .alignmentPause vf => decide (vf < 128)
  | .railError => true
  | .faultHandler vf => decide (vf < 128)
  | .belfryPanic => true
  | .pageMove vf _ _ _ => decide (vf < 128)
  | .taskDispatch vf => decide (vf < 128)
  | .taskStart vf => decide (vf < 128)
  | .taskCompletion vf => decide (vf < 128)
  | .launchNodeRead vf core => decide (vf < 128 ∧ core < 512)
  | .preemptionRequest vf _ => decide (vf < 128)
  | .clampEffect vf => decide (vf < 128)
  | .parkFreeze vf => decide (vf < 128)
  | .parkDeadline vf => decide (vf < 128)
  | .forcedStop vf => decide (vf < 128)
  | .drainTimeout vf => decide (vf < 128)
  | .contextSave vf => decide (vf < 128)
  | .resume vf => decide (vf < 128)
  | .channelReassignment ch vf => decide (ch < 128 ∧ vf < 128)
  | .endSlice vf => decide (vf < 128)
  | .reshape vf _ => decide (vf < 128)
  | .pageOut vf => decide (vf < 128)
  | .coldRestore vf => decide (vf < 128)
  | .qsubWrite vf _ => decide (vf < 128)
  | .featureCommit vf => decide (vf < 128)
  | .emloRead vf => decide (vf < 128)
  | .emhiRead vf => decide (vf < 128)
  | .energyMeterClear vf => decide (vf < 128)
  | .pcapWrite _ => true
  | .mmioWrite _ _ _ => true
  | .registerImage pf => decide (pf < 2)
  | .unregisterImage pf => decide (pf < 2)
  | .createTenant pf => decide (pf < 2)
  | .deleteTenant pf => decide (pf < 2)
  | .createLogicalPartition pf => decide (pf < 2)
  | .deleteLogicalPartition pf => decide (pf < 2)
  | .lifeCycleNonce pf => decide (pf < 2)
  | .lifeCycleChange pf => decide (pf < 2)
  | .attestationReport pf => decide (pf < 2)
  | .attestationKey pf => decide (pf < 2)
  | .debugEnable pf => decide (pf < 2)
  | .setBreakMask pf => decide (pf < 2)
  | .debugRelease pf => decide (pf < 2)
  | .packageReset => true
  | .portTraining port _ cls => decide (port < 32 ∧ (cls = 600 ∨ cls = 1800 ∨ cls = 6000 ∨ cls = 0))
  | .syncFlit _ val => decide (val < 18446744073709551616)
  | .thermalSample _ _ => true
  | .maintenanceCycle vf => decide (vf < 128)
  | .energyMeterCharge vf _ => decide (vf < 128)
  | .powerLoss => true
  | .absenceTokenWithdrawn vf bar _ => decide (vf < 128 ∧ bar < 16)
  | .untimedFlitReceived dev srcCore scope _ => decide (dev < 16777216 ∧ srcCore < 512 ∧ scope < 4)
  | .alignmentPauseEnd vf => decide (vf < 128)
  | .mailboxUnknownCode pf => decide (pf < 2)

end Sys2Proof
end

