-- ==== Sys2Proof/Word.lean ====
section
/-! DEFINITION. The word types of the HT-6400 and their plainest arithmetic (spec 00_scope R3, R4). -/

namespace Sys2Proof

/-- A byte, 8 bits (00_scope R4). -/
abbrev Byte := BitVec 8

/-- A word, 32 bits: an op word, an extension word or a bundle header (00_scope R4, 04_encoding R52). -/
abbrev Word := BitVec 32

/-- A dword, 64 bits: an s or k register (00_scope R4, R6). -/
abbrev DWord := BitVec 64

/-- A line, 2,048 bits: a scratchpad line or a v, w or z register (00_scope R4). -/
abbrev Line := BitVec 2048

/-- A buffer record, 256 bits (09_memory R143). -/
abbrev Rec := BitVec 256

end Sys2Proof
end

