-- ==== Sys2Proof/Decode.lean ====
section
/-! DEFINITION. Decoding op words (04_encoding R52 to R72), total on any bytes, rejecting by name; the encoder after it. -/

namespace Sys2Proof

/-- Why bytes are not an instruction in a slot. -/
inductive DecodeError where
  /-- unassigned opcode, L bit, register or code outside its range: illegal-encoding fault 0x01 (04_encoding R59) -/
  | illegalEncoding
  /-- a reserved or unused field is not zero: reserved-field fault 0x02 (04_encoding R59) -/
  | reservedField
  /-- the bytes end before the instruction does (04_encoding R55) -/
  | tooShort
deriving DecidableEq, Repr

/-- Bits `lo + n - 1 : lo` of a word (00_scope R3). -/
def bits (w lo n : Nat) : Nat := w / 2 ^ lo % 2 ^ n

/-- The op word and the extension word of an op (04_encoding R57, R62 to R68); a short op's extension is the zero word (R58, R71).
An event has no words. -/
def encode : Instr → Option (Nat × Nat)
  | .nop g => some (0 + g.pred * 1048576 + g.pn * 524288, 0)
  | .br g off => some (33554432 + g.pred * 1048576 + g.pn * 524288 + off, 0)
  | .brk g ka => some (67108864 + g.pred * 1048576 + g.pn * 524288 + ka * 32768, 0)
  | .call g off => some (100663296 + g.pred * 1048576 + g.pn * 524288 + off, 0)
  | .ret g => some (134217728 + g.pred * 1048576 + g.pn * 524288, 0)
  | .loop g kn ki body stages cl res => some (2315255808 + g.pred * 1048576 + g.pn * 524288 + kn * 32768 + ki * 2048 + body * 16 + stages, cl * 2147483648 + res)
  | .yieldOp g => some (201326592 + g.pred * 1048576 + g.pn * 524288, 0)
  | .endOp g => some (234881024 + g.pred * 1048576 + g.pn * 524288, 0)
  | .trap g code => some (268435456 + g.pred * 1048576 + g.pn * 524288 + code, 0)
  | .wake g dom mode => some (301989888 + g.pred * 1048576 + g.pn * 524288 + dom * 16384 + mode * 4096, 0)
  | .sleep g dom mode => some (335544320 + g.pred * 1048576 + g.pn * 524288 + dom * 16384 + mode * 4096, 0)
  | .wstat g kd dom => some (369098752 + g.pred * 1048576 + g.pn * 524288 + kd * 32768 + dom * 1024, 0)
  | .leave g mask => some (402653184 + g.pred * 1048576 + g.pn * 524288 + mask * 32768, 0)
  | .xlt g hd ka => some (436207616 + g.pred * 1048576 + g.pn * 524288 + hd * 32768 + ka * 2048, 0)
  | .hinv g hd => some (469762048 + g.pred * 1048576 + g.pn * 524288 + hd * 32768, 0)
  | .setfmt g ka => some (503316480 + g.pred * 1048576 + g.pn * 524288 + ka * 32768, 0)
  | .setfmtLong g val => some (2650800128 + g.pred * 1048576 + g.pn * 524288, val)
  | .bara g bar => some (536870912 + g.pred * 1048576 + g.pn * 524288 + bar * 32768, 0)
  | .barw g bar => some (570425344 + g.pred * 1048576 + g.pn * 524288 + bar * 32768, 0)
  | .barwTimeout g bar beats => some (2717908992 + g.pred * 1048576 + g.pn * 524288 + bar * 32768, beats)
  | .phase g => some (603979776 + g.pred * 1048576 + g.pn * 524288, 0)
  | .launch g kq kn => some (637534208 + g.pred * 1048576 + g.pn * 524288 + kq * 32768 + kn * 2048, 0)
  | .fence g scope kind => some (671088640 + g.pred * 1048576 + g.pn * 524288 + scope * 131072 + kind * 32768, 0)
  | .tabr g kd clk => some (704643072 + g.pred * 1048576 + g.pn * 524288 + kd * 32768 + clk * 16384, 0)
  | .kli g kd imm => some (2885681152 + g.pred * 1048576 + g.pn * 524288 + kd * 32768, imm)
  | .kcp g kd ka => some (771751936 + g.pred * 1048576 + g.pn * 524288 + kd * 32768 + ka * 2048, 0)
  | .xcpK g f d s u => some (805306368 + g.pred * 1048576 + g.pn * 524288 + f * 65536 + d * 1024 + s * 16 + u, 0)
  | .add g d a b => some (33554432 + g.pred * 1048576 + g.pn * 524288 + d * 8192 + a * 128 + b * 2, 0)
  | .addImm g d a imm => some (2181038081 + g.pred * 1048576 + g.pn * 524288 + d * 8192 + a * 128, imm)
  | .addi g d a imm => some (67108864 + g.pred * 1048576 + g.pn * 524288 + d * 8192 + a * 128 + imm, 0)
  | .sub g d a b => some (100663296 + g.pred * 1048576 + g.pn * 524288 + d * 8192 + a * 128 + b * 2, 0)
  | .subImm g d a imm => some (2248146945 + g.pred * 1048576 + g.pn * 524288 + d * 8192 + a * 128, imm)
  | .adc g d a b ci co => some (2281701376 + g.pred * 1048576 + g.pn * 524288 + d * 8192 + a * 128 + b * 2, ci + co * 32)
  | .sbb g d a b ci co => some (2315255808 + g.pred * 1048576 + g.pn * 524288 + d * 8192 + a * 128 + b * 2, ci + co * 32)
  | .mul g d a b => some (201326592 + g.pred * 1048576 + g.pn * 524288 + d * 8192 + a * 128 + b * 2, 0)
  | .mulImm g d a imm => some (2348810241 + g.pred * 1048576 + g.pn * 524288 + d * 8192 + a * 128, imm)
  | .mulh g d a b nat => some (234881024 + g.pred * 1048576 + g.pn * 524288 + d * 8192 + a * 128 + b * 2 + nat, 0)
  | .div g d a b nat => some (268435456 + g.pred * 1048576 + g.pn * 524288 + d * 8192 + a * 128 + b * 2 + nat, 0)
  | .andOp g d a b => some (301989888 + g.pred * 1048576 + g.pn * 524288 + d * 8192 + a * 128 + b * 2, 0)
  | .andImm g d a imm => some (2449473537 + g.pred * 1048576 + g.pn * 524288 + d * 8192 + a * 128, imm)
  | .orOp g d a b => some (335544320 + g.pred * 1048576 + g.pn * 524288 + d * 8192 + a * 128 + b * 2, 0)
  | .orImm g d a imm => some (2483027969 + g.pred * 1048576 + g.pn * 524288 + d * 8192 + a * 128, imm)
  | .xorOp g d a b => some (369098752 + g.pred * 1048576 + g.pn * 524288 + d * 8192 + a * 128 + b * 2, 0)
  | .xorImm g d a imm => some (2516582401 + g.pred * 1048576 + g.pn * 524288 + d * 8192 + a * 128, imm)
  | .shl g d a b => some (402653184 + g.pred * 1048576 + g.pn * 524288 + d * 8192 + a * 128 + b * 2, 0)
  | .shlImm g d a imm => some (2550136833 + g.pred * 1048576 + g.pn * 524288 + d * 8192 + a * 128, imm)
  | .shr g d a b => some (436207616 + g.pred * 1048576 + g.pn * 524288 + d * 8192 + a * 128 + b * 2, 0)
  | .shrImm g d a imm => some (2583691265 + g.pred * 1048576 + g.pn * 524288 + d * 8192 + a * 128, imm)
  | .sar g d a b => some (469762048 + g.pred * 1048576 + g.pn * 524288 + d * 8192 + a * 128 + b * 2, 0)
  | .sarImm g d a imm => some (2617245697 + g.pred * 1048576 + g.pn * 524288 + d * 8192 + a * 128, imm)
  | .minOp g d a b nat => some (503316480 + g.pred * 1048576 + g.pn * 524288 + d * 8192 + a * 128 + b * 2 + nat, 0)
  | .maxOp g d a b nat => some (536870912 + g.pred * 1048576 + g.pn * 524288 + d * 8192 + a * 128 + b * 2 + nat, 0)
  | .clz g d a => some (570425344 + g.pred * 1048576 + g.pn * 524288 + d * 8192 + a * 128, 0)
  | .popc g d a => some (603979776 + g.pred * 1048576 + g.pn * 524288 + d * 8192 + a * 128, 0)
  | .li g d imm => some (2785017856 + g.pred * 1048576 + g.pn * 524288 + d * 8192, imm)
  | .lih g d imm => some (2818572288 + g.pred * 1048576 + g.pn * 524288 + d * 8192, imm)
  | .sel g d a b p => some (2852126720 + g.pred * 1048576 + g.pn * 524288 + d * 8192 + a * 128 + b * 2, p)
  | .cmp g d a b nat cond isImm imm => some (2885681152 + g.pred * 1048576 + g.pn * 524288 + d * 8192 + a * 128 + b * 2 + nat, cond + isImm * 8 + imm * 256)
  | .plog g pd pa pb tt => some (771751936 + g.pred * 1048576 + g.pn * 524288 + pd * 16384 + pa * 512 + pb * 16 + tt, 0)
  | .lds g d a nat size off => some (2952790016 + g.pred * 1048576 + g.pn * 524288 + d * 8192 + a * 128 + nat, size * 1073741824 + off)
  | .sts g d a size off => some (2986344448 + g.pred * 1048576 + g.pn * 524288 + d * 8192 + a * 128, size * 1073741824 + off)
  | .xcpS g f d s u => some (872415232 + g.pred * 1048576 + g.pn * 524288 + f * 65536 + d * 1024 + s * 16 + u, 0)
  | .vadd g d a b t => some (33554432 + g.pred * 1048576 + g.pn * 524288 + d * 16384 + a * 512 + b * 16 + t, 0)
  | .vaddLong g d a b t na aa nb ab clp sc rm rmo => some (2181038080 + g.pred * 1048576 + g.pn * 524288 + d * 16384 + a * 512 + b * 16 + t, na * 67108864 + aa * 33554432 + nb * 16777216 + ab * 8388608 + clp * 524288 + sc * 32768 + rm * 8192 + rmo * 4096)
  | .vsub g d a b t => some (67108864 + g.pred * 1048576 + g.pn * 524288 + d * 16384 + a * 512 + b * 16 + t, 0)
  | .vsubLong g d a b t na aa nb ab clp sc rm rmo => some (2214592512 + g.pred * 1048576 + g.pn * 524288 + d * 16384 + a * 512 + b * 16 + t, na * 67108864 + aa * 33554432 + nb * 16777216 + ab * 8388608 + clp * 524288 + sc * 32768 + rm * 8192 + rmo * 4096)
  | .vmul g d a b t => some (100663296 + g.pred * 1048576 + g.pn * 524288 + d * 16384 + a * 512 + b * 16 + t, 0)
  | .vmulLong g d a b t na aa nb ab clp sc rm rmo => some (2248146944 + g.pred * 1048576 + g.pn * 524288 + d * 16384 + a * 512 + b * 16 + t, na * 67108864 + aa * 33554432 + nb * 16777216 + ab * 8388608 + clp * 524288 + sc * 32768 + rm * 8192 + rmo * 4096)
  | .vfma g d a b t c na aa nb ab nc ac clp sc rm rmo => some (2281701376 + g.pred * 1048576 + g.pn * 524288 + d * 16384 + a * 512 + b * 16 + t, c * 134217728 + na * 67108864 + aa * 33554432 + nb * 16777216 + ab * 8388608 + nc * 4194304 + ac * 2097152 + clp * 524288 + sc * 32768 + rm * 8192 + rmo * 4096)
  | .vmin g d a b t => some (167772160 + g.pred * 1048576 + g.pn * 524288 + d * 16384 + a * 512 + b * 16 + t, 0)
  | .vminLong g d a b t na aa nb ab clp sc rm rmo => some (2315255808 + g.pred * 1048576 + g.pn * 524288 + d * 16384 + a * 512 + b * 16 + t, na * 67108864 + aa * 33554432 + nb * 16777216 + ab * 8388608 + clp * 524288 + sc * 32768 + rm * 8192 + rmo * 4096)
  | .vmax g d a b t => some (201326592 + g.pred * 1048576 + g.pn * 524288 + d * 16384 + a * 512 + b * 16 + t, 0)
  | .vmaxLong g d a b t na aa nb ab clp sc rm rmo => some (2348810240 + g.pred * 1048576 + g.pn * 524288 + d * 16384 + a * 512 + b * 16 + t, na * 67108864 + aa * 33554432 + nb * 16777216 + ab * 8388608 + clp * 524288 + sc * 32768 + rm * 8192 + rmo * 4096)
  | .vand g d a b t => some (234881024 + g.pred * 1048576 + g.pn * 524288 + d * 16384 + a * 512 + b * 16 + t, 0)
  | .vor g d a b t => some (268435456 + g.pred * 1048576 + g.pn * 524288 + d * 16384 + a * 512 + b * 16 + t, 0)
  | .vxor g d a b t => some (301989888 + g.pred * 1048576 + g.pn * 524288 + d * 16384 + a * 512 + b * 16 + t, 0)
  | .vshl g d a b t => some (335544320 + g.pred * 1048576 + g.pn * 524288 + d * 16384 + a * 512 + b * 16 + t, 0)
  | .vshr g d a b t => some (369098752 + g.pred * 1048576 + g.pn * 524288 + d * 16384 + a * 512 + b * 16 + t, 0)
  | .vsar g d a b t => some (402653184 + g.pred * 1048576 + g.pn * 524288 + d * 16384 + a * 512 + b * 16 + t, 0)
  | .vcmp g d a b t na aa nb ab cond => some (2583691264 + g.pred * 1048576 + g.pn * 524288 + d * 16384 + a * 512 + b * 16 + t, na * 67108864 + aa * 33554432 + nb * 16777216 + ab * 8388608 + cond)
  | .vsel g d a b t c => some (2617245696 + g.pred * 1048576 + g.pn * 524288 + d * 16384 + a * 512 + b * 16 + t, c * 134217728)
  | .vcvt g d a t na aa clp sc rm rmo dc => some (2650800128 + g.pred * 1048576 + g.pn * 524288 + d * 16384 + a * 512 + t, na * 67108864 + aa * 33554432 + clp * 524288 + sc * 32768 + rm * 8192 + rmo * 4096 + dc)
  | .vrcp g d a t => some (536870912 + g.pred * 1048576 + g.pn * 524288 + d * 16384 + a * 512 + t, 0)
  | .vrcpLong g d a t na aa clp sc rm rmo => some (2684354560 + g.pred * 1048576 + g.pn * 524288 + d * 16384 + a * 512 + t, na * 67108864 + aa * 33554432 + clp * 524288 + sc * 32768 + rm * 8192 + rmo * 4096)
  | .vrsq g d a t => some (570425344 + g.pred * 1048576 + g.pn * 524288 + d * 16384 + a * 512 + t, 0)
  | .vrsqLong g d a t na aa clp sc rm rmo => some (2717908992 + g.pred * 1048576 + g.pn * 524288 + d * 16384 + a * 512 + t, na * 67108864 + aa * 33554432 + clp * 524288 + sc * 32768 + rm * 8192 + rmo * 4096)
  | .vexp g d a t => some (603979776 + g.pred * 1048576 + g.pn * 524288 + d * 16384 + a * 512 + t, 0)
  | .vexpLong g d a t na aa clp sc rm rmo => some (2751463424 + g.pred * 1048576 + g.pn * 524288 + d * 16384 + a * 512 + t, na * 67108864 + aa * 33554432 + clp * 524288 + sc * 32768 + rm * 8192 + rmo * 4096)
  | .vlog g d a t => some (637534208 + g.pred * 1048576 + g.pn * 524288 + d * 16384 + a * 512 + t, 0)
  | .vlogLong g d a t na aa clp sc rm rmo => some (2785017856 + g.pred * 1048576 + g.pn * 524288 + d * 16384 + a * 512 + t, na * 67108864 + aa * 33554432 + clp * 524288 + sc * 32768 + rm * 8192 + rmo * 4096)
  | .vsum g d a t => some (671088640 + g.pred * 1048576 + g.pn * 524288 + d * 16384 + a * 512 + t, 0)
  | .vsumLong g d a t na aa clp sc rm rmo => some (2818572288 + g.pred * 1048576 + g.pn * 524288 + d * 16384 + a * 512 + t, na * 67108864 + aa * 33554432 + clp * 524288 + sc * 32768 + rm * 8192 + rmo * 4096)
  | .vrmax g d a t => some (704643072 + g.pred * 1048576 + g.pn * 524288 + d * 16384 + a * 512 + t, 0)
  | .vrmaxLong g d a t na aa => some (2852126720 + g.pred * 1048576 + g.pn * 524288 + d * 16384 + a * 512 + t, na * 67108864 + aa * 33554432)
  | .vperm g d a b t => some (738197504 + g.pred * 1048576 + g.pn * 524288 + d * 16384 + a * 512 + b * 16 + t, 0)
  | .vbcast g d a t => some (771751936 + g.pred * 1048576 + g.pn * 524288 + d * 16384 + a * 512 + t, 0)
  | .vbcastLong g d a t lane => some (2919235584 + g.pred * 1048576 + g.pn * 524288 + d * 16384 + a * 512 + t, lane)
  | .viota g d t => some (805306368 + g.pred * 1048576 + g.pn * 524288 + d * 16384 + t, 0)
  | .vli g d t imm => some (2986344448 + g.pred * 1048576 + g.pn * 524288 + d * 16384 + t, imm)
  | .vld g r ar off => some (872415232 + g.pred * 1048576 + g.pn * 524288 + r * 16384 + ar * 2048 + off, 0)
  | .vldLong g r ar off step => some (3019898880 + g.pred * 1048576 + g.pn * 524288 + r * 16384 + ar * 2048 + off, step * 1048576)
  | .vst g r ar off => some (905969664 + g.pred * 1048576 + g.pn * 524288 + r * 16384 + ar * 2048 + off, 0)
  | .vstLong g r ar off step => some (3053453312 + g.pred * 1048576 + g.pn * 524288 + r * 16384 + ar * 2048 + off, step * 1048576)
  | .vrng g d a b t => some (939524096 + g.pred * 1048576 + g.pn * 524288 + d * 16384 + a * 512 + b * 16 + t, 0)
  | .vpopc g d a t => some (973078528 + g.pred * 1048576 + g.pn * 524288 + d * 16384 + a * 512 + t, 0)
  | .vany g pd a => some (1006632960 + g.pred * 1048576 + g.pn * 524288 + pd * 16384 + a * 512, 0)
  | .xcpV g f d s u => some (1040187392 + g.pred * 1048576 + g.pn * 524288 + f * 65536 + d * 1024 + s * 16 + u, 0)
  | .xcpVLane g f d s u lane => some (3187671040 + g.pred * 1048576 + g.pn * 524288 + f * 65536 + d * 1024 + s * 16 + u, lane)
  | .mgw g gw => some (33554432 + g.pred * 1048576 + g.pn * 524288 + gw * 8192, 0)
  | .mgreq g ma mb n => some (67108864 + g.pred * 1048576 + g.pn * 524288 + ma * 32768 + mb * 2048 + n, 0)
  | .mpack g z im off n rev str start step => some (2248146944 + g.pred * 1048576 + g.pn * 524288 + z * 65536 + im * 8192 + off, n * 8388608 + rev * 4194304 + str * 1048576 + start * 2048 + step)
  | .mldb g lane entry im => some (134217728 + g.pred * 1048576 + g.pn * 524288 + lane * 131072 + entry * 256 + im * 32, 0)
  | .mldbLong g lane entry im off lstep estep => some (2281701376 + g.pred * 1048576 + g.pn * 524288 + lane * 131072 + entry * 256 + im * 32, off * 524288 + lstep * 1024 + estep * 2)
  | .mmul g q z e => some (167772160 + g.pred * 1048576 + g.pn * 524288 + q * 131072 + z * 16384 + e * 32, 0)
  | .mmac g q z e => some (201326592 + g.pred * 1048576 + g.pn * 524288 + q * 131072 + z * 16384 + e * 32, 0)
  | .mclr g q => some (234881024 + g.pred * 1048576 + g.pn * 524288 + q * 131072, 0)
  | .mext g q im first count wide off => some (2415919104 + g.pred * 1048576 + g.pn * 524288 + q * 131072 + im * 16384, first * 8388608 + count * 16384 + wide * 8192 + off)
  | .mcvt g q im first count off => some (2449473536 + g.pred * 1048576 + g.pn * 524288 + q * 131072 + im * 16384, first * 8388608 + count * 16384 + off)
  | .mshr g q k => some (335544320 + g.pred * 1048576 + g.pn * 524288 + q * 131072 + k * 256, 0)
  | .mneg g q => some (369098752 + g.pred * 1048576 + g.pn * 524288 + q * 131072, 0)
  | .mldq g q im => some (402653184 + g.pred * 1048576 + g.pn * 524288 + q * 131072 + im * 16384, 0)
  | .mldqLong g q im off => some (2550136832 + g.pred * 1048576 + g.pn * 524288 + q * 131072 + im * 16384, off)
  | .mstq g q im => some (436207616 + g.pred * 1048576 + g.pn * 524288 + q * 131072 + im * 16384, 0)
  | .mstqLong g q im off => some (2583691264 + g.pred * 1048576 + g.pn * 524288 + q * 131072 + im * 16384, off)
  | .xcpM g f d s u => some (469762048 + g.pred * 1048576 + g.pn * 524288 + f * 65536 + d * 1024 + s * 16 + u, 0)
  | .cpy g sstep dstep src dst cnt => some (2181038080 + g.pred * 1048576 + g.pn * 524288 + sstep * 4096 + dstep * 32, src * 1048576 + dst * 256 + cnt)
  | .cpyx g core sstep dstep src dst cnt => some (2214592512 + g.pred * 1048576 + g.pn * 524288 + core * 1024 + sstep * 32 + dstep, src * 1048576 + dst * 256 + cnt)
  | .dact g vch bank h row => some (2248146944 + g.pred * 1048576 + g.pn * 524288 + vch * 4096 + bank * 256 + h * 16, row)
  | .drd g vch bank col line step => some (2281701376 + g.pred * 1048576 + g.pn * 524288 + vch * 4096 + bank * 256 + col * 16, line * 1048576 + step * 16384)
  | .dwr g vch bank col line step => some (2315255808 + g.pred * 1048576 + g.pn * 524288 + vch * 4096 + bank * 256 + col * 16, line * 1048576 + step * 16384)
  | .dpre g vch bank all => some (201326592 + g.pred * 1048576 + g.pn * 524288 + vch * 4096 + bank * 256 + all, 0)
  | .dref g vch bank => some (234881024 + g.pred * 1048576 + g.pn * 524288 + vch * 4096 + bank * 256, 0)
  | .rld g r line idx => some (2415919104 + g.pred * 1048576 + g.pn * 524288 + r * 32768, line * 1048576 + idx * 131072)
  | .rset g r fld val => some (2449473536 + g.pred * 1048576 + g.pn * 524288 + r * 32768 + fld * 2048, val)
  | .enq g rs rd scope acq rel kind off => some (2483027968 + g.pred * 1048576 + g.pn * 524288 + rs * 32768 + rd * 2048 + scope * 512 + acq * 256 + rel * 128 + kind * 16, off)
  | .aop g r fn size scope acq rel opl resl foff => some (2516582400 + g.pred * 1048576 + g.pn * 524288 + r * 32768 + fn * 2048 + size * 512 + scope * 128 + acq * 64 + rel * 32, opl * 1048576 + resl * 256 + foff)
  | .fsend g r line cnt port => some (2550136832 + g.pred * 1048576 + g.pn * 524288 + r * 32768, line * 1048576 + cnt * 4096 + port * 128)
  | .fput g rs rd scope rel flag => some (2583691264 + g.pred * 1048576 + g.pn * 524288 + rs * 32768 + rd * 2048 + scope * 512 + rel * 256, flag * 1048576)
  | .xcpC g f d s u => some (469762048 + g.pred * 1048576 + g.pn * 524288 + f * 65536 + d * 1024 + s * 16 + u, 0)
  | .headerBreak _ _ => none
  | .transferTakesEffect _ _ => none
  | .loopPassEnd _ _ => none
  | .registerResult _ _ => none
  | .scratchpadTouch _ _ => none
  | .drdLanding _ _ => none
  | .cpyxArrival _ _ => none
  | .fsendLanding _ _ => none
  | .linkTimingFault _ _ => none
  | .xltResult _ _ => none
  | .mpackResult _ _ => none
  | .mldbEntryWrite _ _ => none
  | .multiplyResult _ _ => none
  | .accumulatorResult _ _ => none
  | .mextWrite _ _ => none
  | .mldqResult _ _ => none
  | .vcvtBlockResult _ _ => none
  | .enqStartCheck _ _ => none
  | .enqReadPhase _ _ => none
  | .untimedScratchAccess _ _ _ => none
  | .enginePiece _ _ _ => none
  | .engineWalk _ _ _ => none
  | .aopPerform _ _ _ => none
  | .flagWordWrite _ _ _ => none
  | .streamReplay _ _ _ _ _ => none
  | .portDown _ => none
  | .destinationUnreachable _ _ _ => none
  | .refreshDone _ _ _ => none
  | .refreshDeadline _ => none
  | .refreshKeeper _ => none
  | .serviceWindow _ _ => none
  | .wakeStart _ _ _ => none
  | .domainReady _ _ _ => none
  | .noticeLapse _ _ => none
  | .barrierArrival _ _ _ => none
  | .barrierTimeout _ _ => none
  | .absenceToken _ _ _ => none
  | .watchdog _ => none
  | .holdRequest _ _ => none
  | .holdStart _ => none
  | .holdEnd _ => none
  | .stopNotice _ _ _ => none
  | .alignmentFlitSend _ => none
  | .alignmentFlitArrival _ => none
  | .droopStretch _ _ => none
  | .stretchNotice _ _ => none
  | .alignmentPause _ => none
  | .railError => none
  | .faultHandler _ => none
  | .belfryPanic => none
  | .pageMove _ _ _ _ => none
  | .taskDispatch _ => none
  | .taskStart _ => none
  | .taskCompletion _ => none
  | .launchNodeRead _ _ => none
  | .preemptionRequest _ _ => none
  | .clampEffect _ => none
  | .parkFreeze _ => none
  | .parkDeadline _ => none
  | .forcedStop _ => none
  | .drainTimeout _ => none
  | .contextSave _ => none
  | .resume _ => none
  | .channelReassignment _ _ => none
  | .endSlice _ => none
  | .reshape _ _ => none
  | .pageOut _ => none
  | .coldRestore _ => none
  | .qsubWrite _ _ => none
  | .featureCommit _ => none
  | .emloRead _ => none
  | .emhiRead _ => none
  | .energyMeterClear _ => none
  | .pcapWrite _ => none
  | .mmioWrite _ _ _ => none
  | .registerImage _ => none
  | .unregisterImage _ => none
  | .createTenant _ => none
  | .deleteTenant _ => none
  | .createLogicalPartition _ => none
  | .deleteLogicalPartition _ => none
  | .lifeCycleNonce _ => none
  | .lifeCycleChange _ => none
  | .attestationReport _ => none
  | .attestationKey _ => none
  | .debugEnable _ => none
  | .setBreakMask _ => none
  | .debugRelease _ => none
  | .packageReset => none
  | .portTraining _ _ _ => none
  | .syncFlit _ _ => none
  | .thermalSample _ _ => none
  | .maintenanceCycle _ => none
  | .energyMeterCharge _ _ => none
  | .powerLoss => none
  | .absenceTokenWithdrawn _ _ _ => none
  | .untimedFlitReceived _ _ _ _ => none
  | .alignmentPauseEnd _ => none
  | .mailboxUnknownCode _ => none

/-- PRED and PN of an op word (04_encoding R57). -/
def guardOf (w : Nat) : Guard := ⟨bits w 20 5, bits w 19 1⟩

/-- The fields of a short K op, before its codes are checked (04_encoding R60, R62); `none` for an opcode with no short form. -/
def buildKShort (w _x : Nat) : Option Instr :=
  match bits w 25 6 with
  | 0 => some (.nop (guardOf w))
  | 1 => some (.br (guardOf w) (bits w 0 19))
  | 2 => some (.brk (guardOf w) (bits w 15 4))
  | 3 => some (.call (guardOf w) (bits w 0 19))
  | 4 => some (.ret (guardOf w))
  | 6 => some (.yieldOp (guardOf w))
  | 7 => some (.endOp (guardOf w))
  | 8 => some (.trap (guardOf w) (bits w 0 19))
  | 9 => some (.wake (guardOf w) (bits w 14 5) (bits w 12 2))
  | 10 => some (.sleep (guardOf w) (bits w 14 5) (bits w 12 2))
  | 11 => some (.wstat (guardOf w) (bits w 15 4) (bits w 10 5))
  | 12 => some (.leave (guardOf w) (bits w 15 4))
  | 13 => some (.xlt (guardOf w) (bits w 15 4) (bits w 11 4))
  | 14 => some (.hinv (guardOf w) (bits w 15 4))
  | 15 => some (.setfmt (guardOf w) (bits w 15 4))
  | 16 => some (.bara (guardOf w) (bits w 15 4))
  | 17 => some (.barw (guardOf w) (bits w 15 4))
  | 18 => some (.phase (guardOf w))
  | 19 => some (.launch (guardOf w) (bits w 15 4) (bits w 11 4))
  | 20 => some (.fence (guardOf w) (bits w 17 2) (bits w 15 2))
  | 21 => some (.tabr (guardOf w) (bits w 15 4) (bits w 14 1))
  | 23 => some (.kcp (guardOf w) (bits w 15 4) (bits w 11 4))
  | 24 => some (.xcpK (guardOf w) (bits w 16 3) (bits w 10 6) (bits w 4 6) (bits w 0 4))
  | _ => none

/-- The fields of a long K op, before its codes are checked (04_encoding R60, R62); `none` for an opcode with no long form. -/
def buildKLong (w x : Nat) : Option Instr :=
  match bits w 25 6 with
  | 5 => some (.loop (guardOf w) (bits w 15 4) (bits w 11 4) (bits w 4 7) (bits w 0 4) (bits x 31 1) (bits x 0 31))
  | 15 => some (.setfmtLong (guardOf w) (bits x 0 2))
  | 17 => some (.barwTimeout (guardOf w) (bits w 15 4) (bits x 0 32))
  | 22 => some (.kli (guardOf w) (bits w 15 4) (bits x 0 32))
  | _ => none

/-- The fields of a short S op, before its codes are checked (R60, R63); `none` for an opcode with no short form, and for an immediate's bit V that the length does not go with. -/
def buildSShort (w _x : Nat) : Option Instr :=
  match bits w 25 6 with
  | 0 => some (.nop (guardOf w))
  | 1 => if bits w 0 1 = 0 then some (.add (guardOf w) (bits w 13 6) (bits w 7 6) (bits w 1 6)) else none
  | 2 => some (.addi (guardOf w) (bits w 13 6) (bits w 7 6) (bits w 0 7))
  | 3 => if bits w 0 1 = 0 then some (.sub (guardOf w) (bits w 13 6) (bits w 7 6) (bits w 1 6)) else none
  | 6 => if bits w 0 1 = 0 then some (.mul (guardOf w) (bits w 13 6) (bits w 7 6) (bits w 1 6)) else none
  | 7 => some (.mulh (guardOf w) (bits w 13 6) (bits w 7 6) (bits w 1 6) (bits w 0 1))
  | 8 => some (.div (guardOf w) (bits w 13 6) (bits w 7 6) (bits w 1 6) (bits w 0 1))
  | 9 => if bits w 0 1 = 0 then some (.andOp (guardOf w) (bits w 13 6) (bits w 7 6) (bits w 1 6)) else none
  | 10 => if bits w 0 1 = 0 then some (.orOp (guardOf w) (bits w 13 6) (bits w 7 6) (bits w 1 6)) else none
  | 11 => if bits w 0 1 = 0 then some (.xorOp (guardOf w) (bits w 13 6) (bits w 7 6) (bits w 1 6)) else none
  | 12 => if bits w 0 1 = 0 then some (.shl (guardOf w) (bits w 13 6) (bits w 7 6) (bits w 1 6)) else none
  | 13 => if bits w 0 1 = 0 then some (.shr (guardOf w) (bits w 13 6) (bits w 7 6) (bits w 1 6)) else none
  | 14 => if bits w 0 1 = 0 then some (.sar (guardOf w) (bits w 13 6) (bits w 7 6) (bits w 1 6)) else none
  | 15 => some (.minOp (guardOf w) (bits w 13 6) (bits w 7 6) (bits w 1 6) (bits w 0 1))
  | 16 => some (.maxOp (guardOf w) (bits w 13 6) (bits w 7 6) (bits w 1 6) (bits w 0 1))
  | 17 => some (.clz (guardOf w) (bits w 13 6) (bits w 7 6))
  | 18 => some (.popc (guardOf w) (bits w 13 6) (bits w 7 6))
  | 23 => some (.plog (guardOf w) (bits w 14 5) (bits w 9 5) (bits w 4 5) (bits w 0 4))
  | 26 => some (.xcpS (guardOf w) (bits w 16 3) (bits w 10 6) (bits w 4 6) (bits w 0 4))
  | _ => none

/-- The fields of a long S op, before its codes are checked (R60, R63); `none` for an opcode with no long form, and for an immediate's bit V that the length does not go with. -/
def buildSLong (w x : Nat) : Option Instr :=
  match bits w 25 6 with
  | 1 => if bits w 0 1 = 1 then some (.addImm (guardOf w) (bits w 13 6) (bits w 7 6) (bits x 0 32)) else none
  | 3 => if bits w 0 1 = 1 then some (.subImm (guardOf w) (bits w 13 6) (bits w 7 6) (bits x 0 32)) else none
  | 4 => some (.adc (guardOf w) (bits w 13 6) (bits w 7 6) (bits w 1 6) (bits x 0 5) (bits x 5 5))
  | 5 => some (.sbb (guardOf w) (bits w 13 6) (bits w 7 6) (bits w 1 6) (bits x 0 5) (bits x 5 5))
  | 6 => if bits w 0 1 = 1 then some (.mulImm (guardOf w) (bits w 13 6) (bits w 7 6) (bits x 0 32)) else none
  | 9 => if bits w 0 1 = 1 then some (.andImm (guardOf w) (bits w 13 6) (bits w 7 6) (bits x 0 32)) else none
  | 10 => if bits w 0 1 = 1 then some (.orImm (guardOf w) (bits w 13 6) (bits w 7 6) (bits x 0 32)) else none
  | 11 => if bits w 0 1 = 1 then some (.xorImm (guardOf w) (bits w 13 6) (bits w 7 6) (bits x 0 32)) else none
  | 12 => if bits w 0 1 = 1 then some (.shlImm (guardOf w) (bits w 13 6) (bits w 7 6) (bits x 0 32)) else none
  | 13 => if bits w 0 1 = 1 then some (.shrImm (guardOf w) (bits w 13 6) (bits w 7 6) (bits x 0 32)) else none
  | 14 => if bits w 0 1 = 1 then some (.sarImm (guardOf w) (bits w 13 6) (bits w 7 6) (bits x 0 32)) else none
  | 19 => some (.li (guardOf w) (bits w 13 6) (bits x 0 32))
  | 20 => some (.lih (guardOf w) (bits w 13 6) (bits x 0 32))
  | 21 => some (.sel (guardOf w) (bits w 13 6) (bits w 7 6) (bits w 1 6) (bits x 0 5))
  | 22 => some (.cmp (guardOf w) (bits w 13 6) (bits w 7 6) (bits w 1 6) (bits w 0 1) (bits x 0 3) (bits x 3 1) (bits x 8 24))
  | 24 => some (.lds (guardOf w) (bits w 13 6) (bits w 7 6) (bits w 0 1) (bits x 30 2) (bits x 0 20))
  | 25 => some (.sts (guardOf w) (bits w 13 6) (bits w 7 6) (bits x 30 2) (bits x 0 20))
  | _ => none

/-- The fields of a short V op, before its codes are checked (R60, R64 to R66); `none` for an opcode with no short form. -/
def buildVShort (w _x : Nat) : Option Instr :=
  match bits w 25 6 with
  | 0 => some (.nop (guardOf w))
  | 1 => some (.vadd (guardOf w) (bits w 14 5) (bits w 9 5) (bits w 4 5) (bits w 0 4))
  | 2 => some (.vsub (guardOf w) (bits w 14 5) (bits w 9 5) (bits w 4 5) (bits w 0 4))
  | 3 => some (.vmul (guardOf w) (bits w 14 5) (bits w 9 5) (bits w 4 5) (bits w 0 4))
  | 5 => some (.vmin (guardOf w) (bits w 14 5) (bits w 9 5) (bits w 4 5) (bits w 0 4))
  | 6 => some (.vmax (guardOf w) (bits w 14 5) (bits w 9 5) (bits w 4 5) (bits w 0 4))
  | 7 => some (.vand (guardOf w) (bits w 14 5) (bits w 9 5) (bits w 4 5) (bits w 0 4))
  | 8 => some (.vor (guardOf w) (bits w 14 5) (bits w 9 5) (bits w 4 5) (bits w 0 4))
  | 9 => some (.vxor (guardOf w) (bits w 14 5) (bits w 9 5) (bits w 4 5) (bits w 0 4))
  | 10 => some (.vshl (guardOf w) (bits w 14 5) (bits w 9 5) (bits w 4 5) (bits w 0 4))
  | 11 => some (.vshr (guardOf w) (bits w 14 5) (bits w 9 5) (bits w 4 5) (bits w 0 4))
  | 12 => some (.vsar (guardOf w) (bits w 14 5) (bits w 9 5) (bits w 4 5) (bits w 0 4))
  | 16 => some (.vrcp (guardOf w) (bits w 14 5) (bits w 9 5) (bits w 0 4))
  | 17 => some (.vrsq (guardOf w) (bits w 14 5) (bits w 9 5) (bits w 0 4))
  | 18 => some (.vexp (guardOf w) (bits w 14 5) (bits w 9 5) (bits w 0 4))
  | 19 => some (.vlog (guardOf w) (bits w 14 5) (bits w 9 5) (bits w 0 4))
  | 20 => some (.vsum (guardOf w) (bits w 14 5) (bits w 9 5) (bits w 0 4))
  | 21 => some (.vrmax (guardOf w) (bits w 14 5) (bits w 9 5) (bits w 0 4))
  | 22 => some (.vperm (guardOf w) (bits w 14 5) (bits w 9 5) (bits w 4 5) (bits w 0 4))
  | 23 => some (.vbcast (guardOf w) (bits w 14 5) (bits w 9 5) (bits w 0 4))
  | 24 => some (.viota (guardOf w) (bits w 14 5) (bits w 0 4))
  | 26 => some (.vld (guardOf w) (bits w 14 5) (bits w 11 3) (bits w 0 11))
  | 27 => some (.vst (guardOf w) (bits w 14 5) (bits w 11 3) (bits w 0 11))
  | 28 => some (.vrng (guardOf w) (bits w 14 5) (bits w 9 5) (bits w 4 5) (bits w 0 4))
  | 29 => some (.vpopc (guardOf w) (bits w 14 5) (bits w 9 5) (bits w 0 4))
  | 30 => some (.vany (guardOf w) (bits w 14 5) (bits w 9 5))
  | 31 => some (.xcpV (guardOf w) (bits w 16 3) (bits w 10 6) (bits w 4 6) (bits w 0 4))
  | _ => none

/-- The fields of a long V op, before its codes are checked (R60, R64 to R66); `none` for an opcode with no long form. -/
def buildVLong (w x : Nat) : Option Instr :=
  match bits w 25 6 with
  | 1 => some (.vaddLong (guardOf w) (bits w 14 5) (bits w 9 5) (bits w 4 5) (bits w 0 4) (bits x 26 1) (bits x 25 1) (bits x 24 1) (bits x 23 1) (bits x 19 2) (bits x 15 4) (bits x 13 2) (bits x 12 1))
  | 2 => some (.vsubLong (guardOf w) (bits w 14 5) (bits w 9 5) (bits w 4 5) (bits w 0 4) (bits x 26 1) (bits x 25 1) (bits x 24 1) (bits x 23 1) (bits x 19 2) (bits x 15 4) (bits x 13 2) (bits x 12 1))
  | 3 => some (.vmulLong (guardOf w) (bits w 14 5) (bits w 9 5) (bits w 4 5) (bits w 0 4) (bits x 26 1) (bits x 25 1) (bits x 24 1) (bits x 23 1) (bits x 19 2) (bits x 15 4) (bits x 13 2) (bits x 12 1))
  | 4 => some (.vfma (guardOf w) (bits w 14 5) (bits w 9 5) (bits w 4 5) (bits w 0 4) (bits x 27 5) (bits x 26 1) (bits x 25 1) (bits x 24 1) (bits x 23 1) (bits x 22 1) (bits x 21 1) (bits x 19 2) (bits x 15 4) (bits x 13 2) (bits x 12 1))
  | 5 => some (.vminLong (guardOf w) (bits w 14 5) (bits w 9 5) (bits w 4 5) (bits w 0 4) (bits x 26 1) (bits x 25 1) (bits x 24 1) (bits x 23 1) (bits x 19 2) (bits x 15 4) (bits x 13 2) (bits x 12 1))
  | 6 => some (.vmaxLong (guardOf w) (bits w 14 5) (bits w 9 5) (bits w 4 5) (bits w 0 4) (bits x 26 1) (bits x 25 1) (bits x 24 1) (bits x 23 1) (bits x 19 2) (bits x 15 4) (bits x 13 2) (bits x 12 1))
  | 13 => some (.vcmp (guardOf w) (bits w 14 5) (bits w 9 5) (bits w 4 5) (bits w 0 4) (bits x 26 1) (bits x 25 1) (bits x 24 1) (bits x 23 1) (bits x 0 3))
  | 14 => some (.vsel (guardOf w) (bits w 14 5) (bits w 9 5) (bits w 4 5) (bits w 0 4) (bits x 27 5))
  | 15 => some (.vcvt (guardOf w) (bits w 14 5) (bits w 9 5) (bits w 0 4) (bits x 26 1) (bits x 25 1) (bits x 19 2) (bits x 15 4) (bits x 13 2) (bits x 12 1) (bits x 0 5))
  | 16 => some (.vrcpLong (guardOf w) (bits w 14 5) (bits w 9 5) (bits w 0 4) (bits x 26 1) (bits x 25 1) (bits x 19 2) (bits x 15 4) (bits x 13 2) (bits x 12 1))
  | 17 => some (.vrsqLong (guardOf w) (bits w 14 5) (bits w 9 5) (bits w 0 4) (bits x 26 1) (bits x 25 1) (bits x 19 2) (bits x 15 4) (bits x 13 2) (bits x 12 1))
  | 18 => some (.vexpLong (guardOf w) (bits w 14 5) (bits w 9 5) (bits w 0 4) (bits x 26 1) (bits x 25 1) (bits x 19 2) (bits x 15 4) (bits x 13 2) (bits x 12 1))
  | 19 => some (.vlogLong (guardOf w) (bits w 14 5) (bits w 9 5) (bits w 0 4) (bits x 26 1) (bits x 25 1) (bits x 19 2) (bits x 15 4) (bits x 13 2) (bits x 12 1))
  | 20 => some (.vsumLong (guardOf w) (bits w 14 5) (bits w 9 5) (bits w 0 4) (bits x 26 1) (bits x 25 1) (bits x 19 2) (bits x 15 4) (bits x 13 2) (bits x 12 1))
  | 21 => some (.vrmaxLong (guardOf w) (bits w 14 5) (bits w 9 5) (bits w 0 4) (bits x 26 1) (bits x 25 1))
  | 23 => some (.vbcastLong (guardOf w) (bits w 14 5) (bits w 9 5) (bits w 0 4) (bits x 0 7))
  | 25 => some (.vli (guardOf w) (bits w 14 5) (bits w 0 4) (bits x 0 32))
  | 26 => some (.vldLong (guardOf w) (bits w 14 5) (bits w 11 3) (bits w 0 11) (bits x 20 12))
  | 27 => some (.vstLong (guardOf w) (bits w 14 5) (bits w 11 3) (bits w 0 11) (bits x 20 12))
  | 31 => some (.xcpVLane (guardOf w) (bits w 16 3) (bits w 10 6) (bits w 4 6) (bits w 0 4) (bits x 0 5))
  | _ => none

/-- The fields of a short M op, before its codes are checked (R60, R67); `none` for an opcode with no short form. -/
def buildMShort (w _x : Nat) : Option Instr :=
  match bits w 25 6 with
  | 0 => some (.nop (guardOf w))
  | 1 => some (.mgw (guardOf w) (bits w 13 6))
  | 2 => some (.mgreq (guardOf w) (bits w 15 4) (bits w 11 4) (bits w 0 11))
  | 4 => some (.mldb (guardOf w) (bits w 17 2) (bits w 8 9) (bits w 5 3))
  | 5 => some (.mmul (guardOf w) (bits w 17 2) (bits w 14 3) (bits w 5 9))
  | 6 => some (.mmac (guardOf w) (bits w 17 2) (bits w 14 3) (bits w 5 9))
  | 7 => some (.mclr (guardOf w) (bits w 17 2))
  | 10 => some (.mshr (guardOf w) (bits w 17 2) (bits w 8 9))
  | 11 => some (.mneg (guardOf w) (bits w 17 2))
  | 12 => some (.mldq (guardOf w) (bits w 17 2) (bits w 14 3))
  | 13 => some (.mstq (guardOf w) (bits w 17 2) (bits w 14 3))
  | 14 => some (.xcpM (guardOf w) (bits w 16 3) (bits w 10 6) (bits w 4 6) (bits w 0 4))
  | _ => none

/-- The fields of a long M op, before its codes are checked (R60, R67); `none` for an opcode with no long form. -/
def buildMLong (w x : Nat) : Option Instr :=
  match bits w 25 6 with
  | 3 => some (.mpack (guardOf w) (bits w 16 3) (bits w 13 3) (bits w 0 13) (bits x 23 9) (bits x 22 1) (bits x 20 2) (bits x 11 9) (bits x 0 11))
  | 4 => some (.mldbLong (guardOf w) (bits w 17 2) (bits w 8 9) (bits w 5 3) (bits x 19 13) (bits x 10 9) (bits x 1 9))
  | 8 => some (.mext (guardOf w) (bits w 17 2) (bits w 14 3) (bits x 23 9) (bits x 14 9) (bits x 13 1) (bits x 0 13))
  | 9 => some (.mcvt (guardOf w) (bits w 17 2) (bits w 14 3) (bits x 23 9) (bits x 14 9) (bits x 0 13))
  | 12 => some (.mldqLong (guardOf w) (bits w 17 2) (bits w 14 3) (bits x 0 13))
  | 13 => some (.mstqLong (guardOf w) (bits w 17 2) (bits w 14 3) (bits x 0 13))
  | _ => none

/-- The fields of a short C op, before its codes are checked (R60, R68); `none` for an opcode with no short form. -/
def buildCShort (w _x : Nat) : Option Instr :=
  match bits w 25 6 with
  | 0 => some (.nop (guardOf w))
  | 6 => some (.dpre (guardOf w) (bits w 12 7) (bits w 8 4) (bits w 0 1))
  | 7 => some (.dref (guardOf w) (bits w 12 7) (bits w 8 4))
  | 14 => some (.xcpC (guardOf w) (bits w 16 3) (bits w 10 6) (bits w 4 6) (bits w 0 4))
  | _ => none

/-- The fields of a long C op, before its codes are checked (R60, R68); `none` for an opcode with no long form. -/
def buildCLong (w x : Nat) : Option Instr :=
  match bits w 25 6 with
  | 1 => some (.cpy (guardOf w) (bits w 12 7) (bits w 5 7) (bits x 20 12) (bits x 8 12) (bits x 0 8))
  | 2 => some (.cpyx (guardOf w) (bits w 10 9) (bits w 5 5) (bits w 0 5) (bits x 20 12) (bits x 8 12) (bits x 0 8))
  | 3 => some (.dact (guardOf w) (bits w 12 7) (bits w 8 4) (bits w 4 4) (bits x 0 16))
  | 4 => some (.drd (guardOf w) (bits w 12 7) (bits w 8 4) (bits w 4 4) (bits x 20 12) (bits x 14 6))
  | 5 => some (.dwr (guardOf w) (bits w 12 7) (bits w 8 4) (bits w 4 4) (bits x 20 12) (bits x 14 6))
  | 8 => some (.rld (guardOf w) (bits w 15 4) (bits x 20 12) (bits x 17 3))
  | 9 => some (.rset (guardOf w) (bits w 15 4) (bits w 11 4) (bits x 0 32))
  | 10 => some (.enq (guardOf w) (bits w 15 4) (bits w 11 4) (bits w 9 2) (bits w 8 1) (bits w 7 1) (bits w 4 3) (bits x 0 32))
  | 11 => some (.aop (guardOf w) (bits w 15 4) (bits w 11 4) (bits w 9 2) (bits w 7 2) (bits w 6 1) (bits w 5 1) (bits x 20 12) (bits x 8 12) (bits x 0 8))
  | 12 => some (.fsend (guardOf w) (bits w 15 4) (bits x 20 12) (bits x 12 8) (bits x 7 5))
  | 13 => some (.fput (guardOf w) (bits w 15 4) (bits w 11 4) (bits w 9 2) (bits w 8 1) (bits x 20 12))
  | _ => none

/-- The candidate instruction of a slot's map for an op word and its extension (04_encoding R53, R60). -/
def buildOp (mp : OpMap) (w x : Nat) : Option Instr :=
  match mp, bits w 31 1 with
  | .k, 0 => buildKShort w x
  | .k, _ => buildKLong w x
  | .s, 0 => buildSShort w x
  | .s, _ => buildSLong w x
  | .v, 0 => buildVShort w x
  | .v, _ => buildVLong w x
  | .m, 0 => buildMShort w x
  | .m, _ => buildMLong w x
  | .c, 0 => buildCShort w x
  | .c, _ => buildCLong w x

/-- CLP 2 or 3, SC ≠ 0 or RMO = 1 in the extension of a long V op that has no such modifier, with an integer or natural T: an illegal
encoding, where the other bits that such an op does not use are reserved fields (04_encoding R65; 23_ref_v_y R358). -/
def floatOnlyBits (mp : OpMap) (w x : Nat) : Bool :=
  decide (mp = .v ∧ bits w 31 1 = 1 ∧ bits w 0 4 ≤ 7) && [13, 14, 21, 23].contains (bits w 25 6)
  && decide (2 ≤ bits x 19 2 ∨ bits x 15 4 ≠ 0 ∨ bits x 12 1 = 1)

/-- The op that a slot reads from an op word and its extension word (04_encoding R53, R58, R59): an illegal encoding is found before a
reserved field (03_core R47, checks 4 and 5); a reserved bit is set exactly when the op, encoded again, gives other words. -/
def decodeOp (sl w x : Nat) : Except DecodeError Instr :=
  match OpMap.ofSlot sl with
  | none => .error .illegalEncoding
  | some mp =>
    match buildOp mp w x with
    | none => .error .illegalEncoding
    | some i =>
      if i.legal sl = false then .error .illegalEncoding
      else if floatOnlyBits mp w x = true then .error .illegalEncoding
      else if i.zeroRule = false then .error .reservedField
      else if encode i = some (w, x) then .ok i
      else .error .reservedField

/-- The word that four bytes hold, least significant byte first (00_scope R3). -/
def wordOfBytes (b0 b1 b2 b3 : Byte) : Nat :=
  b0.toNat + 256 * b1.toNat + 65536 * b2.toNat + 16777216 * b3.toNat

/-- The first word of a byte string and the rest of it. -/
def takeWord : List Byte → Option (Nat × List Byte)
  | b0 :: b1 :: b2 :: b3 :: rest => some (wordOfBytes b0 b1 b2 b3, rest)
  | _ => none

/-- The op at the head of a byte string read in slot `sl`, and the bytes after it (04_encoding R53). -/
def decodeBytes (sl : Nat) (bs : List Byte) : Except DecodeError (Instr × List Byte) :=
  match takeWord bs with
  | none => .error .tooShort
  | some (w, rest) =>
    if bits w 31 1 = 0 then
      match decodeOp sl w 0 with
      | .ok i => .ok (i, rest)
      | .error e => .error e
    else
      match takeWord rest with
      | none => .error .tooShort
      | some (x, rest') =>
        match decodeOp sl w x with
        | .ok i => .ok (i, rest')
        | .error e => .error e

/-- The four bytes of a word as memory holds them (00_scope R3). -/
def bytesOfWord (w : Nat) : List Byte :=
  [BitVec.ofNat 8 w, BitVec.ofNat 8 (w / 256), BitVec.ofNat 8 (w / 65536), BitVec.ofNat 8 (w / 16777216)]

/-- The slots in which a word standing alone is tried, for its opcode: the layouts with the fewest free bits first. The spec decodes a
word by the slot it stands in (04_encoding R53), which a lone word does not say: the order is the model's choice.
(DESIGN CHOICE: notes/assumptions/77.md) -/
def tableSlots (opc : Nat) : List Nat :=
  match opc with
  | 1 => [4, 1, 0, 2, 5, 3, 6]
  | 3 => [1, 0, 2, 4, 5, 3, 6]
  | 4 | 10 | 12 => [0, 4, 1, 2, 5, 3, 6]
  | 5 => [4, 2, 0, 1, 5, 3, 6]
  | 6 => [0, 5, 4, 1, 2, 3, 6]
  | 7 => [0, 4, 5, 1, 2, 3, 6]
  | 11 | 13 => [4, 0, 1, 2, 5, 3, 6]
  | 14 => [0, 1, 4, 5, 2, 3, 6]
  | 16 | 19 | 20 | 21 | 23 => [0, 2, 1, 4, 5, 3, 6]
  | 22 | 24 | 27 | 28 | 29 | 30 | 31 => [2, 0, 1, 4, 5, 3, 6]
  | 26 => [1, 2, 0, 4, 5, 3, 6]
  | _ => [0, 1, 2, 4, 5, 3, 6]

/-- The first slot of a list in which the words are an instruction, with that instruction. (DESIGN CHOICE: notes/assumptions/77.md) -/
def firstSlot (w x : Nat) : List Nat → Option (Nat × Instr)
  | [] => none
  | sl :: rest =>
    match decodeOp sl w x with
    | .ok i => some (sl, i)
    | .error _ => firstSlot w x rest

/-- The slot and the instruction of a lone op word and extension word. -/
def decodeAlone (w x : Nat) : Option (Nat × Instr) := firstSlot w x (tableSlots (bits w 25 6))

/-- The instruction the decoder reads from the bits of a row of the opcode table: bits 31:0 the op word, bits 63:32 the extension. -/
def decodeTableWord (_nbits w : Nat) : Option Instr :=
  let bs := bytesOfWord (w % 4294967296) ++ bytesOfWord (w / 4294967296 % 4294967296)
  match decodeAlone (w % 4294967296) (if bits w 31 1 = 0 then 0 else w / 4294967296 % 4294967296) with
  | none => none
  | some (sl, _) =>
    match decodeBytes sl bs with
    | .ok (i, _) => some i
    | .error _ => none

end Sys2Proof
end

