-- ==== Sys2Proof/Config.lean ====
section
/-! DEFINITION. What the manual fixes for the part, and what it leaves to an implementation or to wall time.
A constant with a value is a figure of the manual. An `opaque` constant is a free value: nothing can evaluate it, so a
claim about the machine holds whatever it is (notes/assumptions/2.md, 3.md, 4.md). -/

namespace Sys2Proof

namespace Config

/-- Lines of a scratchpad (09_memory R123). -/
def lines : Nat := 4096

/-- Entries of a B-store slice (09_memory R129). -/
def entries : Nat := 512

/-- Words of an instruction store (04_encoding R55). -/
def storeWords : Nat := 65536

/-- Bytes of the Belfry's locked SRAM (01_device, the table of parts). -/
def sramBytes : Nat := 2 ^ 24

/-- PT cycles of a beat (00_scope R5). -/
def beat : Nat := 1024

/-- Pending nodes a queue holds (15_tasks R230). -/
def queueLimit : Nat := 256

/-- Tabor cycles of the pre-emption drain (16_faults R253). -/
def drainCycles : Nat := 600000

/-- Tabor cycles without a live plane after which a command ends: 10 ms at 600 MHz (18_fabric_host R278). -/
def unreachableCycles : Nat := 6000000

/-- PT cycles within which a program bank must be refreshed (09_memory R137). -/
def refreshCycles : Nat := 2048

/-- Entries of a core translation cache and of a tower translation cache (10_translation R148). -/
def coreCache : Nat := 64
def towerCache : Nat := 1536

/-- The `n`-th wall-time length, in Tabor cycles, of an activity whose length the manual does not fix: loading, a handler, an engine
piece, a walk, a resume, a node read (13_ordering R211; 15_tasks R231, R232; 16_faults R246, R255). FREE VALUE.
(DESIGN CHOICE: notes/assumptions/2.md) -/
opaque wallDelay : Nat → Nat

/-- The `n`-th number drawn from the Belfry's entropy source (17_partitions R266; 19_belfry R284, R290). FREE VALUE.
(DESIGN CHOICE: notes/assumptions/4.md) -/
opaque entropy : Nat → Nat

/-- The SLH-DSA-SHAKE-256s check of a signature over a message, under the public key whose SHAKE256 digest is given: digest, message,
signature (19_belfry R282, R290). FREE VALUE. (DESIGN CHOICE: notes/assumptions/3.md) -/
opaque verify : Nat → List Byte → Nat → Bool

/-- The SLH-DSA signature that the attestation key, made from the fused seeds, puts on a report (19_belfry R284). FREE VALUE. -/
opaque sign : Nat → List Byte → Nat

/-- The attestation key's public key for the fused seeds, and the manufacturer's signature over it (19_belfry R284). FREE VALUES. -/
opaque publicKey : Nat → Nat
opaque manufacturerSignature : Nat → Nat

/-- Whether the firmware image read at boot is present (step 2) and, if so, its version, bytes and signature (19_belfry R282). FREE VALUES.
(DESIGN CHOICE: notes/assumptions/4.md) -/
opaque firmware : Nat → Option (Nat × List Byte × Nat)

/-- What the training of a port at package start comes to, for the `n`-th boot: none when the port is left down, else its timed domain (0 for
none) and that domain's latency class (18_fabric_host R272; 19_belfry R282 step 5). FREE VALUE. (DESIGN CHOICE: notes/assumptions/4.md) -/
opaque training : Nat → Nat → Option (Nat × Nat)

/-- The bytes of the boot ROM (19_belfry R283). FREE VALUE. -/
opaque romBytes : List Byte

/-- The kernel's configuration, which M2 measures (19_belfry R283). FREE VALUE. -/
opaque kernelConfig : List Byte

end Config

/-- A privilege mode of a Belfry core (19_belfry R281). -/
inductive Priv where
  | machine
  | supervisor
  | user
deriving DecidableEq, Repr, Inhabited

/-- One of the Belfry's RV64GC cores (01_device R11; 19_belfry R281): its mode, pc, integer and floating-point registers by number, fcsr, and
control registers by number. The manual names the core's architecture and modes alone (PRESUMED: notes/assumptions/121.md). -/
structure BelfryCore where
  mode : Priv
  pc : DWord
  x : List (Nat × DWord)
  f : List (Nat × DWord)
  fcsr : Word
  csrs : List (Nat × DWord)
deriving DecidableEq, Repr, Inhabited

/-- A Belfry core in its boot ROM (19_belfry R282). (DESIGN CHOICE: notes/assumptions/1.md) -/
def BelfryCore.fresh : BelfryCore := ⟨.machine, 0, [], [], 0, []⟩

/-- What a Belfry core, by number, holds after a Tabor cycle in which the kernel runs, and the bytes of the SRAM that the Belfry's cores store in
that cycle, by address: what the firmware has made of them. The first argument is the count of free values drawn, which no two boots of a package
share, the second the Tabor cycle. FREE VALUES. (DESIGN CHOICE: notes/assumptions/4.md) -/
opaque Config.belfryCore : Nat → Nat → Nat → BelfryCore
opaque Config.belfryStores : Nat → Nat → List (Nat × Byte)

/-- The code and data of one core section of a task image (05_assembly R83, R84). -/
structure Section where
  /-- first and last virtual core of the section -/
  first : Nat
  last : Nat
  /-- the section's words, loaded from word 0 (04_encoding R55) -/
  code : List Word
  /-- the entry point, a word address -/
  entry : Nat
  /-- initial FMT (06_numbers R88) -/
  fmt : Word
  /-- scratchpad bytes by byte address, ascending (05_assembly R84) -/
  data : List (Nat × Byte)
deriving DecidableEq, Repr

/-- Timed data: virtual channel, bank, virtual row, byte offset in the row, bytes (05_assembly R83, R84). -/
structure TimedData where
  vch : Nat
  bank : Nat
  row : Nat
  off : Nat
  bytes : List Byte
deriving DecidableEq, Repr

/-- A task image: the attributes of 05_assembly R83 and 15_tasks R226, and its sections. -/
structure Image where
  cores : Nat
  vchannels : Nat
  stage : Nat
  budget : Nat
  watchdog : Nat
  /-- the park deadline of a clampable task -/
  clampable : Option Nat
  snare : Bool
  /-- the latency class a multi-device task declares, 0 for none (02_time R26) -/
  latencyClass : Nat
  sections : List Section
  timed : List TimedData
  /-- the service-bank mask of each vchannel, from vchannel 0 up; a vchannel without an entry has none (09_memory R132).
  (DESIGN CHOICE: notes/assumptions/57.md) -/
  service : List Nat
deriving DecidableEq, Repr

/-- A page of the partition's page tables (09_memory R131, R140; 10_translation R146, R152). -/
structure Machine.Page where
  /-- virtual address of its first byte, divided by 65,536 -/
  va : Nat
  /-- 0, 1, 2: 1, 64, 4,096 units of 65,536 bytes -/
  size : Nat
  tier : Nat
  rp : Bool
  wp : Bool
  resident : Bool
  /-- T0: 65,536 × vchannel + the first physical row; T1, T2, T3: the first byte address behind it, divided by 65,536 -/
  phys : Nat
deriving DecidableEq, Repr

/-! ### Choices of the Belfry and the loader that the manual leaves to their policy (notes/assumptions/5.md). FREE VALUES. -/

/-- The page table that the Belfry builds for a new partition, and its free frames: place and size code (09_memory R140; 10_translation
R152). (DESIGN CHOICE: notes/assumptions/5.md) -/
opaque Config.pageTable : Nat → List Machine.Page
opaque Config.freeFrames : Nat → List (Nat × Nat)

/-- The virtual cores of a partition over several devices that lie on this one (17_partitions R260). -/
opaque Config.localCores : Nat → List Nat

/-- The remote members of a task's barriers, barrier and member number, by node id: the manual says that the task node names them and gives
the node no field for them (14_determinism R219; 15_tasks R227). (DESIGN CHOICE: notes/assumptions/58.md) -/
opaque Config.remoteMembers : Nat → List (Nat × Nat)

/-- The `n`-th choice among equals: which page to evict, a forced stop's distance, and whether the Belfry ends a slice (10_translation R152;
16_faults R249; 17_partitions R264). -/
opaque Config.choose : Nat → Nat

/-- Whether the image store has no room for the `n`-th image: the manual gives it no size (19_belfry R290).
(DESIGN CHOICE: notes/assumptions/5.md) -/
opaque Config.imageStoreFull : Nat → Bool

/-- Whether the `n`-th context read back from the drives is intact (17_partitions R267). -/
opaque Config.driveIntact : Nat → Bool

/-- The fault code of a task that fails because a flag's location lies in a T0 page or an unmapped page (13_ordering R201; 15_tasks R229).
(DESIGN CHOICE: notes/assumptions/55.md) -/
opaque Config.noFaultCode : Nat

/-- Whether the `n`-th mailbox command meets a bus error while its block is read or its response written (19_belfry R289). -/
opaque Config.busError : Nat → Bool

/-- The 2,112 bytes of an attestation report, as a number: the manual names what it holds and not where (19_belfry R284): nonce, device id,
life-cycle state, measurements. -/
opaque Config.report : Nat → Nat → Nat → List Nat → Nat

/-- What the loader and the dispatcher read at an address that no page of this package's memories maps (15_tasks R227, R228).
(DESIGN CHOICE: notes/assumptions/108.md) -/
opaque Config.strayByte : Nat → Byte

/-- What a page that the Belfry takes from another device's memory holds, by draw and byte offset: a T3 page does not name the device
(09_memory R140). FREE VALUE. (DESIGN CHOICE: notes/assumptions/92.md) -/
opaque Config.remoteByte : Nat → Nat → Byte

/-- The byte offset to which CHECK = clamp takes an element when its record's EXTENT is smaller than the element, so that the interval
[0, EXTENT − size] is empty: extent and size (09_memory R144). FREE VALUE. (DESIGN CHOICE: notes/assumptions/56.md) -/
opaque Config.emptyClamp : Nat → Nat → Nat

/-- The image that a host's byte string holds, or none when it is malformed; the manual gives the contents of an image and not its byte
format (15_tasks R226; 19_belfry R290). FREE VALUE. (DESIGN CHOICE: notes/assumptions/57.md) -/
opaque Config.parseImage : List Byte → Option Image

end Sys2Proof
end

