-- ==== Sys2Proof/Machine/State.lean ====
section
/-! DEFINITION. The state of one HT-6400 package as plain data, and its state after reset.
A table that holds few entries of many (a register file, a memory, the cores of a partition) is a list of keys and values with
strictly rising keys; a key that is not listed holds the table's default, which is the value after reset. -/

namespace Sys2Proof.Machine

/-- A table with rising keys and a default for what it does not list. -/
abbrev Table (α : Type) := List (Nat × α)

/-- A byte memory (Host.Cell); an address that is not listed reads zero. -/
abbrev Mem := List Host.Cell

/-! ### Core state -/

/-- A power domain's state; WAKING carries its ready PT and whether its wake began from RETAINED (12_power R183). -/
inductive DState where
  | off
  | waking (ready : Nat) (fromRetained : Bool)
  | on
  | retained
deriving DecidableEq, Repr

/-- A packed operand: image, exponent, field count, bound; a z register or a B-store entry (11_products R156). -/
structure Packed where
  image : Line
  exp : BitVec 16
  count : Nat
  bound : Nat
deriving DecidableEq, Repr

/-- An accumulator: integer, exponent, coefficient bound (06_numbers R97). -/
structure Acc where
  q : BitVec 4224
  qe : BitVec 16
  bq : Nat
deriving DecidableEq, Repr

/-- A handle's STATE (10_translation R146). -/
inductive HState where
  | invalid
  | miss
  | valid
deriving DecidableEq, Repr

/-- A translated page handle (10_translation R146). -/
structure Handle where
  st : HState
  rp : Bool
  wp : Bool
  size : Nat
  tier : Nat
  vch : Nat
  vrow : Nat
  prow : Nat
deriving DecidableEq, Repr

/-- A sticky op register: op word, extension word, and how far its two offsets have stepped (03_core R40, R43; 04_encoding R71).
`adv1` counts lines (or source lines), `adv2` columns, entries or destination lines. -/
structure Sticky where
  word : Word
  ext : Word
  adv1 : Nat
  adv2 : Nat
deriving DecidableEq, Repr

/-- The loop state (08_loops R119): the body's first bundle, the bundle after it, BODY, STAGES, KN, KI, CL, the resume address, the
bundles issued in the current pass. -/
structure Loop where
  start : Int
  after : Int
  body : Nat
  stages : Nat
  kn : Nat
  ki : Nat
  cl : Bool
  res : Int
  done : Nat
deriving DecidableEq, Repr

/-- A clamp record (08_loops R121). -/
structure ClampRec where
  res : Int
  savedKi : DWord
  savedKn : DWord
  ki : Nat
  kn : Nat
deriving DecidableEq, Repr

/-- A core's condition (15_tasks R233, R234; 16_faults R250). -/
inductive Cond where
  | idle
  | running
  | parked
  | ended
deriving DecidableEq, Repr

/-- A register that a result is written to. -/
inductive Dst where
  | s (r : Nat)
  | k (r : Nat)
  | v (r : Nat)
  | w (r : Nat)
  | ia (r : Nat)
  | ib (r : Nat)
  | im (r : Nat)
  | p (r : Nat)
  | x (r : Nat)
  | y (r : Nat)
  | fmt
  | g
  | wa
  | wb
deriving DecidableEq, Repr

/-- A completion-time fault that a result carries: code and detail (16_faults R241). -/
structure Flt where
  code : Nat
  detail : Nat
deriving DecidableEq, Repr

/-- What an op has scheduled for a later cycle (16_faults R244). -/
inductive Eff where
  /-- a register or predicate result -/
  | reg (d : Dst) (val : Nat)
  /-- HINV's result -/
  | handle (h : Nat) (val : Handle)
  /-- XLT's result, with the address that was looked up (10_translation R148, R154) -/
  | xlt (h : Nat) (addr : Nat) (val : Handle)
  /-- a copy into z by XCP (03_core R50) -/
  | zres (z : Nat) (val : Packed)
  /-- MPACK's result or its fault (11_products R161, R162) -/
  | mpack (z : Nat) (val : Packed) (flt : Option Flt)
  /-- MLDB's entry write or its fault (11_products R164) -/
  | mldb (lane entry : Nat) (val : Packed) (flt : Option Flt)
  /-- the later read of MMAC at issue+15, or the product of MMUL (11_products R166) -/
  | mulRead (lane g : Nat) (acc : Bool) (p : Int) (pe : Int) (bp : Nat)
  /-- a multiply's result: the exact integer, exponent and bound still to be checked (11_products R168; 21_ref_e_m R336) -/
  | mulRes (lane g : Nat) (q : Int) (qe : Int) (bq : Nat)
  /-- MCLR's result -/
  | acc (lane : Nat) (val : Acc)
  /-- MNEG's or MSHR's result or its fault (11_products R174) -/
  | accChecked (lane : Nat) (val : Acc) (flt : Option Flt)
  /-- MLDQ's result (11_products R175): the guard width at issue and the lines read so far -/
  | mldq (lane g : Nat)
  /-- a block conversion's result or its format fault (06_numbers R96); `w` tells the w file -/
  | vcvtBlock (isW : Bool) (r : Nat) (val : Nat) (flt : Option Flt)
  /-- a SLEEP's transition (12_power R183) -/
  | dom (d : Nat) (st : DState)
  /-- PHASE: the counter advances (14_determinism R217) -/
  | phase
  /-- TRAP stops the partition (16_faults R248) -/
  | trap (code : Nat)
  /-- a chosen wake starts (12_power R185) -/
  | wakeStart (d : Nat)
  /-- a read in the issue cycle met an uncorrectable error: memory and index (16_faults R241) -/
  | readError (mem index : Nat)
  /-- RSET's later read at issue+1 (22_ref_n_t R347) -/
  | rset (isY : Bool) (r fld val : Nat)
  /-- LDS's bank read (21_ref_e_m R326) -/
  | lds (d addr size : Nat) (nat : Bool)
  /-- VLD's bank read (07_vector R103) -/
  | vld (isW : Bool) (r line : Nat)
  /-- RLD's bank read (22_ref_n_t R345) -/
  | rld (isY : Bool) (r line idx : Nat)
  /-- CPY's read of a line, to be written three cycles later (20_ref_a_d R304) -/
  | cpyRead (src dst : Nat)
  /-- CPYX's read of a line (20_ref_a_d R305) -/
  | cpyxRead (core src dst : Nat)
  /-- FSEND's read of a line that lands on another device (18_fabric_host R276) -/
  | fsendRead (port core src dst land : Nat)
  /-- an FSEND line read and not yet landed: its sender holds it until its landing PT (21_ref_e_m R321) -/
  | sent (port core dst land : Nat) (val : Line)
  /-- DWR's read of its line and the write of the column (20_ref_a_d R313): the column's byte address by virtual channel -/
  | dwrRead (line : Nat) (addr : Nat)
  /-- MPACK's line read -/
  | mpackRead (z line g wa n stride start : Nat) (rev : Bool)
  /-- MLDB's line read -/
  | mldbRead (lane entry line g wb : Nat)
  /-- MLDQ's read of one of its three lines -/
  | mldqRead (lane idx line : Nat)
  /-- an AOP's operand line read; `cmd` is the engine command (20_ref_a_d R298) -/
  | aopRead (cmd line size : Nat)
  /-- an ENQ's phase read of a line (13_ordering R208) -/
  | enqRead (cmd line idx : Nat)
  /-- an ENQ's start check that fails (13_ordering R208): detail 0 too early, 1 phase busy -/
  | enqFault (cmd detail : Nat)
  /-- a whole-line scratchpad write -/
  | storeLine (line : Nat) (val : Line)
  /-- a scratchpad write of some bytes (STS, MCVT, MSTQ lines) -/
  | storeBytes (addr : Nat) (bytes : List Byte)
  /-- a MEXT line write (11_products R172) -/
  | mext (addr : Nat) (bytes : List Byte)
  /-- a MEXT whose i32 range check fails at issue+10 -/
  | mextFault (detail : Nat)
  /-- a DRD landing; `bad` is the row of an uncorrectable array error (20_ref_a_d R311) -/
  | drd (line : Nat) (val : Line) (bad : Option Nat)
  /-- a CPYX line in transit, held by the sender until it lands (16_faults R244) -/
  | transit (core line : Nat) (val : Line)
deriving DecidableEq, Repr

/-- An effect in flight: due cycle, issue PT, slot, bundle address and what is held (16_faults R243, R244). -/
structure Pend where
  due : Nat
  ipt : Nat
  slot : Nat
  baddr : Int
  eff : Eff
deriving DecidableEq, Repr

/-- A local touch that an issued op has reserved: cycle, place (0 to 15 a scratchpad bank, 16 to 19 a B-store slice), line
(09_memory R124, R125, R130). -/
structure Touch where
  cycle : Nat
  place : Nat
  line : Nat
deriving DecidableEq, Repr

/-- The kinds of engine command (13_ordering R206). -/
inductive CmdKind where
  | enq (kind : Nat)
  | fput
  | aop (fn size : Nat)
deriving DecidableEq, Repr

/-- One piece of an engine command: the bytes of one aligned 256-byte line or column of its destination, in element order, as source and
destination byte addresses (09_memory R141; 13_ordering R200); an absent source is a zero-filled element (R144). -/
structure Piece where
  bytes : List (Option Nat × Nat)
deriving DecidableEq, Repr

/-- What an engine command knows of a source byte: its value, or the STATUS of the failure that keeps it from being moved
(13_ordering R201). -/
inductive Got where
  | byte (b : Byte)
  | bad (status : Nat)
deriving DecidableEq, Repr

/-- An engine command in flight (13_ordering R206 to R211). -/
structure Cmd where
  id : Nat
  slot : Nat
  ipt : Nat
  baddr : Int
  kind : CmdKind
  scope : Nat
  acq : Bool
  rel : Bool
  src : Rec
  dst : Rec
  /-- the start PT; 0 when it has none -/
  st : Nat
  /-- the lines a timed read phase still has to read, and the copies it has taken, counted from its lowest line -/
  phase : List Nat
  copies : Table Line
  /-- the operands that AOP has read: a and b -/
  operand : Option (Nat × Nat)
  pieces : List Piece
  /-- STATUS of the lowest failing piece so far, 0 when none failed, its destination address, and the bytes performed (13_ordering R201) -/
  status : Nat
  statusAt : Nat
  bytes : Nat
  /-- result and flag lines of AOP, flag line of FPUT -/
  resl : Nat
  flagl : Nat
  /-- fences issued before it: command count and kind and scope (13_ordering R205) -/
  fences : List (Nat × Nat × Nat)
  /-- Tabor cycle from which it may act again -/
  wake : Nat
  /-- the source bytes read so far, by source address -/
  got : Table Got
  /-- a walk found no page for the address that it needs next -/
  unmapped : Bool
  /-- it waits at a service port -/
  queued : Bool
  /-- AOP's old value, once performed -/
  old : Option Nat
  /-- AOP's result line is written, or must not be -/
  resultDone : Bool
  /-- Tabor cycle since which it finds no live port -/
  since : Option Nat
deriving DecidableEq, Repr

/-- One core (03_core, 12_power R182, 16_faults R254). -/
structure Core where
  cond : Cond
  sregs : Table DWord
  kregs : Table DWord
  vregs : Table Line
  wregs : Table Line
  iaregs : Table (BitVec 20)
  ibregs : Table (BitVec 20)
  imregs : Table (BitVec 20)
  pregs : Table Bool
  xregs : Table Rec
  yregs : Table Rec
  zregs : Table Packed
  qregs : Table Acc
  hregs : Table Handle
  fmt : Word
  g : BitVec 6
  wa : BitVec 4
  wb : BitVec 4
  /-- scratchpad bytes by byte address -/
  scratch : Mem
  /-- B-store entries by 512 × slice + entry -/
  bstore : Table Packed
  /-- instruction store, image limit and entry point (04_encoding R55) -/
  store : Table Word
  limit : Nat
  entry : Nat
  /-- the bundle being issued (its header's address), the bundle after it, its header, issues still to come (03_core R42, R44) -/
  cur : Int
  next : Int
  header : Word
  rep : Nat
  sticky : Table Sticky
  /-- pending transfer: target and delay bundles still to issue (03_core R45) -/
  pending : Option (Int × Nat)
  rstack : List Int
  loop : Option Loop
  clamp : Option ClampRec
  /-- where a parked core restarts (16_faults R250) -/
  parkAt : Int
  /-- the YIELD or END of this cycle takes effect after the bundle (15_tasks R234, 16_faults R250) -/
  leaving : Option Cond
  /-- a debug break was taken at this issue (04_encoding R54) -/
  broke : Bool
  /-- the partition's other devices know that it has ended or parked with nothing pending (15_tasks R235; 16_faults R251) -/
  reported : Bool
  /-- per scratchpad bank, the Tabor cycle from which it takes another untimed access (09_memory R123, R128) -/
  bankUsed : Table Nat
  domains : Table DState
  /-- start, weight and domain of each wake whose window is open or still to come (12_power R185) -/
  wakes : List (Nat × Nat × Nat)
  /-- each lane's last multiply PT and pending notices (11_products R177) -/
  lastMul : Table Nat
  notices : List (Nat × Nat)
  /-- Snare shadow by granule: writer and phase (14_determinism R214) -/
  shadow : Table (Nat × Nat)
  /-- poisoned lines (13_ordering R212) -/
  poison : List Nat
  /-- lines, entries, words and registers whose next read meets an uncorrectable error: memory code and index (16_faults R241) -/
  bad : List (Nat × Nat)
  pend : List Pend
  touches : List Touch
  /-- lines MLDQ has read so far, by (4 × issue PT + lane) × 3 + index -/
  mldqBuf : Table Line
  /-- core translation cache, oldest entry first (10_translation R149) -/
  tlb : List Page
  cmds : List Cmd
  cmdCount : Nat
  /-- fences in force: commands issued before, kind, scope (13_ordering R205) -/
  fences : List (Nat × Nat × Nat)
  /-- LAUNCHes sent and not yet read: commands issued before, queue (a virtual function), node address, due Tabor (15_tasks R231) -/
  launches : List (Nat × Nat × Nat × Nat)
deriving DecidableEq, Repr

/-! ### Partition state -/

/-- What keeps a partition's PT from advancing (02_time R16). A hold and an alignment pause carry the Tabor cycle at which they end. -/
inductive Stop where
  | hold (ends : Nat)
  | fault
  | preempt
  | barrier
  /-- a barrier wait is over: the bundles issue in the Tabor cycle named (14_determinism R221) -/
  | waitOver (ends : Nat)
  | align
  | pause (ends : Nat)
  | rail
  /-- a task that an engine's walk or flag fails is being taken off (10_translation R155; 13_ordering R201) -/
  | fail
deriving DecidableEq, Repr

/-- A DRAM bank's state (09_memory R135). -/
inductive BankState where
  | idle
  | active (row : Nat) (wp : Bool)
  | refreshing (till : Nat)
deriving DecidableEq, Repr

/-- A program bank: its state and the PTs that the timing rules look back to (09_memory R136, R137). -/
structure Bank where
  st : BankState
  act : Option Nat
  pre : Option Nat
  wr : Option Nat
  ref : Option Nat
deriving DecidableEq, Repr

/-- A virtual channel's history: DACTs (PT and bank), last DWR, last DRD, and the last command with its core (09_memory R134, R136). -/
structure Chan where
  acts : List (Nat × Nat)
  wr : Option Nat
  rd : Option Nat
  last : Option (Nat × Nat)
deriving DecidableEq, Repr

/-- A wait at a barrier: core, issue PT, bundle address, timeout in Tabor cycles or 0 (14_determinism R221, R222). -/
structure Wait where
  core : Nat
  ipt : Nat
  baddr : Int
  timeout : Nat
deriving DecidableEq, Repr

/-- A barrier's current generation (14_determinism R219 to R223). Members below 512 are cores, 512 + m is remote member m. -/
structure Barrier where
  arrived : List Nat
  inFlight : List (Nat × Nat)
  waits : List Wait
  /-- the other devices of the partition on which a core waits, each with the PT at which it stands (14_determinism R221) -/
  abroad : Table Nat
  elapsed : Nat
  tokens : List Nat
  /-- how many generations of the task have completed -/
  gen : Nat
deriving DecidableEq, Repr

/-- A task node (15_tasks R227). -/
structure Node where
  id : Nat
  image : Nat
  argAddr : Nat
  argLines : Nat
  deps : List Nat
  done : Nat
deriving DecidableEq, Repr

/-- What an untimed flit carries: bytes to write, or an AOP, at addresses of the receiving device's memory (13_ordering R210, R212). -/
inductive Flit where
  | write (bytes : Mem)
  | aop (addr fn size a b : Nat)
deriving DecidableEq, Repr

/-- What follows once a node's completion word is written (15_tasks R229, R235, R237). -/
inductive After where
  /-- the node was refused at acceptance and never was pending -/
  | refused
  /-- a join node, or a node that an error token cancels -/
  | plain
  /-- an error token: the node was refused at dispatch -/
  | token
  /-- the partition is free: its task has completed -/
  | task
  /-- what follows a failure, with the report of a fault record if the failure has one -/
  | failed (report : Bool)
deriving DecidableEq, Repr

/-- A request at a service port (09_memory R142). -/
inductive T1Req where
  /-- the next column of an engine command of a core -/
  | cmd (core id : Nat)
  /-- another device's flit, to be acknowledged when it is performed (13_ordering R212) -/
  | flit (core dev scope seq : Nat) (f : Flit)
  /-- a node's completion word (15_tasks R229) -/
  | word (n : Node) (status hi : Nat) (after : After)
  /-- the read of the node that a LAUNCH names, for the queue of a partition (15_tasks R231) -/
  | launch (queue addr : Nat)
  /-- the loader's read of a line of the argument block (15_tasks R228) -/
  | arg (line : Nat)
deriving DecidableEq, Repr

/-- The running task (15_tasks R226, R232). -/
structure Task where
  node : Node
  image : Nat
  cores : Nat
  vchannels : Nat
  stage : Nat
  budget : Nat
  watchdog : Nat
  clampable : Option Nat
  snare : Bool
  t0 : Nat
deriving DecidableEq, Repr

/-- Where a logical partition stands (17_partitions R259, R262). -/
inductive Resid where
  | bound (hard : Nat)
  | switchedOut
  | cold
  | pagingOut
  | pagingIn
deriving DecidableEq, Repr

/-- A fault record (16_faults R242). -/
structure FRec where
  code : Nat
  vcore : Nat
  slot : Nat
  cls : Nat
  more : Bool
  baddr : Int
  pt : Nat
  stoppt : Nat
  detail : Nat
deriving DecidableEq, Repr

/-- A pre-emption under way: how it was asked for, and since when it drains (16_faults R249 to R253). -/
structure Preempt where
  /-- the beat boundary B at which CLAMP takes effect, or none for a forced stop -/
  clampAt : Option Nat
  /-- the forced stop PT -/
  forcedAt : Option Nat
  /-- cycles counted since B toward the park deadline -/
  count : Nat
  /-- whether every core had parked or ended at the freeze, with nothing pending -/
  parked : Bool
  /-- Tabor cycle of the freeze -/
  frozen : Option Nat
deriving DecidableEq, Repr

/-- A timed line on its way from another device (18_fabric_host R276, R277). -/
structure InLine where
  land : Nat
  core : Nat
  line : Nat
  val : Line
  port : Nat
  /-- sender: virtual core, slot, bundle address, issue PT -/
  sender : Nat
  sslot : Nat
  sbaddr : Int
  sipt : Nat
  /-- FEC could not correct it -/
  poisoned : Bool
  /-- cycles late if it has not arrived by its landing PT; 0 when it has -/
  late : Nat
deriving DecidableEq, Repr

/-- Which part of a cycle a partition is in. -/
inductive Stage where
  /-- effects due at PT are performed -/
  | due
  /-- PT limits are checked, those from the `n`-th kind on (16_faults R240) -/
  | limits (n : Nat)
  /-- bundles are checked and begin to issue -/
  | issue
  /-- a stopped partition stands before the bundles of its PT (02_time R17) -/
  | stand
  /-- ops still to issue in this cycle: core and slot -/
  | ops (todo : List (Nat × Nat))
  /-- ends of bundles, transfers, loop passes and barriers, for the cores still listed -/
  | wrap (todo : List Nat)
  /-- the cycle is over -/
  | done
deriving DecidableEq, Repr

/-- One logical partition (17_partitions R259). -/
structure Part where
  live : Bool
  tenant : Nat
  cores : Nat
  channels : Nat
  group : Nat
  cls : Nat
  resid : Resid
  pt : Nat
  stage : Stage
  stops : List Stop
  /-- pending hold: beat boundary and length in Tabor cycles (02_time R21, R22) -/
  hold : Option (Nat × Nat)
  /-- length of a hold asked for while a hold runs -/
  holdNext : Option Nat
  /-- the number of the pending hold, which a later request raises on every device, and the number of the last one that the partition's other
  devices have been told (02_time R22, R27) -/
  holdAsked : Nat
  holdTold : Nat
  /-- the Belfry's hold policy: length of its next hold (19_belfry R287) -/
  policy : Nat
  /-- alignment stop named by a stop notice: PT, and the PTs of the other devices that are stopped (02_time R28) -/
  alignAt : Option Nat
  peers : Table Nat
  /-- the PT named by the last alignment flit sent since this device last stopped: another device stands there until this one comes to it
  (02_time R28) -/
  flitTo : Option Nat
  /-- of devices that stand at one PT: the Tabor cycle from which this one is ready to resume with the others, once it has told them, and the
  others that have told that they are (02_time R28) -/
  readyAt : Option Nat
  readies : List Nat
  /-- devices whose notice of a stop at a PT is still on its way though both have resumed from it, in a barrier wait (14_determinism R221) -/
  excused : Table Nat
  /-- Tabor cycle of the last stop notice (14_determinism R221) -/
  noticeAt : Nat
  /-- alignment pauses armed: PT and Tabor cycles; and this device's own losses: PT by which the others have paused, Tabor cycles
  (02_time R30) -/
  pauses : List (Nat × Nat)
  debts : List (Nat × Nat)
  /-- core cycles that the stretch under way has cost so far (02_time R30) -/
  losing : Nat
  /-- of a partition over several devices: how its cores on other devices have ended or parked, as those devices report, with the kI that a
  clamp record saves (15_tasks R235; 16_faults R251), and the other devices with the core count, channel count and class they were created
  with (19_belfry R290) -/
  away : Table Cond
  awayKi : Table DWord
  mates : Table (Nat × Nat × Nat)
  coreTable : Table Nat
  chanTable : Table Nat
  service : Table Nat
  pages : List Page
  /-- free frames: 65,536 × vchannel + first row, and size code -/
  freeFrames : List (Nat × Nat)
  /-- contents of the T0 pages that are not resident, by virtual page; rows and T1 bytes copied out of reassigned channels, by vchannel -/
  outPages : Table Mem
  outChans : Table (Mem × Mem)
  /-- T1 requests by vchannel in the order they arrived, and the Tabor cycle after each port's last window (09_memory R142) -/
  t1Queue : List (Nat × T1Req)
  served : Table Nat
  queue : List Node
  qfrozen : Bool
  task : Option Task
  /-- a node being loaded, and the Tabor cycle at which loading ends (15_tasks R232) -/
  loading : Option (Node × Nat)
  /-- of a partition over several devices: the PT at which this device's loading ended, and those that the other devices have told
  (02_time R25; 15_tasks R232) -/
  loadedAt : Option Nat
  loads : Table Nat
  coreOf : Table Core
  banks : Table Bank
  chans : Table Chan
  barriers : Table Barrier
  /-- remote members of barriers: barrier and member number -/
  remotes : List (Nat × Nat)
  phase : Nat
  /-- PT at which the phase counter last advanced (14_determinism R217) -/
  phasedAt : Option Nat
  leaves : List (Nat × Nat)
  clampOn : Bool
  preempt : Option Preempt
  /-- the partition's other devices know the boundary or stop of this pre-emption (16_faults R249) -/
  preemptTold : Bool
  forceAlways : Bool
  portMask : List Nat
  portLand : Table Nat
  inbound : List InLine
  frec : FRec
  /-- Tabor cycle at which the handler of the present stop finishes -/
  handlerAt : Option Nat
  /-- a failing task: the code to report and the Tabor cycle since which its commands drain (15_tasks R237) -/
  failing : Option (Nat × Nat)
  /-- command 1 is to be carried out when the handler releases the partition (17_partitions R268) -/
  endAfter : Bool
  /-- a queue write came while the context was being paged out (17_partitions R268) -/
  wantRestore : Bool
  /-- Tabor cycle at which the Belfry resumes the switched-out partition -/
  resumeAt : Option Nat
  pcmd : Nat
  parg : Nat
  pres : Nat
  meter : Nat
  meterHold : Option Nat
  meterSat : Bool
  facc : Table Word
  factOk : Bool
  features : Nat
  featuresNext : Option Nat
  debug : Bool
  breakMask : DWord
  digest : Option Nat
  /-- the paged context failed its integrity check and is never resumed (17_partitions R267) -/
  corrupt : Bool
  /-- the T1 page that holds the Belfry's copies of nodes submitted through QSUB, and how many it has copied (18_fabric_host R279) -/
  nodePage : Mem
  nodeCount : Nat
deriving DecidableEq, Repr

/-! ### Package state -/

/-- A tenant: key number, queue table (17_partitions R266; 21_ref_e_m R325). -/
structure Tenant where
  key : Nat
  queues : Table Nat
deriving DecidableEq, Repr

/-- A port (18_fabric_host R272). -/
structure Port where
  up : Bool
  dom : Nat
  cls : Nat
deriving DecidableEq, Repr

/-- A flit sent and not yet acknowledged: its number in the stream, the command it belongs to. -/
structure Sent where
  seq : Nat
  cmd : Nat
  /-- the lowest destination address of what it carries -/
  addr : Nat
  flit : Flit
deriving DecidableEq, Repr

/-- An untimed stream, by source core (a physical core number), other device and scope. One of this device: next number to send, flits not
yet acknowledged, port, and the partition and virtual core that use it; one of another device: next number expected (13_ordering R212;
18_fabric_host R278). -/
structure Stream where
  core : Nat
  vf : Nat
  own : Nat
  dev : Nat
  scope : Nat
  incoming : Bool
  seq : Nat
  unacked : List Sent
  port : Nat
deriving DecidableEq, Repr

/-- A physical function's mailbox registers (19_belfry R288). -/
structure Mailbox where
  addr : Nat
  go : Bool
  status : Nat
deriving DecidableEq, Repr

/-- What the package sends outside. -/
inductive Out where
  | msixVf (vf : Nat)
  | msixPf (pf vector : Nat)
  | stopNotice (vf pt : Nat)
  | stretchNotice (vf lost : Nat)
  /-- a hold armed for a beat boundary, with its number and its length in Tabor cycles, for the partition's other devices (02_time R27) -/
  | hold (vf start asked len : Nat)
  /-- CLAMP or a forced stop is to come at a PT, for the partition's other devices (16_faults R249) -/
  | preempt (vf : Nat) (clampAt forcedAt : Option Nat)
  /-- loading has ended at a PT, for the partition's other devices (02_time R25; 15_tasks R232) -/
  | loaded (vf pt : Nat)
  | alignFlit (vf pt : Nat)
  /-- this device stands at the lowest PT and can resume, for the partition's other devices (02_time R28) -/
  | ready (vf : Nat)
  /-- one of the four 64-byte flits of a timed line (18_fabric_host R271, R276) -/
  | timedFlit (vf port core line land quarter : Nat) (val : Nat)
  /-- a core of this device has ended or parked, with nothing pending, and the kI that its clamp record saves (16_faults R251) -/
  | coreReport (vf core : Nat) (cond : Cond) (ki : Option DWord)
  /-- lanes that a core of this device announces in a LEAVE, for the partition's other devices (11_products R178) -/
  | leave (vf core pt lanes : Nat)
  | untimed (core dev scope seq port : Nat) (flit : Flit)
  /-- the acknowledgement of another device's flit, with an AOP's old value -/
  | ack (core dev scope seq old : Nat)
  | arrival (vf bar core : Nat)
  /-- a core waits, in a generation of the barrier, and the PT at which its device stands, for the partition's other devices
  (14_determinism R221) -/
  | barrierWait (vf bar core gen pt : Nat)
  | token (vf bar : Nat) (withdrawn : Bool)
  /-- what a host read of a register returns: function (128 and 129 are the physical ones) and value -/
  | mmioRead (fn : Nat) (val : Nat)
  | fatal (code : Nat)
deriving DecidableEq, Repr

/-- What arrives from outside: an event of the table, or a host or fabric action that only moves data. (DESIGN CHOICE: notes/assumptions/80.md) -/
inductive Input where
  | event (i : Instr)
  /-- the host writes bytes of its own memory -/
  | hostStore (addr : Nat) (bytes : List Byte)
  /-- the driver writes 1 to MBCTL.GO (19_belfry R289) -/
  | goWrite (pf : Nat)
  /-- a timed line another device has sent to a partition (18_fabric_host R276) -/
  | timedLine (vf : Nat) (l : InLine)
  /-- the payload of an untimed flit that will be received (13_ordering R212) -/
  | flit (f : Flit)
  /-- another device acknowledges every untimed flit of a stream up to a number -/
  | ack (core dev scope seq : Nat)
  /-- another device changes bytes of its own memory -/
  | remoteStore (dev addr : Nat) (bytes : List Byte)
  /-- an uncorrectable error arises in a memory of a core: memory code and index (16_faults R241), or in a row of DRAM -/
  | upset (vf core mem index : Nat)
  | dramUpset (row : Nat)
  /-- another device has armed a hold: beat boundary, number and length (02_time R27) -/
  | holdArmed (vf start asked len : Nat)
  /-- another device is to pre-empt the partition's task (16_faults R249) -/
  | preemptArmed (vf : Nat) (clampAt forcedAt : Option Nat)
  /-- loading has ended on another device (02_time R25; 15_tasks R232) -/
  | loaded (vf dev pt : Nat)
  /-- a core of another device waits at a barrier, and that device stands at a PT; the news does not come after the core's arrival, nor after
  the completion of the barrier (14_determinism R221) -/
  | barrierWait (vf dev bar core gen pt : Nat)
  /-- another device reports a core that has ended or parked, with nothing pending (15_tasks R235; 16_faults R251) -/
  | coreReport (vf core : Nat) (cond : Cond) (ki : Option DWord)
  /-- a core of another device announces lanes in a LEAVE (11_products R178) -/
  | leave (vf core pt lanes : Nat)
  /-- another device stands at the lowest PT and can resume; the message takes exactly D Tabor cycles, as an alignment flit does (02_time R28) -/
  | ready (vf dev : Nat)
  /-- another device of the partition's group, with the core count, channel count and class it was created with (19_belfry R290) -/
  | groupPeer (vf dev n c cls : Nat)
  /-- what the sensors read from now on: hottest junction in °C, package power in W (19_belfry R287) -/
  | sensors (temp power : Nat)
  /-- a plane of the fabric reaches a device, or no longer does (18_fabric_host R278) -/
  | plane (dev port : Nat) (up : Bool)
  /-- the Belfry moves a page to another place, of the same tier or another (09_memory R140; 10_translation R153): a first byte address
  divided by 65,536 -/
  | pagePlace (vf page tier phys : Nat)
  /-- the host reads a register (17_partitions R262; 18_fabric_host R279; 19_belfry R288) -/
  | mmioRead (fn off : Nat)
deriving DecidableEq, Repr

/-- What the package is serving. -/
structure Cursor where
  /-- the partition being served in this Tabor cycle -/
  vf : Nat
  /-- the core and slot whose op is issuing -/
  core : Nat
  slot : Nat
  /-- partitions still to be served in this Tabor cycle -/
  todo : List Nat
deriving DecidableEq, Repr

/-- The package. -/
structure State where
  powered : Bool
  /-- a package reset has begun, and its boot steps have not run (19_belfry R282) -/
  booting : Bool
  fatal : Nat
  /-- reference cycles since package reset; what is added to them to read the Tabor, modulo 2^64; timed domains whose Tabor is adopted
  (02_time R14, R15) -/
  tabor : Nat
  skew : Nat
  adopted : List Nat
  /-- The model's own fields: where inside a cycle it stands, how many free values it has drawn, what the outside will do and in which
  Tabor cycle, and what the package has sent (DESIGN CHOICE: notes/assumptions/11.md) -/
  cursor : Cursor
  oracle : Nat
  inbox : List (Nat × Input)
  outbox : List Out
  parts : Table Part
  images : Table Image
  imageTenant : Table Nat
  tenants : Table Tenant
  dram : Mem
  dramBad : List Nat
  t1 : Mem
  host : Mem
  remote : Mem
  chanTenant : Table Nat
  towerTlb : Table (List (Nat × Page))
  streams : List Stream
  flits : List Flit
  ports : Table Port
  bstat : Nat
  lcs : Nat
  lcsErr : Bool
  pcap : Nat
  mail : Table Mailbox
  mailQueue : List Nat
  nonce : Option Nat
  meas : Table Nat
  seeds : Option Nat
  minVersion : Nat
  deviceId : Nat
  /-- fused SHAKE256 digests of the firmware key and of the manufacturer's life-cycle key (19_belfry R282, R290) -/
  fwKey : Nat
  lcKey : Nat
  /-- the Belfry: its locked SRAM, beyond the keys, digests and measurements that stand above, and its cores (19_belfry R281) -/
  sram : Mem
  belfry : List BelfryCore
  /-- devices that a plane of the fabric does not reach: device and plane (18_fabric_host R278) -/
  unreached : List (Nat × Nat)
  /-- what the sensors read, and the Tabor cycle of the next sample (19_belfry R287) -/
  temp : Nat
  power : Nat
  sampleAt : Nat
  holdLevel : Nat
  hotBelow : Nat
  calm : Nat
  stretchUntil : Nat
  lastDroop : Option Nat
deriving DecidableEq, Repr

/-! ### Why a step stops -/

/-- What stops the machine. Every fault of the part itself is a next state with a fault record (16_faults R242), not one of these. -/
inductive Fault where
  /-- raised by step of a package that has lost power (19_belfry R286): it does nothing until a package reset; safe -/
  | noPower
deriving DecidableEq, Repr

/-- Why a step is refused. -/
inductive Refusal where
  /-- raised by an arm of exec whose instruction has no meaning yet; safe -/
  | notModelled (mnemonic : String)
deriving DecidableEq, Repr

/-! ### Reset values -/

/-- An operand of zero data (11_products R156). -/
def Packed.zero : Packed := ⟨0, 0, 0, 0⟩

/-- An empty accumulator (11_products R156, R166). -/
def Acc.zero : Acc := ⟨0, 0, 0⟩

/-- An INVALID handle (10_translation R146). -/
def Handle.invalid : Handle := ⟨.invalid, false, false, 0, 0, 0, 0, 0⟩

/-- A sticky register that holds NOP (03_core R36). -/
def Sticky.nop : Sticky := ⟨0, 0, 0, 0⟩

/-- An IDLE bank with no history (09_memory R137). -/
def Bank.fresh : Bank := ⟨.idle, none, none, none, none⟩

/-- A channel with no history. -/
def Chan.fresh : Chan := ⟨[], none, none, none⟩

/-- A barrier with an empty generation (14_determinism R219). -/
def Barrier.fresh : Barrier := ⟨[], [], [], [], 0, [], 0⟩

/-- The record of a partition that has had no fault (16_faults R242). -/
def FRec.none : FRec := ⟨0, 0, 0, 0, false, 0, 0, 0, 0⟩

/-- An untrained port (18_fabric_host R272). -/
def Port.fresh : Port := ⟨false, 0, 0⟩

/-- A mailbox after reset (19_belfry R288). -/
def Mailbox.fresh : Mailbox := ⟨0, false, 0⟩

/-- A core that runs nothing: every register zero, every domain OFF, G 6 (03_core R36; 12_power R183). (DESIGN CHOICE: notes/assumptions/1.md) -/
def Core.fresh : Core :=
  { cond := .idle, sregs := [], kregs := [], vregs := [], wregs := [], iaregs := [], ibregs := [], imregs := [], pregs := []
    xregs := [], yregs := [], zregs := [], qregs := [], hregs := [], fmt := 0, g := 6, wa := 0, wb := 0
    scratch := [], bstore := [], store := [], limit := 0, entry := 0, cur := 0, next := 0, header := 0, rep := 0
    sticky := [], pending := none, rstack := [], loop := none, clamp := none, parkAt := 0, leaving := none, broke := false
    reported := false, bankUsed := []
    domains := [], wakes := [], lastMul := [], notices := [], shadow := [], poison := [], bad := [], pend := [], touches := []
    mldqBuf := [], tlb := [], cmds := [], cmdCount := 0, fences := [], launches := [] }

/-- A partition that does not exist; creation sets what 19_belfry R290 names (17_partitions R262). (DESIGN CHOICE: notes/assumptions/1.md) -/
def Part.fresh : Part :=
  { live := false, tenant := 0, cores := 0, channels := 0, group := 0, cls := 0, resid := .switchedOut, pt := 0, stage := .due
    stops := [], hold := none, holdNext := none, holdAsked := 0, holdTold := 0, policy := 0, alignAt := none, peers := [], flitTo := none
    readyAt := none, readies := [], excused := [], noticeAt := 0, pauses := []
    debts := [], losing := 0, away := [], awayKi := [], mates := []
    coreTable := [], chanTable := [], service := [], pages := [], freeFrames := [], outPages := [], outChans := []
    t1Queue := [], served := [], queue := [], qfrozen := false, task := none
    loading := none, loadedAt := none, loads := [], coreOf := [], banks := [], chans := [], barriers := [], remotes := [], phase := 0, phasedAt := none
    leaves := []
    clampOn := false, preempt := none, preemptTold := false, forceAlways := false, portMask := [], portLand := [], inbound := []
    frec := FRec.none, handlerAt := none, failing := none, endAfter := false, wantRestore := false, resumeAt := none, pcmd := 0, parg := 0, pres := 1, meter := 0, meterHold := none
    meterSat := false, facc := [], factOk := false, features := 0, featuresNext := none, debug := false
    breakMask := 0, digest := none, corrupt := false, nodePage := [], nodeCount := 0 }

/-- The package right after reset (19_belfry R282, R286): everything wiped, the clocks at zero, nothing created.
(DESIGN CHOICE: notes/assumptions/1.md, 7.md, 12.md) -/
def State.reset : State :=
  { powered := true, booting := true, fatal := 0, tabor := 0, skew := 0, adopted := [], cursor := ⟨0, 0, 0, []⟩, oracle := 0, inbox := [], outbox := [], parts := []
    images := [], imageTenant := [], tenants := [], dram := [], dramBad := [], t1 := [], host := [], remote := []
    chanTenant := [], towerTlb := [], streams := [], flits := [], ports := [], bstat := 0, lcs := 0, lcsErr := false
    pcap := 3000, mail := [], mailQueue := [], nonce := none, meas := [], seeds := none, minVersion := 0, deviceId := 0
    fwKey := 0, lcKey := 0, sram := [], belfry := List.replicate 8 BelfryCore.fresh, unreached := [], temp := 0, power := 0, sampleAt := 65536
    holdLevel := 0, hotBelow := 0, calm := 0, stretchUntil := 0, lastDroop := none }

end Sys2Proof.Machine
end

