-- ==== Sys2Proof/Machine/Ops.lean ====
section
/-! DEFINITION. The named operations over tables, memories, registers and partitions, and the two shared operations of a stop: taking a
fault (`raise`) and the release (`release`). -/

namespace Sys2Proof.Machine

/-! ### Tables -/

/-- The value of a key; the default where the key is not listed. -/
def tget {α : Type} (d : α) : Table α → Nat → α
  | [], _ => d
  | (k, a) :: r, i => if k = i then a else tget d r i

/-- The value of a key, if it is listed. -/
def tfind {α : Type} : Table α → Nat → Option α
  | [], _ => none
  | (k, a) :: r, i => if k = i then some a else tfind r i

/-- The table with a key set; rising keys stay rising. -/
def tput {α : Type} : Table α → Nat → α → Table α
  | [], i, a => [(i, a)]
  | (k, b) :: r, i, a =>
    if i = k then (i, a) :: r
    else if i < k then (i, a) :: (k, b) :: r
    else (k, b) :: tput r i a

/-- The table without a key. -/
def tdel {α : Type} (t : Table α) (i : Nat) : Table α := t.filter fun e => decide (e.1 ≠ i)

/-- The table with an entry changed by `f`. -/
def tmod {α : Type} (d : α) (t : Table α) (i : Nat) (f : α → α) : Table α := tput t i (f (tget d t i))

/-- The keys of a table. -/
def keys {α : Type} (t : Table α) : List Nat := t.map fun e => e.1

/-! ### Byte memories -/

/-- The byte at an address; an address that is not listed reads zero (19_belfry R286). (DESIGN CHOICE: notes/assumptions/7.md) -/
def memGet : Mem → Nat → Byte
  | [], _ => 0
  | (k, b) :: r, a => if k = a then b else memGet r a

/-- The cells that a byte string makes from an address on: a zero byte makes none. (DESIGN CHOICE: notes/assumptions/7.md) -/
def cells : Nat → List Byte → Mem
  | _, [] => []
  | a, b :: bs => if b = 0 then cells (a + 1) bs else (a, b) :: cells (a + 1) bs

/-- The memory with a byte string written at an address. -/
def memWrite (m : Mem) (a : Nat) (bs : List Byte) : Mem :=
  m.filter (fun c => decide (c.1 < a)) ++ cells a bs ++ m.filter (fun c => decide (a + bs.length ≤ c.1))

/-- The `n` bytes from an address on. -/
def memRead (m : Mem) (a n : Nat) : List Byte :=
  let w := m.filter fun c => decide (a ≤ c.1 ∧ c.1 < a + n)
  (List.range n).map fun i => memGet w (a + i)

/-- The natural number that bytes hold, least significant byte first (00_scope R3). -/
def leNat : List Byte → Nat
  | [] => 0
  | b :: bs => b.toNat + 256 * leNat bs

/-- The low `n` bytes of a number, least significant byte first (00_scope R3). -/
def leBytes : Nat → Nat → List Byte
  | 0, _ => []
  | n + 1, v => BitVec.ofNat 8 v :: leBytes n (v / 256)

/-- The canonical form of a memory: addresses strictly rising, no listed byte zero. -/
def Memory.wf : Mem → Bool
  | [] => true
  | [(_, b)] => decide (b ≠ 0)
  | (k, b) :: (k', b') :: r => decide (b ≠ 0 ∧ k < k') && Memory.wf ((k', b') :: r)

/-! ### Integers in bits -/

/-- A number read as `w`-bit two's complement (00_scope R3). -/
def signed (w v : Nat) : Int := if v % 2 ^ w < 2 ^ (w - 1) then (v % 2 ^ w : Nat) else (v % 2 ^ w : Nat) - (2 ^ w : Nat)

/-- An integer modulo `n`, as a natural number. -/
def imod (x : Int) (n : Nat) : Nat := (x % (n : Int)).toNat

/-- The number of 1 bits among the low `w` bits. -/
def popcount : Nat → Nat → Nat
  | 0, _ => 0
  | w + 1, v => v % 2 + popcount w (v / 2)

/-! ### Partitions and cores -/

/-- A partition by virtual function (17_partitions R259). -/
def State.part (s : State) (vf : Nat) : Part := tget Part.fresh s.parts vf

def State.setPart (s : State) (vf : Nat) (p : Part) : State := { s with parts := tput s.parts vf p }

def State.onPart (s : State) (vf : Nat) (f : Part → Part) : State := s.setPart vf (f (s.part vf))

/-- A core of a partition by virtual core index. -/
def Part.core (p : Part) (c : Nat) : Core := tget Core.fresh p.coreOf c

def Part.setCore (p : Part) (c : Nat) (k : Core) : Part := { p with coreOf := tput p.coreOf c k }

def Part.onCore (p : Part) (c : Nat) (f : Core → Core) : Part := p.setCore c (f (p.core c))

def State.core (s : State) (vf c : Nat) : Core := (s.part vf).core c

def State.onCore (s : State) (vf c : Nat) (f : Core → Core) : State := s.onPart vf fun p => p.onCore c f

/-- The partition, the core and the sticky op that the cursor names. -/
def State.here (s : State) : Part := s.part s.cursor.vf

def State.hereCore (s : State) : Core := s.here.core s.cursor.core

/-- The core that the cursor names, changed. -/
def State.onHere (s : State) (f : Core → Core) : State := s.onCore s.cursor.vf s.cursor.core f

/-- A partition that PT cycles run on: it exists and is bound (17_partitions R259, R262). -/
def Part.isBound (p : Part) : Bool :=
  p.live && (match p.resid with
    | .bound _ => true
    | _ => false)

/-- Cores of the running task: k13; none without a task (15_tasks R233). -/
def Part.taskCores (p : Part) : Nat := (p.task.map fun t => t.cores).getD 0

/-- Vchannels of the running task. -/
def Part.vchannels (p : Part) : Nat := (p.task.map fun t => t.vchannels).getD 0

/-- T0 of the running task (02_time R19). -/
def Part.t0 (p : Part) : Nat := (p.task.map fun t => t.t0).getD 0

/-- Snare is enabled by the task (14_determinism R214). -/
def Part.snare (p : Part) : Bool := (p.task.map fun t => t.snare).getD false

/-- A partition that spans devices: its latency class is not 0 (02_time R26; 19_belfry R290). -/
def Part.multi (p : Part) : Bool := decide (p.cls ≠ 0)

/-- A virtual core lies on this device: the core table of a partition that spans devices names those that do (17_partitions R260).
(DEDUCED: notes/assumptions/47.md) -/
def Part.isLocal (p : Part) (v : Nat) : Bool := !p.multi || (tfind p.coreTable v).isSome

/-- The running task's cores on this device. (DEDUCED: notes/assumptions/47.md) -/
def Part.members (p : Part) : List Nat := (List.range p.taskCores).filter p.isLocal

/-- The cores that issue: neither ended, parked nor idle. (DEDUCED: notes/assumptions/75.md) -/
def Part.running (p : Part) : List Nat := p.members.filter fun c => decide ((p.core c).cond = .running)

/-- The condition of a virtual core: what it is on this device, or what its own device has reported of it (02_time R25). -/
def Part.condOf (p : Part) (v : Nat) : Cond := if p.isLocal v then (p.core v).cond else tget .running p.away v

/-- Every other device of the partition has told that it is stopped (02_time R28). -/
def Part.matesStopped (p : Part) : Bool := p.mates.all fun m => (tfind p.peers m.1).isSome

/-- The partition has other devices, and all of them are stopped, as their stop notices say (02_time R28; 14_determinism R221).
(DEDUCED: notes/assumptions/38.md) -/
def Part.othersStopped (p : Part) : Bool := !p.mates.isEmpty && p.matesStopped

/-- The hold-propagation delay D of a latency class code (02_time R26). -/
def Part.delay (p : Part) : Nat :=
  match p.cls with
  | 0 => 64
  | 1 => 600
  | 2 => 1800
  | _ => 6000

/-- The smallest beat boundary at or after a PT (00_scope R5; 02_time R19, R21). -/
def nextBeat (pt : Nat) : Nat := (pt + (Config.beat - 1)) / Config.beat * Config.beat

/-! ### Registers (03_core R36) -/

/-- s0 reads zero. -/
def Core.s (c : Core) (r : Nat) : DWord := if r = 0 then 0 else tget 0 c.sregs r
def Core.k (c : Core) (r : Nat) : DWord := tget 0 c.kregs r
def Core.v (c : Core) (r : Nat) : Line := tget 0 c.vregs r
def Core.w (c : Core) (r : Nat) : Line := tget 0 c.wregs r
def Core.ia (c : Core) (r : Nat) : Nat := (tget 0 c.iaregs r).toNat
def Core.ib (c : Core) (r : Nat) : Nat := (tget 0 c.ibregs r).toNat
def Core.im (c : Core) (r : Nat) : Nat := (tget 0 c.imregs r).toNat
/-- p0 reads 1. -/
def Core.p (c : Core) (r : Nat) : Bool := r == 0 || tget false c.pregs r
def Core.x (c : Core) (r : Nat) : Rec := tget 0 c.xregs r
def Core.y (c : Core) (r : Nat) : Rec := tget 0 c.yregs r
def Core.z (c : Core) (r : Nat) : Packed := tget Packed.zero c.zregs r
def Core.q (c : Core) (r : Nat) : Acc := tget Acc.zero c.qregs r
def Core.h (c : Core) (r : Nat) : Handle := tget Handle.invalid c.hregs r
def Core.dom (c : Core) (d : Nat) : DState := tget .off c.domains d
def Core.slot (c : Core) (sl : Nat) : Sticky := tget Sticky.nop c.sticky sl
def Core.entryOf (c : Core) (lane e : Nat) : Packed := tget Packed.zero c.bstore (512 * lane + e)

/-- The record file of a slot: x in CA, y in CB (04_encoding R68). -/
def Core.record (c : Core) (sl r : Nat) : Rec := if sl = 6 then c.y r else c.x r

/-- The effective condition p[PRED] XOR PN (03_core R39). -/
def Core.holds (c : Core) (g : Guard) : Bool := xor (c.p g.pred) (decide (g.pn % 2 = 1))

/-- The domain keeps a result that lands now: not OFF, and not WAKING from OFF (12_power R185, R187). -/
def DState.keeps : DState → Bool
  | .off => false
  | .waking _ fr => fr
  | .on => true
  | .retained => true

/-- The domain is ready in a cycle: ON, or WAKING and the cycle at or after the ready PT (12_power R186). -/
def DState.readyAt (d : DState) (cycle : Nat) : Bool :=
  match d with
  | .on => true
  | .waking r _ => decide (r ≤ cycle)
  | _ => false

/-- WSTAT's STATE code (12_power R189). -/
def DState.code : DState → Nat
  | .off => 0
  | .waking _ _ => 1
  | .on => 2
  | .retained => 3

/-- The ready PT bits 55:0 when WAKING, zero otherwise (12_power R189). -/
def DState.readyBits : DState → Nat
  | .waking r _ => r % 2 ^ 56
  | _ => 0

/-- The domain that holds a destination register; none for an always-on file (12_power R182). -/
def Dst.domain : Dst → Option Nat
  | .v _ => some 0
  | .w _ => some 1
  | .x _ => some 6
  | .y _ => some 7
  | _ => none

/-- The write of a register, whatever its domain: s0, p0 and k12 to k15 take no write (03_core R36). -/
def Core.put (c : Core) (d : Dst) (n : Nat) : Core :=
  match d with
  | .s r => if r = 0 then c else { c with sregs := tput c.sregs r (BitVec.ofNat 64 n) }
  | .k r => if r < 12 then { c with kregs := tput c.kregs r (BitVec.ofNat 64 n) } else c
  | .v r => { c with vregs := tput c.vregs r (BitVec.ofNat 2048 n) }
  | .w r => { c with wregs := tput c.wregs r (BitVec.ofNat 2048 n) }
  | .ia r => { c with iaregs := tput c.iaregs r (BitVec.ofNat 20 n) }
  | .ib r => { c with ibregs := tput c.ibregs r (BitVec.ofNat 20 n) }
  | .im r => { c with imregs := tput c.imregs r (BitVec.ofNat 20 n) }
  | .p r => if r = 0 then c else { c with pregs := tput c.pregs r (decide (n % 2 = 1)) }
  | .x r => { c with xregs := tput c.xregs r (BitVec.ofNat 256 n) }
  | .y r => { c with yregs := tput c.yregs r (BitVec.ofNat 256 n) }
  | .fmt => { c with fmt := BitVec.ofNat 32 n }
  | .g => { c with g := BitVec.ofNat 6 n }
  | .wa => { c with wa := BitVec.ofNat 4 n }
  | .wb => { c with wb := BitVec.ofNat 4 n }

/-- The write of a result at its due cycle: lost if its domain does not keep it (12_power R185, R187). -/
def Core.land (c : Core) (d : Dst) (n : Nat) : Core :=
  match d.domain with
  | none => c.put d n
  | some dom => if (c.dom dom).keeps then c.put d n else c

/-! ### The scratchpad (09_memory R123) -/

/-- Bank of a line. -/
def bankOf (line : Nat) : Nat := line % 4096 / 256

/-- Power domain of a line's bank (12_power R182). -/
def bankDom (line : Nat) : Nat := 8 + bankOf line

/-- The 2,048 bits of a line. -/
def Core.line (c : Core) (l : Nat) : Nat := leNat (memRead c.scratch (256 * (l % 4096)) 256)

/-- Bytes written at a scratchpad address inside one line; lost if the bank does not keep them (12_power R187). -/
def Core.storeAt (c : Core) (addr : Nat) (bs : List Byte) : Core :=
  if (c.dom (8 + addr % 2 ^ 20 / 65536)).keeps then { c with scratch := memWrite c.scratch (addr % 2 ^ 20) bs } else c

/-! ### Scheduling -/

/-- An effect put in flight (16_faults R244). -/
def Core.sched (c : Core) (e : Pend) : Core := { c with pend := c.pend ++ [e] }

/-- The effects of an issue at `ipt` from a slot, put in flight: latency and effect of each. -/
def Core.issue (c : Core) (ipt slot : Nat) (es : List (Nat × Eff)) : Core :=
  { c with pend := c.pend ++ es.map fun e => ⟨ipt + e.1, ipt, slot, c.cur, e.2⟩ }

/-- Local touches reserved by an issued op (09_memory R125). -/
def Core.reserve (c : Core) (ts : List Touch) : Core := { c with touches := c.touches ++ ts }

/-! ### Faults (16_faults R238 to R246) -/

/-- The rank of a fault class among the faults of one stop: completion-time, deadline, issue-time, after issue (16_faults R240). -/
def classRank (cls : Nat) : Nat :=
  match cls with
  | 1 => 0
  | 2 => 1
  | 0 => 2
  | _ => 3

/-- The place of a fault among the faults of one stop (16_faults R240). -/
def FRec.order (f : FRec) : List Nat :=
  if f.cls = 2 then
    match f.code with
    | 0x52 => [1, 0, f.vcore]
    | 0x33 => [1, 1, f.detail % 128, f.detail / 128]
    | 0x51 => [1, 2, f.detail % 16]
    | _ => [1, 3]
  else [classRank f.cls, f.vcore, f.slot, f.pt]

/-- Lexicographic order. -/
def lexLt : List Nat → List Nat → Bool
  | _, [] => false
  | [], _ :: _ => true
  | a :: as, b :: bs => decide (a < b) || (decide (a = b) && lexLt as bs)

/-- Of two faults of one stop, the one reported, with MORE set (16_faults R240). (DEDUCED: notes/assumptions/35.md) -/
def FRec.merge (old new : FRec) : FRec :=
  if lexLt new.order old.order then { new with more := true } else { old with more := true }

/-- The length of a wall-time activity that starts now, and the state after it was drawn. (DESIGN CHOICE: notes/assumptions/2.md) -/
def State.drawDelay (s : State) : Nat × State := (1 + Config.wallDelay s.oracle, { s with oracle := s.oracle + 1 })

/-- The Tabor as it is read (02_time R14, R15). (DESIGN CHOICE: notes/assumptions/9.md) -/
def State.reading (s : State) : Nat := (s.tabor + s.skew) % 2 ^ 64

/-- The package is in machine-mode panic: no handler runs and nothing is dispatched, pre-empted or held (16_faults R247).
(DESIGN CHOICE: notes/assumptions/65.md) -/
def State.panicked (s : State) : Bool := decide (s.fatal / 2 % 2 = 1)

/-- A fatal rail error: every partition is frozen with its state until a package reset (01_device R12). (DEDUCED: notes/assumptions/82.md) -/
def State.railed (s : State) : Bool := decide (s.fatal % 2 = 1)

/-- The Belfry serves nothing any more: after a fatal rail error or a panic only a package reset goes on (01_device R12; 16_faults R247).
(DESIGN CHOICE: notes/assumptions/65.md) -/
def State.belfryDown (s : State) : Bool := decide (s.fatal ≠ 0)

/-- What the package sends outside. -/
def State.emit (s : State) (o : Out) : State := { s with outbox := s.outbox ++ [o] }

/-- A fatal error reported to the host: through every function, and by vector 2 of both physical functions (16_faults R247; 19_belfry
R289). -/
def State.reportFatal (s : State) (code : Nat) : State := ((s.emit (.fatal code)).emit (.msixPf 0 2)).emit (.msixPf 1 2)

/-- A stop of a partition that is not a hold is announced to its other devices; the device that has stopped stays at its own PT, so an
alignment stop asked of it before is void, and so is what it had sent flits for, and what it and the others had agreed on at this PT
(02_time R28). -/
def State.announce (s : State) (vf : Nat) : State :=
  if (s.part vf).multi then
    (s.onPart vf fun p => { p with alignAt := none, flitTo := none, readyAt := none, readies := [] }).emit (.stopNotice vf (s.part vf).pt)
  else s

/-- A stop added to those in force. -/
def Part.stopBy (p : Part) (st : Stop) : Part := { p with stops := p.stops ++ [st] }

/-- A feature is in force (18_fabric_host R280). (DEDUCED: notes/assumptions/51.md) -/
def Part.feature (p : Part) (b : Nat) : Bool := decide (p.features / 2 ^ b % 2 = 1)

/-- Debug breaks are enabled: feature 5 is in force and the debugger has enabled them (19_belfry R291). -/
def Part.breaks (p : Part) : Bool := p.debug && p.feature 5

/-- The virtual function's MSI-X vector fires for a completion word (feature 1), or for a fault record (features 1 and 2)
(18_fabric_host R279, R280). (DEDUCED: notes/assumptions/51.md) -/
def State.notify (s : State) (vf : Nat) (record : Bool) : State :=
  if (s.part vf).feature 1 && (!record || (s.part vf).feature 2) then s.emit (.msixVf vf) else s

/-- The stop in force is that of a fault at this PT whose handler has not run: a further fault joins its record (16_faults R240). -/
def Part.recording (p : Part) (f : FRec) : Bool :=
  p.stops.contains .fault && decide (p.frec.stoppt = f.stoppt)

/-- TAKING A FAULT (16_faults R240, R242, R243, R246): the partition stops at its PT, the record is written, a Belfry core takes the
interrupt. A fault that arises at a stop already being recorded joins it. (DEDUCED: notes/assumptions/35.md) -/
def raise (vf : Nat) (f : FRec) (s : State) : State :=
  let p := s.part vf
  if p.recording f then s.setPart vf { p with frec := FRec.merge p.frec f }
  else
    let d := s.drawDelay
    let h : Option Nat := if s.belfryDown then none else some (s.tabor + d.1)
    (d.2.setPart vf { p.stopBy .fault with frec := f, handlerAt := h }).announce vf

/-- Faults of one stop, taken together. -/
def raiseAll (vf : Nat) : List FRec → State → State
  | [], s => s
  | f :: fs, s => raiseAll vf fs (raise vf f s)

/-- A completion-time fault of an effect: class 1, the originating op's bundle, slot and issue PT (16_faults R238, R242). -/
def completionFault (p : Part) (vcore : Nat) (e : Pend) (f : Flt) : FRec :=
  { code := f.code, vcore := vcore, slot := e.slot, cls := 1, more := false, baddr := e.baddr, pt := e.ipt, stoppt := p.pt
    detail := f.detail }

/-- The virtual core that a deadline fault of no core names: the lowest that has neither ended nor parked and is not idle, or 0
(16_faults R242). -/
def Part.witness (p : Part) : Nat := p.running.headD 0

/-- The bundle that a core would issue now: the current one while issues of it remain, else the next (16_faults R242). -/
def Core.nextAddr (c : Core) : Int := if c.rep = 0 then c.next else c.cur

/-- A deadline fault of the partition (16_faults R238, R242). -/
def deadlineFault (p : Part) (code detail : Nat) : FRec :=
  { code := code, vcore := p.witness, slot := 7, cls := 2, more := false
    baddr := if p.running.isEmpty then 0 else (p.core p.witness).nextAddr
    pt := p.pt, stoppt := p.pt, detail := detail }

/-! ### The end of a stop (02_time R17, R22) -/

/-- A hold armed: it begins at the smallest beat boundary at least D ahead of PT (02_time R21). -/
def Part.armHold (p : Part) (n : Nat) : Part := { p with hold := some (nextBeat (p.pt + p.delay), 256 * n), holdAsked := p.holdAsked + 1 }

/-- A stop of which the partition's other devices are told, and which ends by R28: neither a hold (R27), nor an alignment pause
(DESIGN CHOICE: notes/assumptions/90.md), nor the cycle in which a barrier wait is over. -/
def Stop.announced : Stop → Bool
  | .hold _ => false
  | .pause _ => false
  | .waitOver _ => false
  | _ => true

/-- Another device of the partition is stopped at a lower PT (02_time R28). -/
def Part.ahead (p : Part) : Bool := p.multi && p.peers.any fun e => decide (e.2 < p.pt)

/-- A device of a partition may be released from the stops that R28 speaks of: every other device is stopped too, and none at a lower PT.
(DEDUCED: notes/assumptions/67.md) -/
def Part.turn (p : Part) : Bool := !p.multi || (p.matesStopped && !p.ahead)

/-- The other devices that stand at this PT. -/
def Part.level (p : Part) : List Nat := keys (p.peers.filter fun e => decide (e.2 = p.pt))

/-- It is the turn of this device alone: it may go on without a word with another (02_time R28). -/
def Part.alone (p : Part) : Bool := !p.multi || (p.turn && p.level.isEmpty)

/-- The device resumes with all that stand at its PT: it and each of them have told the others that they can, and the last of these messages has
come, as every message takes D Tabor cycles to every device (02_time R28). (DEDUCED: notes/assumptions/109.md) -/
def Part.together (p : Part) (tabor : Nat) : Bool :=
  p.turn && p.readyAt.any (fun t => decide (t ≤ tabor)) && p.level.all p.readies.contains

/-- PT resumes if no stop is left: devices at this PT or below are no longer ahead, but for one that has stopped anew and that this device is
to be aligned with; and a hold asked for while a hold ran is armed now (02_time R22, R28). -/
def Part.resumed (p : Part) : Part :=
  if p.stops.isEmpty then
    let q := { p with peers := p.peers.filter (fun e => decide (p.pt < e.2) || p.alignAt.isSome), readyAt := none, readies := [] }
    match q.holdNext with
    | some n => { q.armHold n with holdNext := none }
    | none => q
  else p

/-- Whether a device stays: the last of the stops that R28 speaks of has ended, and another device must resume before it or with it. -/
def Part.staysOver (p : Part) (before : List Stop) : Bool := before.any Stop.announced && !p.stops.any Stop.announced && !p.alone

/-- THE RELEASE FROM A STOP: that stop ends; PT resumes when it was the last (02_time R17). A device of several stays until its turn, until the
devices at its PT can resume with it, or until the alignment flit (R28). (DEDUCED: notes/assumptions/67.md) -/
def Part.releaseFrom (p : Part) (st : Stop → Bool) : Part :=
  let q := { p with stops := p.stops.filter fun x => !st x }
  if q.staysOver p.stops then q.stopBy .align else q.resumed

def Stop.isFault : Stop → Bool
  | .fault => true
  | _ => false

def Stop.isHold : Stop → Bool
  | .hold _ => true
  | _ => false

def Stop.isBarrier : Stop → Bool
  | .barrier => true
  | _ => false

def Stop.isPreempt : Stop → Bool
  | .preempt => true
  | _ => false

def Stop.isAlign : Stop → Bool
  | .align => true
  | _ => false

def Stop.isFail : Stop → Bool
  | .fail => true
  | _ => false

def Stop.isPause : Stop → Bool
  | .pause _ => true
  | _ => false

/-- The partition released from its fault stop (16_faults R245, R246). -/
def release (vf : Nat) (s : State) : State :=
  s.onPart vf fun p => { p.releaseFrom Stop.isFault with handlerAt := none }

end Sys2Proof.Machine
end

