-- ==== Sys2Proof/Machine/Operands.lean ====
section
/-! DEFINITION. Operand forms: immediates, scratchpad and line addresses with the offsets that steps have advanced, and the fields of buffer
records (03_core R43; 04_encoding R62 to R68, R71; 09_memory R143 to R145). -/

namespace Sys2Proof.Machine

/-- A 32-bit immediate sign-extended to 64 bits (04_encoding R63). -/
def imm32 (v : Nat) : DWord := BitVec.ofInt 64 (signed 32 v)

/-- CMP's second operand (20_ref_a_d R303). -/
def cmpOperand (isImm imm : Nat) (b : DWord) : DWord := if isImm = 1 then BitVec.ofInt 64 (signed 24 imm) else b

/-- LDS's and STS's byte address: base plus signed offset modulo 2^20, aligned down to the size (21_ref_e_m R326; 22_ref_n_t R353). -/
def scalarAddr (base : DWord) (size off : Nat) : Nat :=
  imod ((base.toNat : Int) + signed 20 off) (2 ^ 20) / 2 ^ size * 2 ^ size

/-- A line number from an address register, a signed line offset of `w` bits and the lines its steps have added (03_core R43; 07_vector
R103). -/
def lineAddr (reg w off adv : Nat) : Nat := imod ((reg / 256 : Nat) + signed w off + adv) 4096

/-- A stepped counter modulo its space: a signed step of `w` bits added to what has been added so far (03_core R43). -/
def advance (n w step adv : Nat) : Nat := imod ((adv : Int) + signed w step) n

/-! ### Records (09_memory R143) -/

def recField (r : Rec) (lo w : Nat) : Nat := r.toNat / 2 ^ lo % 2 ^ w

def recBase (r : Rec) : Nat := recField r 0 64
def recExtent (r : Rec) : Nat := recField r 64 32
def recStride1 (r : Rec) : Int := signed 32 (recField r 96 32)
def recStride2 (r : Rec) : Int := signed 32 (recField r 128 32)
def recCount1 (r : Rec) : Nat := recField r 160 16
def recCount2 (r : Rec) : Nat := recField r 176 16
def recFormat (r : Rec) : Nat := recField r 192 8
def recCheck (r : Rec) : Nat := recField r 200 4
def recSpace (r : Rec) : Nat := recField r 204 4
def recDevice (r : Rec) : Nat := recField r 208 24

/-- Bit position and width of an RSET field code (09_memory R145). -/
def fieldPlace (code : Nat) : Nat × Nat :=
  match code with
  | 0 => (0, 32)
  | 1 => (32, 32)
  | 2 => (64, 32)
  | 3 => (96, 32)
  | 4 => (128, 32)
  | 5 => (160, 16)
  | 6 => (176, 16)
  | 7 => (192, 8)
  | 8 => (200, 4)
  | 9 => (204, 4)
  | _ => (208, 24)

/-- A record with one field replaced (22_ref_n_t R347). -/
def setField (r : Rec) (code val : Nat) : Rec :=
  let lo := (fieldPlace code).1
  let w := (fieldPlace code).2
  BitVec.ofNat 256 (r.toNat - recField r lo w * 2 ^ lo + val % 2 ^ w * 2 ^ lo)

/-- A record with the reserved bits 255:232 zero (22_ref_n_t R345). -/
def recordOf (v : Nat) : Rec := BitVec.ofNat 256 (v % 2 ^ 232)

/-- The element size of a FORMAT code: 1, 2, 4 or 8 bytes for the T codes, 1 + 4m for bkm (09_memory R144). -/
def elemSize (format : Nat) : Nat :=
  match format with
  | 0 | 4 => 1
  | 1 | 5 | 8 | 9 => 2
  | 2 | 6 | 10 => 4
  | 3 | 7 => 8
  | m => 1 + 4 * (m - 14)

/-- The FORMAT, CHECK and SPACE codes are legal (09_memory R143). -/
def recLegal (r : Rec) : Bool :=
  formatLegal (recFormat r) && decide (recCheck r ≤ 3) && decide (recSpace r ≤ 4)

end Sys2Proof.Machine
end

