-- ==== Sys2Proof/Machine/Engines.lean ====
section
/-! DEFINITION. What the engine commands move: element patterns of buffer records, the pairs of source and destination bytes, the pieces at
page boundaries, and the record checks at issue (09_memory R141, R144; 13_ordering R206 to R210; 18_fabric_host R275; 20_ref_a_d R298;
21_ref_e_m R316, R317, R320). -/

namespace Sys2Proof.Machine

/-! ### Patterns (09_memory R144) -/

/-- Offsets from BASE of a record's elements: j in the outer order, i in the inner order. -/
def offsets (r : Rec) : List Int :=
  ((List.range (recCount2 r)).map fun (j : Nat) =>
    (List.range (recCount1 r)).map fun (i : Nat) => recStride1 r * (i : Int) + recStride2 r * (j : Int)).flatten

/-- Offsets of `n` elements back to back. -/
def backToBack (size n : Nat) : List Int := (List.range n).map fun i => ((i * size : Nat) : Int)

/-- All bytes of the element at an offset lie in [BASE, BASE + EXTENT). -/
def inBounds (r : Rec) (size : Nat) (off : Int) : Bool := decide (0 ≤ off ∧ off + size ≤ (recExtent r : Int))

/-- The offset at which an element is accessed; none when zero-fill discards it. (DESIGN CHOICE: notes/assumptions/56.md) -/
def checkedOffset (r : Rec) (size : Nat) (off : Int) : Option Int :=
  match recCheck r with
  | 1 =>
    if recExtent r < size then some (Config.emptyClamp (recExtent r) size : Nat)
    else some (max 0 (min ((recExtent r : Int) - size) off))
  | 3 => if inBounds r size off then some off else none
  | _ => some off

/-- Some element is out of bounds under CHECK = fault. -/
def patternFaults (r : Rec) (size : Nat) (offs : List Int) : Bool :=
  decide (recCheck r = 2) && offs.any fun o => !inBounds r size o

/-- A byte address in a space: scratch addresses wrap modulo 2^20, virtual addresses modulo 2^64. -/
def spaceAddr (r : Rec) (a : Int) : Nat := imod a (if recSpace r = 0 then 2 ^ 20 else 2 ^ 64)

/-! ### What a command moves (13_ordering R208; 21_ref_e_m R316) -/

/-- Number of elements of a record. -/
def elementCount (r : Rec) : Nat := recCount1 r * recCount2 r

/-- Source and destination offsets of the elements that a command of a KIND moves, in order: 0 copy, 1 gather, 2 scatter, 3 fill. -/
def movedOffsets (kind : Nat) (src dst : Rec) : List (Int × Int) :=
  let n := elemSize (recFormat src)
  match kind with
  | 1 => (offsets src).zip (backToBack n (elementCount src))
  | 2 => (backToBack n (elementCount dst)).zip (offsets dst)
  | 3 => (offsets dst).map fun o => (0, o)
  | _ => (offsets src).zip (offsets dst)

/-- The source offsets that are checked. -/
def checkedSource (kind : Nat) (src dst : Rec) : List Int :=
  if kind = 3 then [0] else (movedOffsets kind src dst).map fun e => e.1

/-- Unwrapped source byte address (or none for a zero-filled element) and destination byte address of every byte moved. -/
def movedBytes (kind : Nat) (src dst : Rec) : List (Option Int × Nat) :=
  let n := elemSize (recFormat src)
  ((movedOffsets kind src dst).map fun e =>
    match checkedOffset dst n e.2 with
    | none => []
    | some d =>
      (List.range n).map fun (b : Nat) =>
        ((checkedOffset src n e.1).map fun a => (recBase src : Int) + a + (b : Int), spaceAddr dst ((recBase dst : Int) + d + (b : Int)))).flatten

/-- Lowest and highest unwrapped line that holds a byte read, if one is read: every source element is, even one whose destination zero-fill
discards (09_memory R144; 21_ref_e_m R317). (DEDUCED: notes/assumptions/28.md) -/
def phaseSpan (kind : Nat) (src dst : Rec) : Option (Int × Int) :=
  let n := elemSize (recFormat src)
  let ls := ((movedOffsets kind src dst).filterMap fun e => checkedOffset src n e.1).flatMap fun a =>
    (List.range n).map fun (b : Nat) => ((recBase src : Int) + a + (b : Int)) / 256
  match ls with
  | [] => none
  | l :: r => some (r.foldl min l, r.foldl max l)

/-- Lines of the timed read phase: `hi − lo + 1`, and 0 when nothing is read. -/
def phaseLength (kind : Nat) (src dst : Rec) : Nat :=
  match phaseSpan kind src dst with
  | none => 0
  | some (lo, hi) => (hi - lo).toNat + 1

/-- Lowest line of the phase, unwrapped. -/
def phaseLow (kind : Nat) (src dst : Rec) : Int := ((phaseSpan kind src dst).map fun e => e.1).getD 0

/-- The pieces of a command, in rising destination order: its bytes grouped by the 256 destination bytes of a line or a column, in the order
of their elements. So a piece lies in one destination page (09_memory R141, R142), what it writes to a 32-byte sector it writes at once
(13_ordering R200), and of several elements that meet the last in order stays (09_memory R144). -/
def piecesOf (kind : Nat) (src dst : Rec) : List Piece :=
  let t : Table (List (Option Nat × Nat)) :=
    (movedBytes kind src dst).foldl (fun t e => tmod [] t (e.2 / 256) fun l => l ++ [(e.1.map (spaceAddr src), e.2)]) []
  t.map fun e => ⟨e.2⟩

/-- The flag of ENQ: the first 8-byte-aligned address at or above BASE + EXTENT of its destination (13_ordering R208). -/
def enqFlag (dst : Rec) : Nat := spaceAddr dst (((recBase dst + recExtent dst + 7) / 8 * 8 : Nat) : Int)

/-! ### Record checks at issue: all are bounds faults, with the record number and the side -/

/-- The detail of a bounds fault (16_faults R241): 0 source, 1 destination. -/
def boundsDetail (r side : Nat) : Nat := r + 16 * side

/-- The first condition of a list that holds. -/
def firstBad : List (Bool × Nat) → Option Nat
  | [] => none
  | (b, d) :: r => if b then some d else firstBad r

/-- The checks of 21_ref_e_m R316 that ENQ and FPUT share, in their order, the source before the destination. -/
def moveFaults (t3 : Bool) (kind rs rd : Nat) (src dst : Rec) : List (Bool × Nat) :=
  let n := elemSize (recFormat src)
  let s := boundsDetail rs 0
  let d := boundsDetail rd 1
  [ (!recLegal src, s), (!recLegal dst, d)
  , (decide (recSpace src = 1), s), (decide (recSpace dst = 1), d)
  , (!t3 && decide (recSpace src = 4), s), (!t3 && decide (recSpace dst = 4), d)
  , (decide (n ≠ elemSize (recFormat dst)), s)
  , (patternFaults src n (checkedSource kind src dst), s)
  , (patternFaults dst n ((movedOffsets kind src dst).map fun e => e.2), d) ]

/-- ENQ's record checks (21_ref_e_m R316). -/
def enqBounds (t3 : Bool) (kind rs rd : Nat) (src dst : Rec) : Option Nat :=
  firstBad (moveFaults t3 kind rs rd src dst ++
    [(decide (recSpace src = 0 ∧ 4096 < phaseLength kind src dst), boundsDetail rs 0)])

/-- FPUT's record checks (21_ref_e_m R320): source in the scratchpad, destination T1, T2 or T3. -/
def fputBounds (t3 : Bool) (rs rd : Nat) (src dst : Rec) : Option Nat :=
  firstBad (moveFaults t3 0 rs rd src dst ++
    [(decide (recSpace src ≠ 0), boundsDetail rs 0), (decide (recSpace dst < 2), boundsDetail rd 1)])

/-- AOP's record checks (20_ref_a_d R298). -/
def aopBounds (t3 : Bool) (r size : Nat) (loc : Rec) : Option Nat :=
  firstBad
    [ (!recLegal loc, boundsDetail r 1)
    , (decide (recSpace loc < 2), boundsDetail r 1)
    , (!t3 && decide (recSpace loc = 4), boundsDetail r 1)
    , (decide (recBase loc % (4 * 2 ^ size) ≠ 0), boundsDetail r 1) ]

/-- FSEND's record checks (18_fabric_host R275): `own` tells whether a core lies on this device. -/
def fsendBounds (k13 r : Nat) (own : Nat → Bool) (rec : Rec) : Option Nat :=
  let core := recBase rec / 2 ^ 20 % 512
  firstBad
    [ (decide (recSpace rec ≠ 0), boundsDetail r 1)
    , (decide (recBase rec / 2 ^ 29 ≠ 0 ∨ recBase rec % 256 ≠ 0), boundsDetail r 1)
    , (decide (k13 ≤ core), boundsDetail r 1)
    , (own core, boundsDetail r 1) ]

end Sys2Proof.Machine
end

