-- ==== Sys2Proof/Machine/Floats.lean ====
section
/-! DEFINITION. Floating-point values, rounding and the four functions (06_numbers R86 to R94). Every operation forms an exact result and
rounds it once. -/

namespace Sys2Proof.Machine

/-- A floating-point value, or the exact result of an operation: `fin neg m e` is m × 2^e, negated if `neg`. -/
inductive FVal where
  | nan
  | inf (neg : Bool)
  | fin (neg : Bool) (m : Nat) (e : Int)
deriving DecidableEq, Repr

/-- Exponent bits, bias and fraction bits of an element type 8 f16, 9 bf16, 10 f32 (06_numbers R86). -/
def expBits (t : Nat) : Nat := if t = 8 then 5 else 8
def expBias (t : Nat) : Nat := if t = 8 then 15 else 127
def fracBits (t : Nat) : Nat :=
  match t with
  | 8 => 10
  | 9 => 7
  | _ => 23

/-- The bit pattern of +Inf. -/
def infBits (t : Nat) : Nat := (2 ^ expBits t - 1) * 2 ^ fracBits t

/-- The bit that holds the sign. -/
def signBit (t : Nat) : Nat := 2 ^ (expBits t + fracBits t)

/-- The canonical NaN (06_numbers R86). -/
def canonicalNaN (t : Nat) : Nat := infBits t + 2 ^ (fracBits t - 1)

/-- The value of a bit pattern; subnormals at their exact values (06_numbers R87). -/
def fdecode (t v : Nat) : FVal :=
  let neg := decide (v / signBit t % 2 = 1)
  let ex := v / 2 ^ fracBits t % 2 ^ expBits t
  let fr := v % 2 ^ fracBits t
  if ex = 2 ^ expBits t - 1 then (if fr = 0 then .inf neg else .nan)
  else if ex = 0 then .fin neg fr (1 - (expBias t : Int) - fracBits t)
  else .fin neg (2 ^ fracBits t + fr) ((ex : Int) - expBias t - fracBits t)

def withSign (t : Nat) (neg : Bool) (mag : Nat) : Nat := if neg then signBit t + mag else mag

/-- Whether rounding a magnitude away from zero is right: the part cut off is `r` of `d`, `odd` tells the kept part's parity
(06_numbers R89: 0 RNE, 1 RTZ, 2 RDN, 3 RUP). -/
def roundUp (mode : Nat) (neg odd : Bool) (r d : Nat) : Bool :=
  match mode with
  | 0 => decide (d < 2 * r) || (decide (2 * r = d) && odd)
  | 1 => false
  | 2 => neg && decide (r ≠ 0)
  | _ => !neg && decide (r ≠ 0)

/-- A magnitude m × 2^e rounded to a multiple of 2^u, as the multiple (06_numbers R89, R91). -/
def roundAt (mode : Nat) (neg : Bool) (m : Nat) (e u : Int) : Nat :=
  if u ≤ e then m * 2 ^ (e - u).toNat
  else
    let d := 2 ^ (u - e).toNat
    let k := m / d
    if roundUp mode neg (decide (k % 2 = 1)) (m % d) d then k + 1 else k

/-- The bit pattern of a value rounded once to type `t` in a mode (06_numbers R89). -/
def fround (t mode : Nat) : FVal → Nat
  | .nan => canonicalNaN t
  | .inf neg => withSign t neg (infBits t)
  | .fin neg 0 _ => withSign t neg 0
  | .fin neg m e =>
    let emin : Int := 1 - (expBias t : Int)
    let u : Int := max ((Nat.log2 m : Int) + e) emin - fracBits t
    let k := roundAt mode neg m e u
    let bits := (u + fracBits t - emin).toNat * 2 ^ fracBits t + k
    if bits < infBits t then withSign t neg bits
    else
      let toInf := match mode with
        | 0 => true
        | 1 => false
        | 2 => neg
        | _ => !neg
      withSign t neg (if toInf then infBits t else infBits t - 1)

/-- The scale 2^SC applied to an exact result (06_numbers R89). -/
def FVal.scale (sc : Int) : FVal → FVal
  | .fin neg m e => .fin neg m (e + sc)
  | v => v

def FVal.neg : FVal → FVal
  | .nan => .nan
  | .inf n => .inf !n
  | .fin n m e => .fin (!n) m e

def FVal.abs : FVal → FVal
  | .nan => .nan
  | .inf _ => .inf false
  | .fin _ m e => .fin false m e

/-- The signed integer of a finite magnitude at exponent `e0 ≤ e`. -/
def finInt (neg : Bool) (m : Nat) (e e0 : Int) : Int :=
  let v : Int := (m * 2 ^ (e - e0).toNat : Nat)
  if neg then -v else v

/-- The exact sum; ∞ − ∞ is invalid; an exact zero sum of opposite signs is −0 under RDN, else +0 (06_numbers R89, R90). -/
def fadd (mode : Nat) : FVal → FVal → FVal
  | .nan, _ => .nan
  | _, .nan => .nan
  | .inf a, .inf b => if a = b then .inf a else .nan
  | .inf a, _ => .inf a
  | _, .inf b => .inf b
  | .fin na ma ea, .fin nb mb eb =>
    let e := min ea eb
    let x := finInt na ma ea e + finInt nb mb eb e
    if x = 0 then .fin (if na = nb then na else decide (mode = 2)) 0 0
    else .fin (decide (x < 0)) x.natAbs e

/-- The exact product; 0 × ∞ is invalid (06_numbers R90). -/
def fmul : FVal → FVal → FVal
  | .nan, _ => .nan
  | _, .nan => .nan
  | .inf a, .inf b => .inf (xor a b)
  | .inf a, .fin nb mb _ => if mb = 0 then .nan else .inf (xor a nb)
  | .fin na ma _, .inf b => if ma = 0 then .nan else .inf (xor na b)
  | .fin na ma ea, .fin nb mb eb => .fin (xor na nb) (ma * mb) (ea + eb)

/-- An order on values other than NaN that puts −0 below +0 (06_numbers R90). -/
def fless : FVal → FVal → Bool
  | .nan, _ => false
  | _, .nan => false
  | .inf a, .inf b => a && !b
  | .inf a, .fin _ _ _ => a
  | .fin _ _ _, .inf b => !b
  | .fin na ma ea, .fin nb mb eb =>
    let e := min ea eb
    let x := finInt na ma ea e
    let y := finInt nb mb eb e
    decide (x < y) || (decide (x = y) && na && !nb)

/-- Smaller or larger of two values, the canonical NaN if either is NaN (06_numbers R90). -/
def fpick (big : Bool) (a b : FVal) : FVal :=
  match a, b with
  | .nan, _ => .nan
  | _, .nan => .nan
  | _, _ => if big then (if fless a b then b else a) else (if fless b a then b else a)

/-- Numeric equality: −0 equals +0 (06_numbers R90). -/
def feq : FVal → FVal → Bool
  | .inf a, .inf b => a == b
  | .fin na ma ea, .fin nb mb eb => decide (finInt na ma ea (min ea eb) = finInt nb mb eb (min ea eb))
  | _, _ => false

/-- A condition code on floating-point values (04_encoding R61; 06_numbers R90). -/
def condFloat (cond : Nat) (a b : FVal) : Bool :=
  let un := decide (a = .nan) || decide (b = .nan)
  let eq := feq a b
  let lt := fless a b && !eq
  match cond with
  | 0 => !un && eq
  | 1 => un || !eq
  | 2 => !un && lt
  | 3 => !un && (lt || eq)
  | 4 => !un && !lt && !eq
  | 5 => !un && !lt
  | _ => un

/-- CLP on a rounded result (06_numbers R89). -/
def fclamp (t clp v : Nat) : Nat :=
  let x := fdecode t v
  match clp with
  | 1 =>
    (match x with
     | .inf neg => withSign t neg (infBits t - 1)
     | _ => v)
  | 2 =>
    (match x with
     | .nan => 0
     | _ => if fless x (.fin false 0 0) then 0 else if fless (.fin false 1 0) x then fround t 0 (.fin false 1 0) else v)
  | 3 =>
    (match x with
     | .nan => 0
     | _ =>
       if fless x (.fin true 1 0) then fround t 0 (.fin true 1 0)
       else if fless (.fin false 1 0) x then fround t 0 (.fin false 1 0) else v)
  | _ => v

/-- The last steps of every floating-point op: scale, one rounding, clamp (06_numbers R89). -/
def ffinish (t mode clp : Nat) (sc : Int) (r : FVal) : Nat := fclamp t clp (fround t mode (r.scale sc))

/-! ### Functions (06_numbers R93). An irrational result is replaced by a value that lies between the same two neighbours of a grid far finer
than any rounding boundary of the type (notes/assumptions/6.md). -/

/-- Bits of the fixed-point grid. -/
def gridBits : Nat := 320

/-- Integer square root by bits, from bit `b` down. -/
def isqrtFrom (n : Nat) : Nat → Nat → Nat
  | 0, r => r
  | b + 1, r =>
    let c := r + 2 ^ b
    isqrtFrom n b (if c * c ≤ n then c else r)

def isqrt (n : Nat) : Nat := isqrtFrom n (Nat.log2 n / 2 + 1) 0

/-- A magnitude between k and k + 1 (or k itself if exact) in units of 2^e. -/
def between (neg : Bool) (k : Nat) (exact : Bool) (e : Int) : FVal :=
  if exact then .fin neg k e else .fin neg (2 * k + 1) (e - 1)

/-- 1/a. (DEDUCED: notes/assumptions/6.md) -/
def frcp : FVal → FVal
  | .nan => .nan
  | .inf neg => .fin neg 0 0
  | .fin neg 0 _ => .inf neg
  | .fin neg m e =>
    let k := Nat.log2 m + 64
    between neg (2 ^ k / m) (decide (2 ^ k % m = 0)) (-(k : Int) - e)

/-- 1/√a. (DEDUCED: notes/assumptions/6.md) -/
def frsq : FVal → FVal
  | .nan => .nan
  | .inf neg => if neg then .nan else .fin false 0 0
  | .fin neg 0 _ => .inf neg
  | .fin true _ _ => .nan
  | .fin false m e =>
    let m' := if e % 2 = 0 then m else 2 * m
    let e' := if e % 2 = 0 then e else e - 1
    let k := Nat.log2 m' + 64
    let r := isqrt (2 ^ (2 * k) / m')
    between false r (decide (r * r * m' = 2 ^ (2 * k))) (-(k : Int) - e' / 2)

/-- The sum of x^(2i+1) / (2i+1) over `n` terms from term `i`, on a grid of 2^-b, where `p` is x^(2i+1) and `x2` is x²: the inverse
hyperbolic tangent. -/
def atanhFrom (b x2 : Nat) : Nat → Nat → Nat → Nat
  | 0, _, _ => 0
  | n + 1, i, p => p / (2 * i + 1) + atanhFrom b x2 n (i + 1) (p * x2 / 2 ^ b)

/-- ln y for a rational y = num/den from 1 to 2, on a grid of 2^-b: twice the inverse hyperbolic tangent of (y − 1)/(y + 1). -/
def lnFixed (b num den : Nat) : Nat :=
  let x := (num - den) * 2 ^ b / (num + den)
  2 * atanhFrom b (x * x / 2 ^ b) 130 0 x

/-- ln 2 on a grid of 2^-b. -/
def ln2Fixed (b : Nat) : Nat := lnFixed b 2 1

/-- The sum of x^i / i! over `n` terms from term `i`, where `p` is x^i / i!, on a grid of 2^-b. -/
def expFrom (b x : Nat) : Nat → Nat → Nat → Nat
  | 0, _, _ => 0
  | n + 1, i, p => p + expFrom b x n (i + 1) (p * x / 2 ^ b / (i + 1))

/-- 2^a. -/
def fexp2 : FVal → FVal
  | .nan => .nan
  | .inf neg => if neg then .fin false 0 0 else .inf false
  | .fin _ 0 _ => .fin false 1 0
  | .fin neg m e =>
    if 0 ≤ e then
      -- an integer; beyond every format's range it stands for its sign
      let a := finInt neg m (min e 40) 0
      .fin false 1 (max (-100000) (min 100000 a))
    else
      let a : Int := if neg then -(m : Int) else m
      let d : Int := (2 ^ (-e).toNat : Nat)
      let n := max (-100000) (min 100000 (a / d))
      let f := (a % d).toNat
      if f = 0 then .fin false 1 n
      else
        let b := gridBits + 16
        let x := f * ln2Fixed b / 2 ^ (-e).toNat
        between false (expFrom b x 100 0 (2 ^ b) / 2 ^ 16) false (n - gridBits)

/-- log2 a. -/
def flog2 : FVal → FVal
  | .nan => .nan
  | .inf neg => if neg then .nan else .inf false
  | .fin _ 0 _ => .inf true
  | .fin true _ _ => .nan
  | .fin false m e =>
    let l := Nat.log2 m
    let n : Int := (l : Int) + e
    if m = 2 ^ l then .fin (decide (n < 0)) n.natAbs 0
    else
      let b := gridBits + 16
      let f : Nat := lnFixed b m (2 ^ l) * 2 ^ b / ln2Fixed b / 2 ^ 16
      let v : Int := 2 * (n * (2 ^ gridBits : Nat) + (f : Int)) + 1
      .fin (decide (v < 0)) v.natAbs (-(gridBits : Int) - 1)

/-- What the f32 step of a function hands on: the value rounded to f32 in RNE. A finite value beyond f32's range keeps itself, so that the op's
mode decides what T gets: largest finite under RTZ and RDN, as 23_ref_v_y R366 says; under 06_numbers R93 alone the step would give +Inf in
every mode. (DEDUCED: notes/assumptions/6.md) -/
def f32Step (x : FVal) : FVal :=
  match fdecode 10 (fround 10 0 x), x with
  | .inf _, .fin neg m e => .fin neg m e
  | y, _ => y

/-- The result of a function op: VRCP on every type and every function on f32 round once; VRSQ, VEXP and VLOG on f16 and bf16 round to f32
in RNE first (06_numbers R93; 23_ref_v_y R366). -/
def ffunction (t mode clp : Nat) (sc : Int) (isRcp : Bool) (r : FVal) : Nat :=
  if t = 10 || isRcp then ffinish t mode clp sc r
  else fclamp t clp (fround t mode (f32Step (r.scale sc)))

end Sys2Proof.Machine
end

