-- ==== Sys2Proof/Machine/Packs.lean ====
section
/-! DEFINITION. The arithmetic of the Packed Product Array: packed operands, products, extraction and the memory image of an accumulator
(06_numbers R95, R97; 11_products R156 to R175). -/

namespace Sys2Proof.Machine

/-- Fields of an image under guard width `g` (11_products R156). -/
def fieldCount (g : Nat) : Nat := 2048 / g

/-- The polynomial value of `n` fields of an image, from field 0 up. -/
def polyFrom (g : Nat) : Nat → Nat → Int
  | 0, _ => 0
  | n + 1, v => signed g v + (2 ^ g : Nat) * polyFrom g n (v / 2 ^ g)

/-- The value P of an operand's image under `g` (11_products R156). -/
def polyValue (g : Nat) (image : Line) : Int := polyFrom g (fieldCount g) image.toNat

/-- The fault detail of a guard overflow (11_products R168). -/
def guardDetail (g source lane mag : Nat) : Nat := g + 64 * source + 512 * lane + 2048 * min mag (2 ^ 53 - 1)

def guardFault (g source lane mag : Nat) : Flt := ⟨0x40, guardDetail g source lane mag⟩

def formatFault (reason : Nat) : Flt := ⟨0x42, reason⟩

/-! ### Packing (11_products R161 to R164) -/

/-- Exponent byte of block `b` of a line of bkm blocks (06_numbers R95). -/
def blockExp (m line b : Nat) : Nat := line / 2 ^ (8 * (b * (1 + 4 * m))) % 256

/-- Mantissa `j` of a line of bkm blocks, counted through all blocks. -/
def blockMant (m line j : Nat) : Int :=
  signed m (line / 2 ^ (8 * (j / 32 * (1 + 4 * m) + 1) + m * (j % 32)))

/-- Blocks that `n` mantissas lie in. -/
def blocksOf (n : Nat) : Nat := (n + 31) / 32

/-- A block takes part if a mantissa of it among those packed is not zero. -/
def takesPart (m line n b : Nat) : Bool :=
  (List.range n).any fun j => decide (j / 32 = b) && decide (blockMant m line j ≠ 0)

/-- The smallest of a list of integers; 0 for none. -/
def minOf : List Int → Int
  | [] => 0
  | [a] => a
  | a :: r => min a (minOf r)

/-- The exponent of a pack: the least among the blocks that take part. -/
def packExp (m line n : Nat) : Int :=
  minOf (((List.range (blocksOf n)).filter fun b => takesPart m line n b).map fun b => (blockExp m line b : Int) - 127)

/-- The shifted mantissas f_0 to f_(n−1). -/
def packTerms (m line n : Nat) : List Int :=
  let ze := packExp m line n
  (List.range n).map fun j =>
    blockMant m line j * (2 ^ ((blockExp m line (j / 32) : Int) - 127 - ze).toNat : Nat)

/-- The field of mantissa j (11_products R161). -/
def packField (n start stride : Nat) (rev : Bool) (j : Nat) : Nat :=
  start + (if rev then n - 1 - j else j) * stride

/-- The image with f_j in the field of mantissa j, from mantissa `j` on. -/
def packImage (g n start stride : Nat) (rev : Bool) : Nat → List Int → Nat
  | _, [] => 0
  | j, f :: r => imod f (2 ^ g) * 2 ^ (g * packField n start stride rev j) + packImage g n start stride rev (j + 1) r

/-- The largest magnitude of a list. -/
def maxMag (l : List Int) : Nat := l.foldl (fun a f => max a f.natAbs) 0

/-- A shifted mantissa lies outside a signed field of `g` bits. -/
def outside (g : Nat) (f : Int) : Bool := decide (f < -(2 ^ (g - 1) : Nat)) || decide ((2 ^ (g - 1) : Nat) ≤ f)

/-- The checks of 11_products R162 in their order: the first fault, if any. `source` 0 MPACK, 1 MLDB. -/
def packFault (g m n start stride line source lane : Nat) : Option Flt :=
  if m < 2 ∨ 8 < m then some (formatFault 1)
  else if 256 < blocksOf n * (1 + 4 * m) then some (formatFault 2)
  else if (List.range (blocksOf n)).any fun b => decide (blockExp m line b = 255) then some (formatFault 3)
  else if fieldCount g ≤ start + (n - 1) * stride then some (formatFault 4)
  else
    let bad := (packTerms m line n).filter (outside g)
    if bad.isEmpty then none else some (guardFault g source lane (maxMag bad))

/-- The packed operand (11_products R161). -/
def packValue (g m n start stride : Nat) (rev : Bool) (line : Nat) : Packed :=
  let fs := packTerms m line n
  { image := BitVec.ofNat 2048 (packImage g n start stride rev 0 fs)
    exp := BitVec.ofInt 16 (packExp m line n)
    count := n
    bound := maxMag fs }

/-- The mantissas that MLDB packs (11_products R164). -/
def mldbCount (g m : Nat) : Nat := min (fieldCount g) (32 * (256 / (1 + 4 * m)))

/-- XCP's copy of a vector register into z (03_core R50). -/
def xcpPacked (g image : Nat) : Packed :=
  let n := fieldCount g
  { image := BitVec.ofNat 2048 (image % 2 ^ (g * n))
    exp := 0
    count := n
    bound := maxMag ((List.range n).map fun i => signed g (image / 2 ^ (g * i))) }

/-! ### Multiplying (11_products R166, R168) -/

/-- The accumulator that a multiply forms, before its checks: Q′, QE′, BQ′. A product of value 0 and bound 0 leaves an accumulator that R166
calls empty, so the next MMAC drops its exponent: R166's text is followed there, against R170's QE = min PE_k
(DEDUCED: notes/assumptions/88.md). -/
def mulCombine (acc : Bool) (q : Acc) (p pe : Int) (bp : Nat) : Int × Int × Nat :=
  let q0 := q.q.toInt
  let qe := q.qe.toInt
  if !acc || (decide (q0 = 0) && decide (q.bq = 0)) then (p, pe, bp)
  else if qe ≤ pe then
    let d := (pe - qe).toNat
    (q0 + p * (2 ^ d : Nat), qe, q.bq + bp * 2 ^ d)
  else
    let d := (qe - pe).toNat
    (q0 * (2 ^ d : Nat) + p, pe, q.bq * 2 ^ d + bp)

/-- The checks of 11_products R168 and 21_ref_e_m R336, in order. -/
def mulFault (lane g : Nat) (q qe : Int) (bq : Nat) : Option Flt :=
  if 2 ^ (g - 1) ≤ bq then some (guardFault g 2 lane bq)
  else if q < -(2 ^ 4223 : Nat) ∨ (2 ^ 4223 : Nat) ≤ q then some ⟨0x41, lane⟩
  else if qe < -32768 ∨ 32767 < qe then some ⟨0x41, lane⟩
  else none

def mulAcc (q qe : Int) (bq : Nat) : Acc := ⟨BitVec.ofInt 4224 q, BitVec.ofInt 16 qe, bq⟩

/-- The guard width that MGREQ finds: the least g ≥ 6 with 2^(ma−1) · 2^(mb−1) · n < 2^(g−1) (11_products R159). -/
def mgreqG (ma mb n : Nat) : Nat :=
  let b := 2 ^ (ma - 1) * 2 ^ (mb - 1) * n
  max 6 (Nat.log2 b + 2)

/-! ### Extraction (11_products R171 to R173) -/

/-- The first `n` coefficients of an accumulator under `g`, by balanced extraction. -/
def coefficients (g : Nat) : Nat → Int → List Int
  | 0, _ => []
  | n + 1, v =>
    let c := signed g (imod v (2 ^ g))
    c :: coefficients g n ((v - c) / (2 ^ g : Nat))

/-- c_first to c_(first+count−1). -/
def coefficientRange (g first count : Nat) (q : Int) : List Int := (coefficients g (first + count) q).drop first

/-- A list cut into pieces of `k`, with fuel. -/
def chunks {α : Type} (k : Nat) : Nat → List α → List (List α)
  | 0, _ => []
  | n + 1, l => if l.isEmpty then [] else l.take k :: chunks k n (l.drop k)

/-- The bytes of the output lines, each value in `size` bytes. -/
def outputLines (size : Nat) (vals : List Nat) : List (List Byte) :=
  (chunks (256 / size) (vals.length + 1) vals).map fun l => (l.map (leBytes size)).flatten

/-- The absolute index of the first coefficient outside i32 (11_products R172). -/
def firstWide : Nat → List Int → Option Nat
  | _, [] => none
  | i, c :: r => if c < -(2 ^ 31 : Nat) ∨ (2 ^ 31 : Nat) ≤ c then some i else firstWide (i + 1) r

/-- MEXT's range fault (11_products R172; 16_faults R241). -/
def mextRange (wide first : Nat) (cs : List Int) : Option Nat :=
  if wide = 1 then none else (firstWide first cs).map fun f => 5 + 256 * f

/-- MEXT's output lines. -/
def mextLines (wide : Nat) (cs : List Int) : List (List Byte) :=
  let size := if wide = 1 then 8 else 4
  outputLines size (cs.map fun c => imod c (2 ^ (8 * size)))

/-- MCVT's output lines: each field times 2^QE as f32 in RNE (11_products R173). -/
def mcvtLines (qe : Int) (cs : List Int) : List (List Byte) :=
  outputLines 4 (cs.map fun c => fround 10 0 (.fin (decide (c < 0)) c.natAbs qe))

/-- Lines that `count` values of `size` bytes take. -/
def outputCount (size count : Nat) : Nat := (count + 256 / size - 1) / (256 / size)

/-! ### The memory image of an accumulator (06_numbers R97) -/

/-- The 6,144 bits that MSTQ writes. -/
def accImage (q : Acc) : Nat := q.q.toNat + q.qe.toNat * 2 ^ 4224 + q.bq % 2 ^ 64 * 2 ^ 4288

/-- Line `k` of the image. -/
def accLine (q : Acc) (k : Nat) : List Byte := leBytes 256 (accImage q / 2 ^ (2048 * k))

/-- The accumulator that three lines hold. -/
def accOfImage (v : Nat) : Acc := ⟨BitVec.ofNat 4224 v, BitVec.ofNat 16 (v / 2 ^ 4224), v / 2 ^ 4288 % 2 ^ 64⟩

/-- MLDQ's guard check (11_products R175). -/
def mldqFault (lane g : Nat) (q : Acc) : Option Flt := if 2 ^ (g - 1) ≤ q.bq then some (guardFault g 3 lane q.bq) else none

/-- MNEG (11_products R174). -/
def mnegFault (lane : Nat) (q : Acc) : Option Flt := if q.q.toInt = -(2 ^ 4223 : Nat) then some ⟨0x41, lane⟩ else none

def mnegValue (q : Acc) : Acc := { q with q := -q.q }

/-- MSHR: the dropped fields are all zero exactly when Q is a multiple of 2^(g·k) (11_products R171, R174). -/
def mshrFault (g k : Nat) (q : Acc) : Option Flt := if q.q.toInt % (2 ^ (g * k) : Nat) = 0 then none else some (formatFault 6)

def mshrValue (g k : Nat) (q : Acc) : Acc := { q with q := BitVec.ofInt 4224 (q.q.toInt / (2 ^ (g * k) : Nat)) }

end Sys2Proof.Machine
end

