-- ==== Sys2Proof/Machine/Checks.lean ====
section
/-! DEFINITION. The issue-time checks of one op, in the order of 03_core R47: encoding limits of the running task, domain readiness, handles,
permissions and records, LEAVE, DRAM timing and collisions, bank conflicts, the lane interval, the return stack and LAUNCH. -/

namespace Sys2Proof.Machine

/-- A failed check: its place in the table of 03_core R47, the fault code and the detail. -/
structure Bad where
  order : Nat
  code : Nat
  detail : Nat
deriving DecidableEq, Repr

/-! ### Lines, touches and domains -/

/-- The address register of a V slot: ia in VA, ib in VB (07_vector R103). -/
def Core.va (c : Core) (slot r : Nat) : Nat := if slot = 3 then c.ib r else c.ia r

/-- The line of VLD or VST at the op's stepped offset. -/
def Core.vline (c : Core) (slot ar off : Nat) (st : Sticky) : Nat := lineAddr (c.va slot ar) 11 off st.adv1

/-- The line that an M op addresses through im: an offset of 13 bits (04_encoding R67). -/
def Core.mline (c : Core) (im off adv : Nat) : Nat := lineAddr (c.im im) 13 off adv

/-- Touches of `n` consecutive lines, one a cycle. -/
def lineTouches (cycle line n : Nat) : List Touch :=
  (List.range n).map fun k => ⟨cycle + k, bankOf ((line + k) % 4096), (line + k) % 4096⟩

/-- A touch of one line. -/
def lineTouch (cycle line : Nat) : Touch := ⟨cycle, bankOf line, line % 4096⟩

/-- A touch of a B-store slice (09_memory R130). -/
def sliceTouch (cycle lane entry : Nat) : Touch := ⟨cycle, 16 + lane, entry⟩

/-- CPY's touches by line: read at issue+1+k, write at issue+4+k (20_ref_a_d R304). -/
def copyTouches (pt src dst n : Nat) : List Touch :=
  ((List.range n).map fun k => [lineTouch (pt + 1 + k) ((src + k) % 4096), lineTouch (pt + 4 + k) ((dst + k) % 4096)]).flatten

/-- A timed read phase of an earlier ENQ of the slot covers a cycle (13_ordering R208). (DEDUCED: notes/assumptions/28.md) -/
def Core.phaseCovers (c : Core) (slot cycle : Nat) : Bool :=
  c.pend.any fun e => decide (e.slot = slot) && decide (e.due = cycle) && (match e.eff with
    | .enqRead _ _ _ => true
    | _ => false)

/-- ENQ's start fault, known at issue: 0 too early, 1 the phase is busy (13_ordering R208; 21_ref_e_m R317).
(DEDUCED: notes/assumptions/28.md) -/
def Core.enqStartFault (c : Core) (slot pt t0 off : Nat) (src : Rec) : Option Nat :=
  if t0 + off < pt + 8 then some 0
  else if recSpace src = 0 && c.phaseCovers slot (t0 + off) then some 1
  else none

/-- ENQ's touches: line lo + k at ST + k; none when its start check will fail. -/
def Core.enqTouches (c : Core) (slot pt t0 off kind : Nat) (src dst : Rec) : List Touch :=
  if recSpace src = 0 then
    match c.enqStartFault slot pt t0 off src with
    | some _ => []
    | none => lineTouches (t0 + off) (imod (phaseLow kind src dst) 4096) (phaseLength kind src dst)
  else []

/-- The local touches of an op issued at `pt` (09_memory R124, R130; 11_products R179). -/
def touchesOf (c : Core) (slot pt t0 : Nat) (st : Sticky) (i : Instr) : List Touch :=
  match i with
  | .vld _ _ ar off => [lineTouch (pt + 1) (c.vline slot ar off st)]
  | .vldLong _ _ ar off _ => [lineTouch (pt + 1) (c.vline slot ar off st)]
  | .vst _ _ ar off => [lineTouch (pt + 3) (c.vline slot ar off st)]
  | .vstLong _ _ ar off _ => [lineTouch (pt + 3) (c.vline slot ar off st)]
  | .lds _ _ a _ size off => [lineTouch (pt + 1) (scalarAddr (c.s a) size off / 256)]
  | .sts _ _ a size off => [lineTouch (pt + 2) (scalarAddr (c.s a) size off / 256)]
  | .mpack _ _ im off _ _ _ _ _ => [lineTouch (pt + 1) (c.mline im off st.adv1)]
  | .mldb _ lane entry im => [lineTouch (pt + 1) (c.mline im 0 st.adv1), sliceTouch (pt + 8) lane ((entry + st.adv2) % 512)]
  | .mldbLong _ lane entry im off _ _ =>
    [lineTouch (pt + 1) (c.mline im off st.adv1), sliceTouch (pt + 8) lane ((entry + st.adv2) % 512)]
  | .mmul _ q _ e => [sliceTouch pt q e]
  | .mmac _ q _ e => [sliceTouch pt q e]
  | .mext _ _ im _ count wide off => lineTouches (pt + 10) (c.mline im off 0) (outputCount (if wide = 1 then 8 else 4) count)
  | .mcvt _ _ im _ count off => lineTouches (pt + 8) (c.mline im off 0) (outputCount 4 count)
  | .mldq _ _ im => lineTouches (pt + 1) (c.mline im 0 0) 3
  | .mldqLong _ _ im off => lineTouches (pt + 1) (c.mline im off 0) 3
  | .mstq _ _ im => lineTouches (pt + 10) (c.mline im 0 0) 3
  | .mstqLong _ _ im off => lineTouches (pt + 10) (c.mline im off 0) 3
  | .cpy _ _ _ src dst cnt => copyTouches pt ((src + st.adv1) % 4096) ((dst + st.adv2) % 4096) (cnt + 1)
  | .cpyx _ _ _ _ src _ cnt => lineTouches (pt + 1) ((src + st.adv1) % 4096) (cnt + 1)
  | .dwr _ _ _ _ line _ => [lineTouch (pt + 2) ((line + st.adv1) % 4096)]
  | .rld _ _ line _ => [lineTouch (pt + 1) line]
  | .enq _ rs rd _ _ _ kind off => c.enqTouches slot pt t0 off kind (c.record slot rs) (c.record slot rd)
  | .aop _ _ _ _ _ _ _ opl _ _ => [lineTouch (pt + 1) opl]
  | .fsend _ _ line cnt _ => lineTouches (pt + 1) line (cnt + 1)
  | _ => []

/-- The domain of a V or C slot's own unit (12_power R186). -/
def unitDom (slot : Nat) : Nat :=
  match slot with
  | 2 => 0
  | 3 => 1
  | 5 => 6
  | _ => 7

/-- The domain of an XCP destination file: 2 VA, 3 VB, 4 M, 5 CA, 6 CB (03_core R51). -/
def fileDom (f : Nat) : List Nat :=
  match f with
  | 2 => [0]
  | 3 => [1]
  | 4 => [28]
  | 5 => [6]
  | 6 => [7]
  | _ => []

/-- The power domain of a touched place (12_power R182). -/
def placeDom (place : Nat) : Nat := 8 + place

/-- The domains, other than those of its touches, that an op needs, and the cycle of each (11_products R179; 12_power R186). -/
def domainsOf (slot pt : Nat) (i : Instr) : List (Nat × Nat) :=
  match i with
  | .xcpS _ f _ _ _ => (fileDom f).map fun d => (d, pt)
  | .mpack _ _ _ _ _ _ _ _ _ => [(28, pt)]
  | .mldb _ lane _ _ => [(24 + lane, pt + 8)]
  | .mldbLong _ lane _ _ _ _ _ => [(24 + lane, pt + 8)]
  | .mmul _ q _ _ => [(2 + q, pt), (28, pt), (24 + q, pt)]
  | .mmac _ q _ _ => [(2 + q, pt), (28, pt), (24 + q, pt)]
  | .mclr _ q => [(2 + q, pt)]
  | .mext _ q _ _ _ _ _ => [(2 + q, pt)]
  | .mcvt _ q _ _ _ _ => [(2 + q, pt)]
  | .mshr _ q _ => [(2 + q, pt)]
  | .mneg _ q => [(2 + q, pt)]
  | .mldq _ q _ => [(2 + q, pt)]
  | .mldqLong _ q _ _ => [(2 + q, pt)]
  | .mstq _ q _ => [(2 + q, pt)]
  | .mstqLong _ q _ _ => [(2 + q, pt)]
  | .xcpM _ f _ _ _ => (28, pt) :: (fileDom f).map fun d => (d, pt)
  | .xcpV _ f _ _ _ => (unitDom slot, pt) :: (fileDom f).map fun d => (d, pt)
  | .xcpC _ f _ _ _ => (unitDom slot, pt) :: (fileDom f).map fun d => (d, pt)
  | .nop _ => []
  | _ => if i.inMap .v || i.inMap .c then [(unitDom slot, pt)] else []

/-- The detail of a sleeping-resource fault (16_faults R241). -/
def Core.sleepDetail (c : Core) (d : Nat) : Nat := (c.dom d).code + 4 * d + 256 * (c.dom d).readyBits

/-- The first domain that is not ready in its cycle. -/
def Core.firstAsleep (c : Core) : List (Nat × Nat) → Option Nat
  | [] => none
  | (d, cycle) :: r => if (c.dom d).readyAt cycle then c.firstAsleep r else some d

/-- Check 6: sleeping-resource. -/
def sleepCheck (c : Core) (slot pt t0 : Nat) (st : Sticky) (i : Instr) : Option Bad :=
  (c.firstAsleep (domainsOf slot pt i ++ (touchesOf c slot pt t0 st i).map fun t => (placeDom t.place, t.cycle))).map fun d =>
    ⟨6, 0x10, c.sleepDetail d⟩

/-! ### Check 4: limits of the running task (04_encoding R59; 18_fabric_host R275) -/

/-- The op names a virtual core or vchannel that the task does not have, or a port outside the timed-port mask. -/
def taskLimit (p : Part) (i : Instr) : Bool :=
  match i with
  | .cpyx _ core _ _ _ _ _ => decide (p.taskCores ≤ core)
  | .dact _ vch _ _ _ => decide (p.vchannels ≤ vch)
  | .drd _ vch _ _ _ _ => decide (p.vchannels ≤ vch)
  | .dwr _ vch _ _ _ _ => decide (p.vchannels ≤ vch)
  | .dpre _ vch _ _ => decide (p.vchannels ≤ vch)
  | .dref _ vch _ => decide (p.vchannels ≤ vch)
  | .fsend _ _ _ _ port => !p.portMask.contains port
  | _ => false

/-- The detail of an encoding fault: op word and extension word (16_faults R241). -/
def wordDetail (w x : Nat) : Nat := w + 2 ^ 32 * x

/-- The words of an op, for the detail. -/
def opWords (i : Instr) : Nat :=
  match encode i with
  | some (w, x) => wordDetail w x
  | none => 0

/-! ### Check 7: handles, permissions and records -/

/-- A handle's 64 bits (10_translation R146). -/
def Handle.bits (h : Handle) : Nat :=
  (match h.st with
    | .invalid => 0
    | .miss => 1
    | .valid => 2)
  + (if h.rp then 4 else 0) + (if h.wp then 8 else 0) + h.size * 2 ^ 4 + h.tier * 2 ^ 6 + h.vch * 2 ^ 9 + h.vrow * 2 ^ 16 + h.prow * 2 ^ 32

/-- The detail of a handle fault (10_translation R151). -/
def handleDetail (n : Nat) (h : Handle) : Nat := n + h.bits * 16 % 2 ^ 64

/-- A bank of a vchannel is a service bank (09_memory R132). -/
def Part.isService (p : Part) (vch bank : Nat) : Bool := decide (tget 0 p.service vch / 2 ^ bank % 2 = 1)

/-- The program banks of a vchannel. -/
def Part.programBanks (p : Part) (vch : Nat) : List Nat := (List.range 16).filter fun b => !p.isService vch b

/-- A program bank's state and history. -/
def Part.bank (p : Part) (vch b : Nat) : Bank := tget Bank.fresh p.banks (16 * vch + b)

def Part.setBank (p : Part) (vch b : Nat) (k : Bank) : Part := { p with banks := tput p.banks (16 * vch + b) k }

/-- A virtual channel's history. -/
def Part.chan (p : Part) (vch : Nat) : Chan := tget Chan.fresh p.chans vch

def Part.setChan (p : Part) (vch : Nat) (k : Chan) : Part := { p with chans := tput p.chans vch k }

/-- A row count by size code: 1, 64 or 4,096 (10_translation R146). -/
def pageUnits (size : Nat) : Nat := 64 ^ size

def dactCheck (p : Part) (vch bank n row : Nat) (h : Handle) : Option Bad :=
  match h.st with
  | .invalid => some ⟨7, 0x20, handleDetail n h⟩
  | .miss => some ⟨7, 0x21, handleDetail n h⟩
  | .valid =>
    if !h.rp || decide (h.tier ≠ 0) || decide (h.vch ≠ vch) || p.isService vch bank then some ⟨7, 0x22, handleDetail n h⟩
    else if pageUnits h.size ≤ row then some ⟨7, 0x23, row * 2 ^ 16⟩
    else none

/-- The detail of a permission fault of a command other than DACT (16_faults R241). -/
def bankDetail (vch bank : Nat) : Nat := vch + 128 * bank

def serviceCheck (p : Part) (vch bank : Nat) : Option Bad :=
  if p.isService vch bank then some ⟨7, 0x22, bankDetail vch bank⟩ else none

/-- A DWR to a bank opened through a handle without write permission (09_memory R134). (DEDUCED: notes/assumptions/23.md) -/
def writeCheck (p : Part) (vch bank : Nat) : Option Bad :=
  match (p.bank vch bank).st with
  | .active _ wp => if wp then none else some ⟨7, 0x22, bankDetail vch bank⟩
  | _ => none

/-- T3 access is a feature in force (18_fabric_host R280). -/
def Part.t3 (p : Part) : Bool := decide (p.features / 8 % 2 = 1)

def boundsBad (d : Nat) : Bad := ⟨7, 0x23, d⟩

/-- Check 7. (DEDUCED: notes/assumptions/23.md) -/
def accessCheck (p : Part) (c : Core) (slot : Nat) (i : Instr) : Option Bad :=
  match i with
  | .dact _ vch bank h row => dactCheck p vch bank h row (c.h h)
  | .drd _ vch bank _ _ _ => serviceCheck p vch bank
  | .dwr _ vch bank _ _ _ => (serviceCheck p vch bank).or (writeCheck p vch bank)
  | .dpre _ vch bank all => if all = 1 then none else serviceCheck p vch bank
  | .dref _ vch bank => serviceCheck p vch bank
  | .enq _ rs rd _ _ _ kind _ => (enqBounds p.t3 kind rs rd (c.record slot rs) (c.record slot rd)).map boundsBad
  | .fput _ rs rd _ _ _ => (fputBounds p.t3 rs rd (c.record slot rs) (c.record slot rd)).map boundsBad
  | .aop _ r _ size _ _ _ _ _ _ => (aopBounds p.t3 r size (c.record slot r)).map boundsBad
  | .fsend _ r _ _ _ => (fsendBounds p.taskCores r p.isLocal (c.record slot r)).map boundsBad
  | _ => none

/-! ### Check 8: LEAVE (11_products R177, R178) -/

/-- The lane is idle in a cycle: no multiply yet, or the last one issued 256 or more cycles earlier. -/
def Core.laneIdle (c : Core) (lane pt : Nat) : Bool :=
  match tfind c.lastMul lane with
  | none => true
  | some m => decide (m + 256 ≤ pt)

/-- A notice serves a multiply at `pt`: 64 to 4,096 cycles old and not used up. -/
def Core.noticed (c : Core) (lane pt : Nat) : Bool :=
  c.notices.any fun n => decide (n.1 = lane ∧ n.2 + 64 ≤ pt ∧ pt ≤ n.2 + 4096)

def multiplyCheck (c : Core) (lane pt : Nat) : Option Bad :=
  if c.laneIdle lane pt && !c.noticed lane pt then some ⟨8, 0x11, lane⟩ else none

/-- Lanes announced in the window of 64 cycles that ends at a PT, by the cores of this device, and by those of other devices as far as their
reports have come (11_products R178). (DESIGN CHOICE: notes/assumptions/102.md) -/
def Part.announcedTo (p : Part) (last : Nat) : Nat :=
  (p.leaves.filter fun l => decide (l.1 ≤ last ∧ last < l.1 + 64)).foldl (fun a l => a + l.2) 0

/-- The most that any window of 64 cycles which holds a PT has announced (11_products R178): those that end later matter where another device
has told of a LEAVE at a later PT. -/
def Part.announced (p : Part) (pt : Nat) : Nat := ((List.range 64).map fun i => p.announcedTo (pt + i)).foldl max 0

/-- The slew budget of the running task (11_products R178). -/
def Part.budget (p : Part) : Nat := (p.task.map fun t => t.budget).getD 0

def leaveBad (mask used : Nat) : Bad := ⟨8, 0x12, mask + used % 2 ^ 16 * 2 ^ 16⟩

/-- Check 8. -/
def loadCheck (p : Part) (c : Core) (pt : Nat) (i : Instr) : Option Bad :=
  match i with
  | .mmul _ q _ _ => multiplyCheck c q pt
  | .mmac _ q _ _ => multiplyCheck c q pt
  | .leave _ mask => if p.budget < p.announced pt + popcount 4 mask then some (leaveBad mask (p.announced pt)) else none
  | _ => none

/-! ### Check 9: DRAM states, timing and collisions (09_memory R134 to R136) -/

/-- The five commands. -/
inductive DCmd where
  | act
  | rd
  | wr
  | pre
  | ref
deriving DecidableEq, Repr

/-- The earlier event is fewer than `d` cycles old. -/
def near (x : Option Nat) (pt d : Nat) : Bool :=
  match x with
  | none => false
  | some t => decide (pt < t + d)

/-- The rule that a command breaks: 0 a state rule, else the lowest row of the table of R136. -/
def dramRule (p : Part) (cmd : DCmd) (vch b pt : Nat) : Option Nat :=
  let k := p.bank vch b
  let c := p.chan vch
  let column := decide (cmd = .rd) || decide (cmd = .wr)
  let opens := decide (cmd = .act) || decide (cmd = .ref)
  let state := match k.st with
    | .idle => !column
    | .active _ _ => !opens
    | .refreshing _ => false
  let closes := decide (cmd = .pre) && (match k.st with
    | .active _ _ => true
    | _ => false)
  firstBad
    [ (!state, 0)
    , (column && near k.act pt 12, 1)
    , (opens && near k.pre pt 12, 2)
    , (closes && (near k.act pt 20 || (match k.act with
        | some t => decide (t + 35000 < pt)
        | none => false)), 3)
    , (decide (cmd = .act) && near k.act pt 32, 4)
    , (decide (cmd = .act) && c.acts.any fun a => decide (a.2 ≠ b ∧ pt < a.1 + 3), 5)
    , (decide (cmd = .act) && decide (4 ≤ (c.acts.filter fun a => decide (pt < a.1 + 16)).length), 6)
    , (decide (cmd = .rd) && near c.wr pt 6, 7)
    , (decide (cmd = .wr) && near c.rd pt 4, 8)
    , (closes && near k.wr pt 14, 9)
    , (near k.ref pt 108, 10)
    , (decide (pt % 8 = 7), 11) ]

def timingBad (vch b rule : Nat) : Bad := ⟨9, 0x31, bankDetail vch b + rule * 2 ^ 11⟩

def timingCheck (p : Part) (cmd : DCmd) (pt vch b : Nat) : Option Bad := (dramRule p cmd vch b pt).map (timingBad vch b)

/-- The lowest failing bank of a list (09_memory R136). -/
def timingAll (p : Part) (cmd : DCmd) (pt vch : Nat) : List Nat → Option Bad
  | [] => none
  | b :: r => (timingCheck p cmd pt vch b).or (timingAll p cmd pt vch r)

/-- No command of a channel issues in a service window, not even one that names no bank (20_ref_a_d R307). -/
def windowCheck (pt vch : Nat) : Option Bad := if pt % 8 = 7 then some (timingBad vch 0 11) else none

/-- The vchannel that a command uses. -/
def commandChannel (i : Instr) : Option Nat :=
  match i with
  | .dact _ vch _ _ _ => some vch
  | .drd _ vch _ _ _ _ => some vch
  | .dwr _ vch _ _ _ _ => some vch
  | .dpre _ vch _ _ => some vch
  | .dref _ vch _ => some vch
  | _ => none

def collisionBad (vch second : Nat) : Bad := ⟨9, 0x32, vch + second * 2 ^ 16⟩

/-- Another command has issued on the channel in this cycle. -/
def collisionCheck (p : Part) (v pt : Nat) (i : Instr) : Option Bad :=
  match commandChannel i with
  | none => none
  | some vch =>
    match (p.chan vch).last with
    | none => none
    | some (t, other) => if t = pt then some (collisionBad vch (max v other)) else none

/-- Check 9. -/
def dramCheck (p : Part) (v pt : Nat) (i : Instr) : Option Bad :=
  (match i with
    | .dact _ vch b _ _ => timingCheck p .act pt vch b
    | .drd _ vch b _ _ _ => timingCheck p .rd pt vch b
    | .dwr _ vch b _ _ _ => timingCheck p .wr pt vch b
    | .dpre _ vch b all =>
      if all = 1 then (timingAll p .pre pt vch (p.programBanks vch)).or (windowCheck pt vch) else timingCheck p .pre pt vch b
    | .dref _ vch b => timingCheck p .ref pt vch b
    | _ => none).or (collisionCheck p v pt i)

/-! ### Check 10: banks and slices (09_memory R125, R130) -/

/-- Two touches meet: the same place in the same cycle. (DEDUCED: notes/assumptions/24.md) -/
def Touch.meets (a b : Touch) : Bool := decide (a.place = b.place ∧ a.cycle = b.cycle)

/-- The detail of a bank conflict. -/
def Touch.detail (t : Touch) : Nat := if t.place < 16 then t.line else 2 ^ 12 + (t.place - 16)

/-- A touch falls in a maintenance cycle (02_time R31). -/
def Touch.maintenance (t : Touch) : Bool := decide (t.cycle % 256 = 255)

/-- The first touch of a list that falls in a maintenance cycle, meets a taken one, or meets another of its own op.
(DEDUCED: notes/assumptions/24.md) -/
def firstClash (taken : List Touch) (own : List Touch) : Option Touch :=
  (own.filter fun t => t.maintenance || taken.any t.meets || decide (1 < (own.filter t.meets).length)).head?

def clashBad (t : Touch) : Bad := ⟨10, 0x30, t.detail⟩

/-- Check 10. -/
def bankCheck (c : Core) (slot pt t0 : Nat) (st : Sticky) (i : Instr) : Option Bad :=
  (firstClash c.touches (touchesOf c slot pt t0 st i)).map clashBad

/-! ### Checks 11 and 12 -/

/-- Check 11: initiation interval (11_products R169). -/
def intervalCheck (c : Core) (pt : Nat) (i : Instr) : Option Bad :=
  match i with
  | .mmul _ q _ _ => go q
  | .mmac _ q _ _ => go q
  | _ => none
where
  go (lane : Nat) : Option Bad :=
    match tfind c.lastMul lane with
    | none => none
    | some m => if pt < m + 4 then some ⟨11, 0x34, lane + 256 * (pt - m)⟩ else none

/-- The partition that LAUNCH's queue number names: its own for 63, else the entry of its tenant's table (15_tasks R231; 21_ref_e_m
R325). -/
def launchQueue (s : State) (vf q : Nat) : Option Nat :=
  if q = 63 then some vf
  else if q < 40 then tfind (tget ⟨0, []⟩ s.tenants (s.part vf).tenant).queues q
  else none

/-- Check 12. -/
def stackCheck (s : State) (vf : Nat) (c : Core) (i : Instr) : Option Bad :=
  match i with
  | .call _ _ => if 8 ≤ c.rstack.length then some ⟨12, 0x62, 0⟩ else none
  | .ret _ => if c.rstack.isEmpty then some ⟨12, 0x62, 1⟩ else none
  | .launch _ kq kn =>
    if (launchQueue s vf (c.k kq).toNat).isNone then some ⟨12, 0x64, 0⟩
    else if (c.k kn).toNat % 64 ≠ 0 then some ⟨12, 0x64, 1⟩
    else none
  | _ => none

/-- THE CHECKS OF ONE OP at its issue, in the order of 03_core R47 from check 4 on; with a false condition only the encoding is checked
(R39). -/
def opCheck (s : State) (vf v slot : Nat) (st : Sticky) (g : Guard) (i : Instr) : Option Bad :=
  let p := s.part vf
  let c := p.core v
  if taskLimit p i then some ⟨4, 1, opWords i⟩
  else if c.holds g then
    ((((((sleepCheck c slot p.pt p.t0 st i).or (accessCheck p c slot i)).or (loadCheck p c p.pt i)).or (dramCheck p v p.pt i)).or
      (bankCheck c slot p.pt p.t0 st i)).or (intervalCheck c p.pt i)).or (stackCheck s vf c i)
  else none

/-- The record of an issue-time fault of an op (16_faults R242). -/
def issueFault (p : Part) (v slot : Nat) (b : Bad) : FRec :=
  { code := b.code, vcore := v, slot := slot, cls := 0, more := false, baddr := (p.core v).cur, pt := p.pt, stoppt := p.pt
    detail := b.detail }

end Sys2Proof.Machine
end

