-- ==== Sys2Proof/Machine/Issue.lean ====
section
/-! DEFINITION. The issue of one op: its checks, the effects that it puts in flight, its touches, and its step (03_core R39, R43, R47;
16_faults R239, R244). Every op's meaning is a call of `issueOp` or of one of its forms. -/

namespace Sys2Proof.Machine

/-! ### Addresses in the instruction store (04_encoding R53, R55, R56) -/

/-- The word at a signed word address; zero where none is stored. -/
def Core.word (c : Core) (a : Int) : Nat := if a < 0 then 0 else (tget 0 c.store a.toNat).toNat

/-- Words that an op word and its extension take. -/
def opLength (w : Nat) : Nat := 1 + w / 2 ^ 31 % 2

/-- Words of the present slots from slot number `7 − n` on, the next one standing at `a`. -/
def Core.opWords (c : Core) (pres : Nat) : Nat → Int → Nat
  | 0, _ => 0
  | n + 1, a =>
    if pres / 2 ^ (6 - n) % 2 = 1 then
      let l := opLength (c.word a)
      l + c.opWords pres n (a + l)
    else c.opWords pres n a

/-- Words of the bundle whose header stands at `a` (04_encoding R53). -/
def Core.bundleLength (c : Core) (a : Int) : Nat := 1 + c.opWords (c.word a % 128) 7 (a + 1)

/-- The address `n` bundles after one that stands at `a`. -/
def Core.afterBundles (c : Core) : Nat → Int → Int
  | 0, a => a
  | n + 1, a => c.afterBundles n (a + c.bundleLength a)

/-- A header names a slot (04_encoding R53). -/
def headerHas (h slot : Nat) : Bool := decide (h / 2 ^ slot % 2 = 1)

/-- The present slots of a bundle, from slot number `7 − n` on, with their words. -/
def Core.presentOps (c : Core) (pres : Nat) : Nat → Int → List (Nat × Sticky)
  | 0, _ => []
  | n + 1, a =>
    if headerHas pres (6 - n) then
      let w := c.word a
      let x := if w / 2 ^ 31 % 2 = 1 then c.word (a + 1) else 0
      (6 - n, ⟨BitVec.ofNat 32 w, BitVec.ofNat 32 x, 0, 0⟩) :: c.presentOps pres n (a + opLength w)
    else c.presentOps pres n a

/-- The target of a word offset from the current header (04_encoding R56). -/
def Core.target (c : Core) (w off : Nat) : Int := c.cur + signed w off

/-! ### Uncorrectable errors met by a read in the issue cycle (16_faults R241) -/

/-- A register's index among the marks of memory 4: 64 × file + number, the files in the order s, k, v, w, ia, ib, im, x, y, z, q, h, p; the
last holds FMT, G, WA and WB. -/
def regMark (file n : Nat) : Nat := 64 * file + n

/-- Mark of a V register of a slot. -/
def vMark (slot n : Nat) : Nat := regMark (if slot = 3 then 3 else 2) n

/-- Mark of a V address register of a slot. -/
def aMark (slot n : Nat) : Nat := regMark (if slot = 3 then 5 else 4) n

/-- Mark of a record of a slot. -/
def rMark (slot n : Nat) : Nat := regMark (if slot = 6 then 8 else 7) n

/-- The source registers of an op that are read in its issue cycle; BRK's read depends on whether breaks are enabled (brkSpoilt). -/
def sourcesOf (slot : Nat) (i : Instr) : List Nat :=
  match i with
  | .loop _ kn ki _ _ _ _ => [regMark 1 kn, regMark 1 ki]
  | .xlt _ _ ka => [regMark 1 ka]
  | .setfmt _ ka => [regMark 1 ka]
  | .launch _ kq kn => [regMark 1 kq, regMark 1 kn]
  | .kcp _ _ ka => [regMark 1 ka]
  | .xcpK _ _ _ r _ => [regMark 1 r]
  | .add _ _ a b | .sub _ _ a b | .mul _ _ a b | .andOp _ _ a b | .orOp _ _ a b | .xorOp _ _ a b | .shl _ _ a b | .shr _ _ a b
  | .sar _ _ a b => [regMark 0 a, regMark 0 b]
  | .addImm _ _ a _ | .addi _ _ a _ | .subImm _ _ a _ | .mulImm _ _ a _ | .andImm _ _ a _ | .orImm _ _ a _ | .xorImm _ _ a _
  | .shlImm _ _ a _ | .shrImm _ _ a _ | .sarImm _ _ a _ | .clz _ _ a | .popc _ _ a => [regMark 0 a]
  | .adc _ _ a b _ _ | .sbb _ _ a b _ _ => [regMark 0 a, regMark 0 b]
  | .mulh _ _ a b _ | .div _ _ a b _ | .minOp _ _ a b _ | .maxOp _ _ a b _ => [regMark 0 a, regMark 0 b]
  | .lih _ d _ => [regMark 0 d]
  | .sel _ _ a b _ => [regMark 0 a, regMark 0 b]
  | .cmp _ _ a b _ _ im _ => if im = 1 then [regMark 0 a] else [regMark 0 a, regMark 0 b]
  | .lds _ _ a _ _ _ => [regMark 0 a]
  | .sts _ d a _ _ => [regMark 0 d, regMark 0 a]
  | .xcpS _ _ _ r _ => [regMark 0 r]
  | .vadd _ _ a b _ | .vsub _ _ a b _ | .vmul _ _ a b _ | .vmin _ _ a b _ | .vmax _ _ a b _ | .vand _ _ a b _ | .vor _ _ a b _
  | .vxor _ _ a b _ | .vshl _ _ a b _ | .vshr _ _ a b _ | .vsar _ _ a b _ | .vperm _ _ a b _ | .vrng _ _ a b _ =>
    [vMark slot a, vMark slot b]
  | .vaddLong _ _ a b _ _ _ _ _ _ _ _ _ | .vsubLong _ _ a b _ _ _ _ _ _ _ _ _ | .vmulLong _ _ a b _ _ _ _ _ _ _ _ _
  | .vminLong _ _ a b _ _ _ _ _ _ _ _ _ | .vmaxLong _ _ a b _ _ _ _ _ _ _ _ _ => [vMark slot a, vMark slot b]
  | .vfma _ _ a b _ r _ _ _ _ _ _ _ _ _ _ => [vMark slot a, vMark slot b, vMark slot r]
  | .vcmp _ _ a b _ _ _ _ _ _ => [vMark slot a, vMark slot b]
  | .vsel _ _ a b _ r => [vMark slot a, vMark slot b, vMark slot r]
  | .vcvt _ _ a _ _ _ _ _ _ _ _ => [vMark slot a]
  | .vrcp _ _ a _ | .vrsq _ _ a _ | .vexp _ _ a _ | .vlog _ _ a _ | .vsum _ _ a _ | .vrmax _ _ a _ | .vbcast _ _ a _ | .vpopc _ _ a _ =>
    [vMark slot a]
  | .vrcpLong _ _ a _ _ _ _ _ _ _ | .vrsqLong _ _ a _ _ _ _ _ _ _ | .vexpLong _ _ a _ _ _ _ _ _ _ | .vlogLong _ _ a _ _ _ _ _ _ _
  | .vsumLong _ _ a _ _ _ _ _ _ _ => [vMark slot a]
  | .vrmaxLong _ _ a _ _ _ => [vMark slot a]
  | .vbcastLong _ _ a _ _ => [vMark slot a]
  | .vld _ _ ar _ => [aMark slot ar]
  | .vldLong _ _ ar _ _ => [aMark slot ar]
  | .vst _ r ar _ => [vMark slot r, aMark slot ar]
  | .vstLong _ r ar _ _ => [vMark slot r, aMark slot ar]
  | .vany _ _ a => [vMark slot a]
  | .xcpV _ _ _ r _ => [vMark slot r]
  | .xcpVLane _ _ _ r _ _ => [vMark slot r]
  | .mpack _ _ im _ _ _ _ _ _ => [regMark 6 im]
  | .mldb _ _ _ im => [regMark 6 im]
  | .mldbLong _ _ _ im _ _ _ => [regMark 6 im]
  | .mmul _ _ z _ => [regMark 9 z]
  | .mmac _ _ z _ => [regMark 9 z]
  | .mext _ q im _ _ _ _ => [regMark 10 q, regMark 6 im]
  | .mcvt _ q im _ _ _ => [regMark 10 q, regMark 6 im]
  | .mshr _ q _ => [regMark 10 q]
  | .mneg _ q => [regMark 10 q]
  | .mldq _ _ im => [regMark 6 im]
  | .mldqLong _ _ im _ => [regMark 6 im]
  | .mstq _ q im => [regMark 10 q, regMark 6 im]
  | .mstqLong _ q im _ => [regMark 10 q, regMark 6 im]
  | .xcpM _ _ _ r _ => [regMark 9 r]
  | .dact _ _ _ h _ => [regMark 11 h]
  | .enq _ rs rd _ _ _ _ _ => [rMark slot rs, rMark slot rd]
  | .aop _ r _ _ _ _ _ _ _ _ => [rMark slot r]
  | .fsend _ r _ _ _ => [rMark slot r]
  | .fput _ rs rd _ _ _ => [rMark slot rs, rMark slot rd]
  | .xcpC _ _ _ r _ => [rMark slot r]
  | _ => []

/-- Marks of FMT, G, WA and WB. -/
def fmtMark : Nat := regMark 13 0
def gMark : Nat := regMark 13 1
def waMark : Nat := regMark 13 2
def wbMark : Nat := regMark 13 3

/-- Marks of predicates; p0 holds nothing. -/
def pMarks (ps : List Nat) : List Nat := (ps.filter fun n => decide (n ≠ 0)).map (regMark 12)

/-- The rounding mode is read: a floating type whose op names no mode of its own (06_numbers R88). -/
def modeMarks (t rmo : Nat) : List Nat := if 8 ≤ t ∧ rmo = 0 then [fmtMark] else []

/-- The predicates and control registers that an op reads in its issue cycle, beside its condition. -/
def controlsOf (i : Instr) : List Nat :=
  match i with
  | .adc _ _ _ _ ci _ | .sbb _ _ _ _ ci _ => pMarks [ci]
  | .sel _ _ _ _ p => pMarks [p]
  | .plog _ _ pa pb _ => pMarks [pa, pb]
  | .vadd _ _ _ _ t | .vsub _ _ _ _ t | .vmul _ _ _ _ t => modeMarks t 0
  | .vaddLong _ _ _ _ t _ _ _ _ _ _ _ rmo | .vsubLong _ _ _ _ t _ _ _ _ _ _ _ rmo | .vmulLong _ _ _ _ t _ _ _ _ _ _ _ rmo
  | .vminLong _ _ _ _ t _ _ _ _ _ _ _ rmo | .vmaxLong _ _ _ _ t _ _ _ _ _ _ _ rmo => modeMarks t rmo
  | .vfma _ _ _ _ t _ _ _ _ _ _ _ _ _ _ rmo => modeMarks t rmo
  | .vcvt _ _ _ t _ _ _ _ _ rmo dc => if dc < 16 then modeMarks (max t dc) rmo else []
  | .vrcp _ _ _ t | .vrsq _ _ _ t | .vexp _ _ _ t | .vlog _ _ _ t | .vsum _ _ _ t => modeMarks t 0
  | .vrcpLong _ _ _ t _ _ _ _ _ rmo | .vrsqLong _ _ _ t _ _ _ _ _ rmo | .vexpLong _ _ _ t _ _ _ _ _ rmo
  | .vlogLong _ _ _ t _ _ _ _ _ rmo | .vsumLong _ _ _ t _ _ _ _ _ rmo => modeMarks t rmo
  | .xcpV _ f _ _ _ => if f = 4 then [gMark] else []
  | .mpack _ _ _ _ _ _ _ _ _ => [gMark, waMark]
  | .mldb _ _ _ _ => [gMark, wbMark]
  | .mldbLong _ _ _ _ _ _ _ => [gMark, wbMark]
  | .mmul _ _ _ _ | .mmac _ _ _ _ | .mshr _ _ _ | .mldq _ _ _ | .mldqLong _ _ _ _ => [gMark]
  | .mext _ _ _ _ _ _ _ => [gMark]
  | .mcvt _ _ _ _ _ _ => [gMark]
  | _ => []

/-- The B-store entry that an op reads in its issue cycle. -/
def entrySource (i : Instr) : Option Nat :=
  match i with
  | .mmul _ q _ e => some (512 * q + e)
  | .mmac _ q _ e => some (512 * q + e)
  | _ => none

/-- The uncorrectable error that an op's reads in its issue cycle meet: memory, and entry or number of the register within its file (16_faults
R241) (DESIGN CHOICE: notes/assumptions/118.md). (DEDUCED: notes/assumptions/22.md) -/
def Core.issueError (c : Core) (slot : Nat) (i : Instr) : Option (Nat × Nat) :=
  match (sourcesOf slot i ++ controlsOf i).filter fun r => c.bad.contains (4, r) with
  | r :: _ => some (4, r % 64)
  | [] =>
    match entrySource i with
    | some e => if c.bad.contains (1, e) then some (1, e % 512) else none
    | none => none

/-- The uncorrectable error that the read of an op's condition meets; p0 holds nothing (03_core R36, R39). -/
def Core.guardError (c : Core) (g : Guard) : Option (Nat × Nat) :=
  match (pMarks [g.pred]).filter fun r => c.bad.contains (4, r) with
  | r :: _ => some (4, r % 64)
  | [] => none

/-! ### The issue of an op -/

/-- Sticky steps: the two counters moved by signed steps (03_core R43). -/
def Sticky.stepped (st : Sticky) (n1 : Nat) (d1 : Int) (n2 : Nat) (d2 : Int) : Sticky :=
  { st with adv1 := imod ((st.adv1 : Int) + d1) n1, adv2 := imod ((st.adv2 : Int) + d2) n2 }

/-- The sticky op of a slot changed. -/
def Core.setSlot (c : Core) (slot : Nat) (st : Sticky) : Core := { c with sticky := tput c.sticky slot st }

/-- The op's touches, reserved; an error met by its reads takes the place of its effects. (DEDUCED: notes/assumptions/22.md) -/
def issueEffects (i : Instr) (eff : State → State) (s : State) : State :=
  let slot := s.cursor.slot
  let c := s.hereCore
  let ts := touchesOf c slot s.here.pt s.here.t0 (c.slot slot) i
  match c.issueError slot i with
  | some e => s.onHere fun c => (c.reserve ts).issue s.here.pt slot [(1, .readError e.1 e.2)]
  | none => eff (s.onHere fun c => c.reserve ts)

/-- The effects of an op whose condition has been read; an op that meets an error there does not execute (16_faults R241).
(DEDUCED: notes/assumptions/22.md) -/
def guardedEffects (i : Instr) (g : Guard) (eff : State → State) (s : State) : State :=
  match s.hereCore.guardError g with
  | some e => s.onHere fun c => c.issue s.here.pt s.cursor.slot [(1, .readError e.1 e.2)]
  | none => if s.hereCore.holds g then issueEffects i eff s else s

/-- THE ISSUE OF AN OP in the slot that the cursor names: a failing check is a precise fault and nothing happens; otherwise its effects if
its condition is true, and its step in either case (03_core R39, R43, R47). -/
def issueOp (i : Instr) (g : Guard) (step : Sticky → Sticky) (eff : State → State) (s : State) : Host.Outcome State Fault Refusal :=
  let slot := s.cursor.slot
  let c := s.hereCore
  match opCheck s s.cursor.vf s.cursor.core slot (c.slot slot) g i with
  | some b => .next (raise s.cursor.vf (issueFault s.here s.cursor.core slot b) s)
  | none =>
    .next ((guardedEffects i g eff s).onHere fun c => c.setSlot slot (step (c.slot slot)))

/-- An op without a step that only puts effects in flight: latency and effect of each, from the core and the slot's sticky op. -/
def issueResults (i : Instr) (g : Guard) (f : Core → List (Nat × Eff)) (s : State) : Host.Outcome State Fault Refusal :=
  issueOp i g id (fun s => s.onHere fun c => c.issue s.here.pt s.cursor.slot (f c)) s

/-- An op that changes only its own core. -/
def issueCore (i : Instr) (g : Guard) (f : Nat → Core → Core) (s : State) : Host.Outcome State Fault Refusal :=
  issueOp i g id (fun s => s.onHere (f s.here.pt)) s

/-- An op that writes one register of a width that the destination's file fixes. -/
def issueReg (i : Instr) (g : Guard) (lat : Nat) (d : Dst) (f : Core → Nat) (s : State) : Host.Outcome State Fault Refusal :=
  issueResults i g (fun c => [(lat, .reg d (f c))]) s

/-! ### XCP destinations (03_core R48 to R50) -/

/-- The register that an XCP route names. -/
def xcpDst (f d u : Nat) : Dst :=
  match f with
  | 0 => .k d
  | 1 => .s d
  | 2 => .v d
  | 3 => .w d
  | 5 => .x d
  | 6 => .y d
  | _ =>
    match u with
    | 0 => .ia d
    | 1 => .ib d
    | _ => .im d

end Sys2Proof.Machine
end

