-- ==== Sys2Proof/Machine/COps.lean ====
section
/-! DEFINITION. The C ops: copies, DRAM commands, records and engine commands (09_memory R133 to R137, R143 to R145; 13_ordering R206 to R212;
18_fabric_host R274 to R276; 20_ref_a_d R298, R304 to R313; 21_ref_e_m R315 to R321; 22_ref_n_t R345 to R347; 03_core R49). -/

namespace Sys2Proof.Machine

/-! ### Copies -/

/-- CPY: line k is read at issue+1+k and written three cycles later; steps of 7 bits (20_ref_a_d R304). -/
def execCpy (g : Guard) (sstep dstep src dst cnt : Nat) (s : State) : Host.Outcome State Fault Refusal :=
  issueOp (.cpy g sstep dstep src dst cnt) g (fun st => st.stepped 4096 (signed 7 sstep) 4096 (signed 7 dstep)) (fun s => s.onHere fun c =>
    let st := c.slot s.cursor.slot
    c.issue s.here.pt s.cursor.slot ((List.range (cnt + 1)).map fun k =>
      (1 + k, .cpyRead ((src + st.adv1 + k) % 4096) ((dst + st.adv2 + k) % 4096)))) s

/-- CPYX: line k is read at issue+1+k and lands 47 cycles later; steps of 5 bits (20_ref_a_d R305). -/
def execCpyx (g : Guard) (core sstep dstep src dst cnt : Nat) (s : State) : Host.Outcome State Fault Refusal :=
  issueOp (.cpyx g core sstep dstep src dst cnt) g (fun st => st.stepped 4096 (signed 5 sstep) 4096 (signed 5 dstep)) (fun s =>
    s.onHere fun c =>
      let st := c.slot s.cursor.slot
      c.issue s.here.pt s.cursor.slot ((List.range (cnt + 1)).map fun k =>
        (1 + k, .cpyxRead core ((src + st.adv1 + k) % 4096) ((dst + st.adv2 + k) % 4096)))) s

/-! ### DRAM commands (09_memory R133 to R137) -/

/-- Byte address of a column by virtual channel (09_memory R131). -/
def columnAddr (vch bank row col : Nat) : Nat := vch * 2 ^ 32 + bank * 2 ^ 28 + row % 65536 * 2 ^ 12 + col % 16 * 2 ^ 8

/-- The byte address in the device's DRAM of an address by virtual channel: the channel is rebound, nothing else changes (R131). -/
def Part.dramAddr (p : Part) (a : Nat) : Nat := tget (a / 2 ^ 32) p.chanTable (a / 2 ^ 32) * 2 ^ 32 + a % 2 ^ 32

/-- The open row of a bank. -/
def BankState.row : BankState → Nat
  | .active row _ => row
  | _ => 0

/-- The channel's last command is this core's in this cycle. -/
def Part.commanded (p : Part) (vch core : Nat) (f : Chan → Chan) : Part :=
  p.setChan vch { f (p.chan vch) with last := some (p.pt, core) }

/-- DACT: the row opens, with the handle's permission (20_ref_a_d R308). -/
def Part.activate (p : Part) (core vch bank row : Nat) (wp : Bool) : Part :=
  (p.setBank vch bank { p.bank vch bank with st := .active (row % 65536) wp, act := some p.pt }).commanded vch core fun c =>
    { c with acts := (c.acts.filter fun a => decide (p.pt < a.1 + 16)) ++ [(p.pt, bank)] }

def execDact (g : Guard) (vch bank h row : Nat) (s : State) : Host.Outcome State Fault Refusal :=
  issueOp (.dact g vch bank h row) g id (fun s =>
    let hd := s.hereCore.h h
    s.onPart s.cursor.vf fun p => p.activate s.cursor.core vch bank (hd.prow + row) hd.wp) s

/-- The step of DRD and DWR: 6 bits, added to the line and the column (20_ref_a_d R311). -/
def dramStep (step : Nat) (st : Sticky) : Sticky := st.stepped 4096 (signed 6 step) 512 (signed 6 step)

/-- The column a DRD or DWR names in the open row, by virtual channel. -/
def Part.column (p : Part) (vch bank col : Nat) : Nat := columnAddr vch bank (p.bank vch bank).st.row col

/-- The row of an uncorrectable array error at a DRAM byte address (16_faults R241). -/
def dramError (s : State) (a : Nat) : Option Nat := if s.dramBad.contains (a / 4096) then some (a / 4096 % 65536) else none

/-- DRD: the array is read at issue, and the line lands at issue+40 (20_ref_a_d R311). -/
def execDrd (g : Guard) (vch bank col line step : Nat) (s : State) : Host.Outcome State Fault Refusal :=
  issueOp (.drd g vch bank col line step) g (dramStep step) (fun s =>
    let st := s.hereCore.slot s.cursor.slot
    let a := s.here.dramAddr (s.here.column vch bank (col + st.adv2))
    let data : Line := BitVec.ofNat 2048 (leNat (memRead s.dram a 256))
    (s.onHere fun c => c.issue s.here.pt s.cursor.slot [(40, .drd ((line + st.adv1) % 4096) data (dramError s a))]).onPart s.cursor.vf
      fun p => p.commanded vch s.cursor.core fun c => { c with rd := some p.pt }) s

/-- DWR: the line is read and the column written at issue+2 (20_ref_a_d R313). -/
def execDwr (g : Guard) (vch bank col line step : Nat) (s : State) : Host.Outcome State Fault Refusal :=
  issueOp (.dwr g vch bank col line step) g (dramStep step) (fun s =>
    let st := s.hereCore.slot s.cursor.slot
    (s.onHere fun c => c.issue s.here.pt s.cursor.slot
      [(2, .dwrRead ((line + st.adv1) % 4096) (s.here.column vch bank (col + st.adv2)))]).onPart s.cursor.vf
      fun p => (p.setBank vch bank { p.bank vch bank with wr := some p.pt }).commanded vch s.cursor.core fun c => { c with wr := some p.pt }) s

/-- A precharge of a bank: an ACTIVE one closes; an IDLE one stays and restarts no window (09_memory R133). -/
def Part.close (p : Part) (vch bank : Nat) : Part :=
  match (p.bank vch bank).st with
  | .active _ _ => p.setBank vch bank { p.bank vch bank with st := .idle, pre := some p.pt }
  | _ => p

/-- DPRE of one bank, or of every program bank (20_ref_a_d R310). -/
def execDpre (g : Guard) (vch bank all : Nat) (s : State) : Host.Outcome State Fault Refusal :=
  issueOp (.dpre g vch bank all) g id (fun s => s.onPart s.cursor.vf fun p =>
    ((if all = 1 then p.programBanks vch else [bank]).foldl (fun p b => p.close vch b) p).commanded vch s.cursor.core fun c => c) s

/-- DREF: REFRESHING for 108 cycles; the deadline counts from here (20_ref_a_d R312). -/
def execDref (g : Guard) (vch bank : Nat) (s : State) : Host.Outcome State Fault Refusal :=
  issueOp (.dref g vch bank) g id (fun s => s.onPart s.cursor.vf fun p =>
    (p.setBank vch bank { p.bank vch bank with st := .refreshing (p.pt + 108), ref := some p.pt }).commanded vch s.cursor.core fun c => c) s

/-! ### Records -/

/-- RLD: the line is read at issue+1 and the record written at issue+4 (22_ref_n_t R345). -/
def execRld (g : Guard) (r line idx : Nat) (s : State) : Host.Outcome State Fault Refusal :=
  issueResults (.rld g r line idx) g (fun _ => [(1, .rld (decide (s.cursor.slot = 6)) r line idx)]) s

/-- RSET: the record is read at issue+1 and written at issue+2 (22_ref_n_t R347). -/
def execRset (g : Guard) (r fld val : Nat) (s : State) : Host.Outcome State Fault Refusal :=
  issueResults (.rset g r fld val) g (fun _ => [(1, .rset (decide (s.cursor.slot = 6)) r fld val)]) s

/-- A record copied to the other engine's file, or one word of it to s (03_core R49). -/
def xcpRecord (f d u : Nat) (r : Rec) : Eff :=
  match f with
  | 1 => .reg (.s d) (recField r (32 * u) 32)
  | 5 => .reg (.x d) r.toNat
  | _ => .reg (.y d) r.toNat

/-- XCP from CA or CB (03_core R49). -/
def execXcpC (g : Guard) (f d r u : Nat) (s : State) : Host.Outcome State Fault Refusal :=
  issueResults (.xcpC g f d r u) g (fun c => [(2, xcpRecord f d u (c.record s.cursor.slot r))]) s

/-! ### Engine commands (13_ordering R206 to R210) -/

/-- A command that the engine of a slot accepts, with the fences in force (13_ordering R205, R207). -/
def Core.newCmd (c : Core) (slot pt wake : Nat) (kind : CmdKind) (scope acq rel : Nat) (src dst : Rec) : Cmd :=
  { id := c.cmdCount, slot := slot, ipt := pt, baddr := c.cur, kind := kind, scope := scope, acq := decide (acq = 1), rel := decide (rel = 1)
    src := src, dst := dst, st := 0, phase := [], copies := [], operand := none, pieces := [], status := 0, statusAt := 0, bytes := 0
    resl := 0, flagl := 0, fences := c.fences, wake := wake, got := [], unmapped := false, queued := false
    old := none, resultDone := false, since := none }

/-- The command enters the engine. (DEDUCED: notes/assumptions/27.md) -/
def Core.accept (c : Core) (k : Cmd) : Core := { c with cmds := c.cmds ++ [k], cmdCount := c.cmdCount + 1 }

/-- A failing start check: nothing is performed, and the fault comes at issue+8 (too early) or at ST (the engine's phase is busy).
(DEDUCED: notes/assumptions/27.md) -/
def Core.doomed (c : Core) (pt st slot why : Nat) : Core :=
  ({ c with cmdCount := c.cmdCount + 1 }).sched
    ⟨if why = 0 then pt + 8 else st, pt, slot, c.cur, .enqFault c.cmdCount why⟩

/-- ENQ's timed reads: line `lo + k` at ST + k (21_ref_e_m R317). -/
def Core.readPhase (c : Core) (pt st slot kind : Nat) (src dst : Rec) (n : Nat) : Core :=
  { c with pend := c.pend ++ (List.range n).map fun (k : Nat) =>
      ⟨st + k, pt, slot, c.cur, .enqRead c.cmdCount (imod (phaseLow kind src dst + (k : Int)) 4096) k⟩ }

/-- ENQ accepted: its phase if the source is scratch. -/
def Core.enqueue (c : Core) (pt st slot wake kind scope acq rel : Nat) (src dst : Rec) : Core :=
  let n := if recSpace src = 0 then phaseLength kind src dst else 0
  (c.readPhase pt st slot kind src dst n).accept
    { c.newCmd slot pt wake (.enq kind) scope acq rel src dst with st := st, phase := List.range n, pieces := piecesOf kind src dst }

/-- ENQ (21_ref_e_m R315 to R317). -/
def execEnq (g : Guard) (rs rd scope acq rel kind off : Nat) (s : State) : Host.Outcome State Fault Refusal :=
  issueOp (.enq g rs rd scope acq rel kind off) g id (fun s =>
    let slot := s.cursor.slot
    let pt := s.here.pt
    let t0 := s.here.t0
    let src := s.hereCore.record slot rs
    let dst := s.hereCore.record slot rd
    match s.hereCore.enqStartFault slot pt t0 off src with
    | some why => s.onHere fun c => c.doomed pt (t0 + off) slot why
    | none =>
      let d := s.drawDelay
      d.2.onHere fun c => c.enqueue pt (t0 + off) slot (s.tabor + d.1) kind scope acq rel src dst) s

/-- FPUT (21_ref_e_m R319, R320). -/
def execFput (g : Guard) (rs rd scope rel flag : Nat) (s : State) : Host.Outcome State Fault Refusal :=
  issueOp (.fput g rs rd scope rel flag) g id (fun s =>
    let slot := s.cursor.slot
    let src := s.hereCore.record slot rs
    let dst := s.hereCore.record slot rd
    let d := s.drawDelay
    d.2.onHere fun c => c.accept
      { c.newCmd slot s.here.pt (s.tabor + d.1) .fput scope 0 rel src dst with pieces := piecesOf 0 src dst, flagl := flag }) s

/-- AOP: the operand line is read at issue+1 (20_ref_a_d R298; 13_ordering R210). -/
def execAop (g : Guard) (r fn size scope acq rel opl resl foff : Nat) (s : State) : Host.Outcome State Fault Refusal :=
  issueOp (.aop g r fn size scope acq rel opl resl foff) g id (fun s =>
    let slot := s.cursor.slot
    let loc := s.hereCore.record slot r
    let d := s.drawDelay
    d.2.onHere fun c =>
      (c.issue s.here.pt slot [(1, .aopRead c.cmdCount opl size)]).accept
        { c.newCmd slot s.here.pt (s.tabor + d.1) (.aop fn size) scope acq rel loc loc with
          resl := resl, flagl := imod ((resl : Int) + signed 8 foff) 4096 }) s

/-- Landing PTs of `n` lines that enter a port's queue from PT `c`, and the port's last landing afterwards: line k at c + C + 2k, never
less than 2 after the one before it in the queue (18_fabric_host R276). -/
def portQueue : Nat → Nat → Option Nat → List Nat × Option Nat
  | 0, _, last => ([], last)
  | n + 1, t, last =>
    let l := match last with
      | none => t
      | some p => max t (p + 2)
    let r := portQueue n (t + 2) (some l)
    (l :: r.1, r.2)

/-- FSEND (18_fabric_host R274 to R276). -/
def execFsend (g : Guard) (r line cnt port : Nat) (s : State) : Host.Outcome State Fault Refusal :=
  issueOp (.fsend g r line cnt port) g id (fun s =>
    let p := s.here
    let base := recBase (s.hereCore.record s.cursor.slot r)
    let q := portQueue (cnt + 1) (p.pt + p.delay) (tfind p.portLand port)
    (s.onHere fun c => c.issue p.pt s.cursor.slot (q.1.zipIdx.map fun e =>
      (1 + e.2, .fsendRead port (base / 2 ^ 20 % 512) ((line + e.2) % 4096) ((base / 256 + e.2) % 4096) e.1))).onPart s.cursor.vf
      fun p => { p with portLand := match q.2 with
        | none => p.portLand
        | some l => tput p.portLand port l }) s

end Sys2Proof.Machine
end

