-- ==== Sys2Proof/Machine/KOps.lean ====
section
/-! DEFINITION. The K ops: control transfers, loops, power, translation, format, synchronisation and tasks (08_loops R114 to R121; 10_translation
R147 to R150; 11_products R176 to R178; 12_power R183 to R189; 13_ordering R205; 14_determinism R217 to R221; 15_tasks R231, R234;
16_faults R248, R250; 20_ref_a_d to 23_ref_v_y). -/

namespace Sys2Proof.Machine

/-- NOP, in any slot: it touches nothing and reads not even its predicate (22_ref_n_t R339). -/
def execNop (_ : Guard) (s : State) : Host.Outcome State Fault Refusal := .next s

/-! ### Control transfers (08_loops R114, R115) -/

/-- A taken transfer: its target, after two delay bundles (03_core R45). -/
def Core.transfer (c : Core) (t : Int) : Core := { c with pending := some (t, 2) }

/-- BR (20_ref_a_d R300). -/
def execBr (g : Guard) (off : Nat) (s : State) : Host.Outcome State Fault Refusal :=
  issueCore (.br g off) g (fun _ c => c.transfer (c.target 19 off)) s

/-- CALL: the return address is that of the bundle after the second delay bundle. -/
def execCall (g : Guard) (off : Nat) (s : State) : Host.Outcome State Fault Refusal :=
  issueCore (.call g off) g (fun _ c => { c.transfer (c.target 19 off) with rstack := c.afterBundles 2 c.next :: c.rstack }) s

/-- The core with the top of its return stack popped and its transfer pending. -/
def Core.returned (c : Core) : Core :=
  match c.rstack with
  | [] => c
  | t :: r => { c.transfer t with rstack := r }

/-- RET (22_ref_n_t R344). -/
def execRet (g : Guard) (s : State) : Host.Outcome State Fault Refusal := issueCore (.ret g) g (fun _ c => c.returned) s

/-- The core parks at an address at the end of this cycle (16_faults R250). -/
def Core.parksAt (c : Core) (a : Int) : Core := { c with leaving := some .parked, parkAt := a }

/-- kN lowered by a clamp, with its record; nothing if it is low enough (08_loops R120, R121). The manual gives the write of kN no latency:
the model makes it in the issue cycle itself, before the test, so that a write of kN already due later overwrites it
(DESIGN CHOICE: notes/assumptions/87.md). -/
def Core.clampLoop (c : Core) (l : Loop) : Core :=
  let kn := (c.k l.kn).toNat
  let lim := (c.k l.ki).toNat + l.stages - 1
  if lim < kn then
    { c.put (.k l.kn) lim with clamp := some ⟨l.res, BitVec.ofNat 64 lim, c.k l.kn, l.ki, l.kn⟩ }
  else c

/-- The loop's test: k[KI] + STAGES − 1 < k[KN] (08_loops R117). -/
def Core.loopTest (c : Core) (l : Loop) : Bool := decide ((c.k l.ki).toNat + l.stages - 1 < (c.k l.kn).toNat)

/-- LOOP's effect: entered, or its body skipped. -/
def Core.enterLoop (c : Core) (clampOn : Bool) (l : Loop) : Core :=
  let c := if clampOn && l.cl then c.clampLoop l else c
  if c.loopTest l then { c with loop := some l } else { c with next := l.after }

/-- The loop that a LOOP op describes, from the bundle after it. -/
def Core.loopOf (c : Core) (kn ki body stages cl res : Nat) : Loop :=
  { start := c.next, after := c.afterBundles body c.next, body := body, stages := stages, kn := kn, ki := ki, cl := decide (cl = 1)
    res := c.target 31 res, done := 0 }

/-- LOOP (08_loops R116, R117); with CL = 1 it parks a core that holds a clamp record (R121). -/
def execLoop (g : Guard) (kn ki body stages cl res : Nat) (s : State) : Host.Outcome State Fault Refusal :=
  issueCore (.loop g kn ki body stages cl res) g (fun _ c =>
    if decide (cl = 1) && c.clamp.isSome then c.parksAt c.cur
    else c.enterLoop s.here.clampOn (c.loopOf kn ki body stages cl res)) s

/-- YIELD (16_faults R250): the core parks if CLAMP is in effect or it holds a clamp record. -/
def execYieldOp (g : Guard) (s : State) : Host.Outcome State Fault Refusal :=
  issueCore (.yieldOp g) g (fun _ c => if s.here.clampOn || c.clamp.isSome then c.parksAt c.next else c) s

/-- END (15_tasks R234): the core ends; it parks at this bundle instead if it holds a clamp record (08_loops R121). -/
def execEndOp (g : Guard) (s : State) : Host.Outcome State Fault Refusal :=
  issueCore (.endOp g) g (fun _ c => if c.clamp.isSome then c.parksAt c.cur else { c with leaving := some .ended }) s

/-- TRAP (16_faults R248): the partition stops at issue+1. -/
def execTrap (g : Guard) (code : Nat) (s : State) : Host.Outcome State Fault Refusal :=
  issueResults (.trap g code) g (fun _ => [(1, .trap code)]) s

/-! ### Debug break (04_encoding R54; 20_ref_a_d R301) -/

/-- The record of a debug break of a core's next bundle. -/
def breakRecord (p : Part) (v slot : Nat) : FRec :=
  { code := 0x72, vcore := v, slot := slot, cls := 0, more := false, baddr := (p.core v).nextAddr, pt := p.pt, stoppt := p.pt, detail := 0 }

/-- A debug break of a core: the partition stops, and the bundle will issue without breaking again. -/
def breakAt (vf v slot : Nat) (s : State) : State :=
  (raise vf (breakRecord (s.part vf) v slot) s).onCore vf v fun c => { c with broke := true }

/-- k[KA] holds an uncorrectable error, which BRK meets when it reads it: only while breaks are enabled (16_faults R241; 20_ref_a_d R301). -/
def brkSpoilt (p : Part) (c : Core) (ka : Nat) : Bool := p.breaks && c.bad.contains (4, regMark 1 ka)

/-- A BRK op stops its bundle's first issue: breaks are enabled, the class selected by k[KA] is armed, and no break was taken here. -/
def brkArmed (p : Part) (c : Core) (ka : Nat) : Bool :=
  p.breaks && decide (c.rep = 0) && !c.broke && !brkSpoilt p c ka && decide (p.breakMask.toNat / 2 ^ ((c.k ka).toNat % 64) % 2 = 1)

/-- BRK (20_ref_a_d R301): at the first attempt to issue its bundle it stops the partition if it is armed; otherwise it does nothing. -/
def execBrk (g : Guard) (ka : Nat) (s : State) : Host.Outcome State Fault Refusal :=
  issueOp (.brk g ka) g id (fun s =>
    if brkSpoilt s.here s.hereCore ka then s.onHere fun c => c.issue s.here.pt s.cursor.slot [(1, .readError 4 ka)]
    else if brkArmed s.here s.hereCore ka then breakAt s.cursor.vf s.cursor.core 0 s else s) s

/-! ### Power domains (12_power R182 to R189) -/

/-- Cycles from a wake's start to its ready PT (12_power R182). -/
def wakeLatency (d : Nat) (fromRetained : Bool) : Nat :=
  if d < 2 then (if fromRetained then 6 else 24)
  else if d < 6 then (if fromRetained then 12 else 96)
  else if d < 8 then (if fromRetained then 4 else 16)
  else if d < 24 then (if fromRetained then 8 else 48)
  else if d < 28 then (if fromRetained then 10 else 64)
  else (if fromRetained then 4 else 20)

/-- The weight of a wake (12_power R182): 2 for a PPA lane. -/
def wakeWeight (d : Nat) : Nat := if 2 ≤ d ∧ d < 6 then 2 else 1

/-- The weight that starts in the 32 cycles ending at `t`. -/
def windowWeight (ws : List (Nat × Nat × Nat)) (t : Nat) : Nat :=
  (ws.filter fun w => decide (t < w.1 + 32)).foldl (fun a w => a + w.2.1) 0

/-- The smallest cycle from `t` on, within `n` cycles, at which weight `w` fits (12_power R185). No window that holds a later cycle holds
more, since wakes start in issue order. -/
def wakeFrom (ws : List (Nat × Nat × Nat)) (w : Nat) : Nat → Nat → Nat
  | 0, t => t
  | n + 1, t => if w + windowWeight ws t ≤ 2 then t else wakeFrom ws w n (t + 1)

/-- The start chosen for a wake issued at `pt`. -/
def wakeStartOf (ws : List (Nat × Nat × Nat)) (w pt : Nat) : Nat :=
  let t := ws.foldl (fun a e => max a e.1) pt
  wakeFrom ws w 32 t

/-- The wake of a domain that is OFF or RETAINED (12_power R185). -/
def Core.wakeNow (c : Core) (pt d : Nat) (fr : Bool) : Core :=
  let t := wakeStartOf c.wakes (wakeWeight d) pt
  { c with
    domains := tput c.domains d (.waking (t + wakeLatency d fr) fr)
    wakes := c.wakes ++ [(t, wakeWeight d, d)]
    pend := c.pend ++ [⟨t, pt, 0, c.cur, .wakeStart d⟩] }

/-- WAKE (12_power R183 to R185). -/
def execWake (g : Guard) (dom mode : Nat) (s : State) : Host.Outcome State Fault Refusal :=
  issueCore (.wake g dom mode) g (fun pt c =>
    match c.dom dom with
    | .off => c.wakeNow pt dom false
    | .retained => c.wakeNow pt dom true
    | _ => c) s

/-- The state that a SLEEP takes a domain to at issue+1, if it changes (12_power R183): mode 0 .R, 1 .O. -/
def sleepState (st : DState) (mode : Nat) : Option DState :=
  match st with
  | .off => none
  | .waking _ fr => some (if mode = 0 ∧ fr = true then .retained else .off)
  | .on => some (if mode = 0 then .retained else .off)
  | .retained => if mode = 0 then none else some .off

/-- SLEEP (22_ref_n_t R352). -/
def execSleep (g : Guard) (dom mode : Nat) (s : State) : Host.Outcome State Fault Refusal :=
  issueResults (.sleep g dom mode) g (fun c =>
    match sleepState (c.dom dom) mode with
    | none => []
    | some st => [(1, .dom dom st)]) s

/-- WSTAT (12_power R189). -/
def execWstat (g : Guard) (kd dom : Nat) (s : State) : Host.Outcome State Fault Refusal :=
  issueReg (.wstat g kd dom) g 1 (.k kd) (fun c => (c.dom dom).code + 256 * (c.dom dom).readyBits) s

/-- Lanes announced at a PT count toward the slew budget; those that no window can hold with them any more are forgotten (11_products R178). -/
def Part.announce (p : Part) (pt lanes : Nat) : Part := { p with leaves := (p.leaves.filter fun l => decide (p.pt < l.1 + 64)) ++ [(pt, lanes)] }

/-- The partition's other devices are told of the lanes (11_products R178). (DESIGN CHOICE: notes/assumptions/102.md) -/
def tellLeave (vf v pt lanes : Nat) (s : State) : State := if (s.part vf).multi then s.emit (.leave vf v pt lanes) else s

/-- LEAVE (11_products R176 to R178; 21_ref_e_m R327): the lanes count toward the budget, and each has a notice. -/
def execLeave (g : Guard) (mask : Nat) (s : State) : Host.Outcome State Fault Refusal :=
  issueOp (.leave g mask) g id (fun s =>
    let pt := s.here.pt
    (tellLeave s.cursor.vf s.cursor.core pt (popcount 4 mask) (s.onPart s.cursor.vf fun p => p.announce pt (popcount 4 mask))).onHere
      fun c => { c with notices := c.notices ++ ((List.range 4).filter fun l => decide (mask / 2 ^ l % 2 = 1)).map fun l => (l, pt) }) s

/-! ### Translation (10_translation R146 to R150) -/

/-- The page covers a virtual address in units of 64 KiB. -/
def Page.covers (g : Page) (u : Nat) : Bool := decide (g.va ≤ u ∧ u < g.va + pageUnits g.size)

/-- The handle of a page (10_translation R148). (DEDUCED: notes/assumptions/29.md) -/
def Page.handle (g : Page) : Handle :=
  ⟨.valid, g.rp, g.wp, g.size, g.tier, g.va / 65536 % 128, g.va % 65536, g.phys % 65536⟩

/-- The MISS handle of an address: the 64 KiB page that holds it (10_translation R146). -/
def missHandle (u : Nat) : Handle := ⟨.miss, false, false, 0, 0, u / 65536 % 128, u % 65536, 0⟩

/-- An entry installed in a core's translation cache; the oldest gives way when it is full (10_translation R149).
(DEDUCED: notes/assumptions/63.md) -/
def Core.install (c : Core) (g : Page) : Core :=
  if c.tlb.contains g then c
  else { c with tlb := (if c.tlb.length < Config.coreCache then c.tlb else c.tlb.drop 1) ++ [g] }

/-- Physical core of a virtual core (17_partitions R260). -/
def Part.phys (p : Part) (v : Nat) : Nat := tget v p.coreTable v

/-- The other cores of the partition in the same cluster, on the same probe ring, whether or not the task runs on them (01_device R9;
10_translation R148). -/
def Part.ring (p : Part) (v : Nat) : List Nat :=
  (keys p.coreTable).filter fun o => decide (o ≠ v ∧ p.phys o / 16 = p.phys v / 16)

/-- The first entry that covers an address. -/
def lookup (u : Nat) (l : List Page) : Option Page := (l.filter fun g => g.covers u).head?

/-- The tower cache's entries of a partition, for the tower of a virtual core (10_translation R148, R149). -/
def towerPages (s : State) (vf v : Nat) : List Page :=
  ((tget [] s.towerTlb ((s.part vf).phys v / 128)).filter fun e => decide (e.1 = vf)).map fun e => e.2

/-- XLT's look-up in its order: the core's cache, the ring, the tower cache. Cores on one ring that issue XLTs in one cycle probe in ascending
order, a higher core seeing what a lower one has installed and displaced in this cycle; R149 does not say
(DESIGN CHOICE: notes/assumptions/107.md). -/
def translate (s : State) (vf v u : Nat) : Option Page :=
  let p := s.part vf
  ((lookup u (p.core v).tlb).or (lookup u ((p.ring v).map fun o => (p.core o).tlb).flatten)).or (lookup u (towerPages s vf v))

/-- The address is one that no page of the task can hold (10_translation R148). -/
def xltInvalid (p : Part) (a : Nat) : Bool := decide (2 ^ 39 ≤ a) || decide (p.vchannels ≤ a / 2 ^ 32)

/-- XLT (10_translation R147 to R149): the look-up and the install are made at issue, before the XLTs of higher cores in this cycle, and the
handle is written at issue+40. (DESIGN CHOICE: notes/assumptions/107.md) -/
def execXlt (g : Guard) (hd ka : Nat) (s : State) : Host.Outcome State Fault Refusal :=
  issueOp (.xlt g hd ka) g id (fun s =>
    let a := (s.hereCore.k ka).toNat
    let send (h : Handle) (s : State) : State := s.onHere fun c => c.issue s.here.pt s.cursor.slot [(40, .xlt hd a h)]
    if xltInvalid s.here a then send Handle.invalid s
    else
      match translate s s.cursor.vf s.cursor.core (a / 65536) with
      | none => send (missHandle (a / 65536)) s
      | some pg => send pg.handle (s.onHere fun c => c.install pg)) s

/-- HINV (10_translation R150). -/
def execHinv (g : Guard) (hd : Nat) (s : State) : Host.Outcome State Fault Refusal :=
  issueResults (.hinv g hd) g (fun _ => [(1, .handle hd Handle.invalid)]) s

/-! ### Format, K copies and clocks -/

/-- SETFMT from a k register (22_ref_n_t R351). (DEDUCED: notes/assumptions/26.md) -/
def execSetfmt (g : Guard) (ka : Nat) (s : State) : Host.Outcome State Fault Refusal :=
  issueReg (.setfmt g ka) g 4 .fmt (fun c => (c.k ka).toNat % 4) s

/-- SETFMT from its extension. (DEDUCED: notes/assumptions/26.md) -/
def execSetfmtLong (g : Guard) (val : Nat) (s : State) : Host.Outcome State Fault Refusal :=
  issueReg (.setfmtLong g val) g 4 .fmt (fun _ => val % 4) s

/-- TABR (02_time R32): PT or the Tabor of the issue cycle. (DESIGN CHOICE: notes/assumptions/9.md) -/
def execTabr (g : Guard) (kd clk : Nat) (s : State) : Host.Outcome State Fault Refusal :=
  issueReg (.tabr g kd clk) g 1 (.k kd) (fun _ => if clk = 0 then s.here.pt else s.reading) s

/-- KLI (21_ref_e_m R324). -/
def execKli (g : Guard) (kd imm : Nat) (s : State) : Host.Outcome State Fault Refusal :=
  issueReg (.kli g kd imm) g 1 (.k kd) (fun _ => (imm32 imm).toNat) s

/-- KCP (21_ref_e_m R323). -/
def execKcp (g : Guard) (kd ka : Nat) (s : State) : Host.Outcome State Fault Refusal :=
  issueReg (.kcp g kd ka) g 1 (.k kd) (fun c => (c.k ka).toNat) s

/-- XCP from K (03_core R49). -/
def execXcpK (g : Guard) (f d r u : Nat) (s : State) : Host.Outcome State Fault Refusal :=
  issueReg (.xcpK g f d r u) g 2 (xcpDst f d u) (fun c => (c.k r).toNat) s

/-! ### Barriers, phases, tasks and fences -/

/-- A barrier of the partition. -/
def Part.barrier (p : Part) (b : Nat) : Barrier := tget Barrier.fresh p.barriers b

def Part.setBarrier (p : Part) (b : Nat) (k : Barrier) : Part := { p with barriers := tput p.barriers b k }

/-- A barrier that other devices take part in: its arrivals count D Tabor cycles late (14_determinism R220). -/
def Part.remoteBarrier (p : Part) (b : Nat) : Bool := p.multi || p.remotes.any fun r => decide (r.1 = b)

/-- A member added to an arrival set; a second arrival changes nothing (14_determinism R219). -/
def Barrier.arrive (k : Barrier) (m : Nat) : Barrier := if k.arrived.contains m then k else { k with arrived := k.arrived ++ [m] }

/-- A member has arrived in the current generation, or its arrival is on its way (14_determinism R219, R220). -/
def Barrier.has (k : Barrier) (m : Nat) : Bool := k.arrived.contains m || k.inFlight.any fun e => decide (e.1 = m)

/-- An arrival at a barrier by a core of this device; a second one in a generation changes nothing (14_determinism R219, R220). -/
def arriveAt (vf v b : Nat) (s : State) : State :=
  let p := s.part vf
  let k := p.barrier b
  if k.has v then s
  else if p.remoteBarrier b then
    (s.setPart vf (p.setBarrier b { k with inFlight := k.inFlight ++ [(v, s.tabor + p.delay)] })).emit (.arrival vf b v)
  else s.setPart vf (p.setBarrier b (k.arrive v))

/-- BARA (20_ref_a_d R299). -/
def execBara (g : Guard) (bar : Nat) (s : State) : Host.Outcome State Fault Refusal :=
  issueOp (.bara g bar) g id (fun s => arriveAt s.cursor.vf s.cursor.core bar s) s

/-- The partition's other devices are told of a core that waits, and that this device will stand at the next PT: their barrier completes with
this one (14_determinism R217, R221). -/
def tellWait (vf v b : Nat) (s : State) : State :=
  if (s.part vf).multi then s.emit (.barrierWait vf b v ((s.part vf).barrier b).gen ((s.part vf).pt + 1)) else s

/-- The wait that a BARW begins; it is settled at the end of its cycle (14_determinism R221, R222). -/
def waitAt (vf v b beats : Nat) (s : State) : State :=
  (arriveAt vf v b (tellWait vf v b s)).onPart vf fun p =>
    let k := p.barrier b
    p.setBarrier b { k with waits := k.waits ++ [⟨v, p.pt, (p.core v).cur, Config.beat * beats⟩] }

/-- BARW without a timeout (14_determinism R221). -/
def execBarw (g : Guard) (bar : Nat) (s : State) : Host.Outcome State Fault Refusal :=
  issueOp (.barw g bar) g id (fun s => waitAt s.cursor.vf s.cursor.core bar 0 s) s

/-- BARW with a timeout of `beats` beats, none when it is 0 (14_determinism R222). -/
def execBarwTimeout (g : Guard) (bar beats : Nat) (s : State) : Host.Outcome State Fault Refusal :=
  issueOp (.barwTimeout g bar beats) g id (fun s => waitAt s.cursor.vf s.cursor.core bar beats s) s

/-- PHASE (14_determinism R217, R218): the counter advances in the next cycle. (DEDUCED: notes/assumptions/43.md) -/
def execPhase (g : Guard) (s : State) : Host.Outcome State Fault Refusal :=
  issueResults (.phase g) g (fun _ => [(1, .phase)]) s

/-- LAUNCH (15_tasks R231): queue and node address go to the dispatcher, which reads the node in wall time. -/
def execLaunch (g : Guard) (kq kn : Nat) (s : State) : Host.Outcome State Fault Refusal :=
  issueOp (.launch g kq kn) g id (fun s =>
    let c := s.hereCore
    let d := s.drawDelay
    d.2.onHere fun c' => { c' with launches := c'.launches ++
      [(c.cmdCount, (launchQueue s s.cursor.vf (c.k kq).toNat).getD s.cursor.vf, (c.k kn).toNat, s.tabor + d.1)] }) s

/-- FENCE (13_ordering R205): it orders the commands issued from this cycle on after those issued before. -/
def execFence (g : Guard) (scope kind : Nat) (s : State) : Host.Outcome State Fault Refusal :=
  issueCore (.fence g scope kind) g (fun _ c => { c with fences := c.fences ++ [(c.cmdCount, kind, scope)] }) s

end Sys2Proof.Machine
end

