-- ==== Sys2Proof/Machine/MOps.lean ====
section
/-! DEFINITION. The M ops of the Packed Product Array (11_products R156 to R180; 21_ref_e_m R331 to R337; 03_core R49). -/

namespace Sys2Proof.Machine

/-- The guard width as a number. -/
def Core.gw (c : Core) : Nat := c.g.toNat

/-! ### Guard and pack widths -/

/-- MGW (11_products R158). -/
def execMgw (g : Guard) (gw : Nat) (s : State) : Host.Outcome State Fault Refusal := issueReg (.mgw g gw) g 1 .g (fun _ => gw) s

/-- MGREQ (11_products R159). -/
def execMgreq (g : Guard) (ma mb n : Nat) (s : State) : Host.Outcome State Fault Refusal :=
  issueResults (.mgreq g ma mb n) g (fun _ => [(1, .reg .g (mgreqG ma mb n)), (1, .reg .wa ma), (1, .reg .wb mb)]) s

/-! ### Packing -/

/-- MPACK: the line is read at issue+1, z written at issue+6; a step of 11 bits (11_products R161; 21_ref_e_m R337).
(DEDUCED: notes/assumptions/25.md) -/
def execMpack (g : Guard) (z im off n rev str start step : Nat) (s : State) : Host.Outcome State Fault Refusal :=
  issueOp (.mpack g z im off n rev str start step) g (fun st => st.stepped 4096 (signed 11 step) 512 0) (fun s => s.onHere fun c =>
    c.issue s.here.pt s.cursor.slot
      [(1, .mpackRead z (c.mline im off (c.slot s.cursor.slot).adv1) c.gw c.wa.toNat n (str + 1) start (decide (rev = 1)))]) s

/-- MLDB's read at issue+1, from a line and to an entry of a slice (11_products R164). -/
def mldbEffect (lane entry im off : Nat) (st : Sticky) (c : Core) : Eff :=
  .mldbRead lane ((entry + st.adv2) % 512) (c.mline im off st.adv1) c.gw c.wb.toNat

/-- MLDB without steps (21_ref_e_m R334). (DEDUCED: notes/assumptions/25.md) -/
def execMldb (g : Guard) (lane entry im : Nat) (s : State) : Host.Outcome State Fault Refusal :=
  issueOp (.mldb g lane entry im) g id (fun s => s.onHere fun c =>
    c.issue s.here.pt s.cursor.slot [(1, mldbEffect lane entry im 0 (c.slot s.cursor.slot) c)]) s

/-- MLDB with a line step and an entry step of 9 bits each (21_ref_e_m R334). -/
def execMldbLong (g : Guard) (lane entry im off lstep estep : Nat) (s : State) : Host.Outcome State Fault Refusal :=
  issueOp (.mldbLong g lane entry im off lstep estep) g (fun st => st.stepped 4096 (signed 9 lstep) 512 (signed 9 estep))
    (fun s => s.onHere fun c =>
      c.issue s.here.pt s.cursor.slot [(1, mldbEffect lane entry im off (c.slot s.cursor.slot) c)]) s

/-! ### Multiplying (11_products R165, R166) -/

/-- A multiply's product under `g`: P, PE and BP. -/
def product (g : Nat) (a b : Packed) : Int × Int × Nat :=
  (polyValue g a.image * polyValue g b.image, a.exp.toInt + b.exp.toInt, a.bound * b.bound * min a.count b.count)

/-- A lane that multiplies: its last multiply, and the notices that it uses up (11_products R177). -/
def Core.multiplies (c : Core) (lane pt : Nat) : Core :=
  { c with
    lastMul := tput c.lastMul lane pt
    notices := c.notices.filter fun n => !decide (n.1 = lane ∧ n.2 < pt) }

/-- The product of z[A] and an entry of the lane's slice, under G of the issue cycle. -/
def Core.productOf (c : Core) (q z e : Nat) : Int × Int × Nat := product c.gw (c.z z) (c.entryOf q e)

/-- MMUL: the result is checked and written at issue+16 (11_products R166, R168). -/
def execMmul (g : Guard) (q z e : Nat) (s : State) : Host.Outcome State Fault Refusal :=
  issueCore (.mmul g q z e) g (fun pt c =>
    let r := c.productOf q z e
    (c.multiplies q pt).issue pt s.cursor.slot [(16, .mulRes q c.gw r.1 r.2.1 r.2.2)]) s

/-- MMAC: the accumulator is read at issue+15, and the result checked and written at issue+16 (11_products R166, R168). -/
def execMmac (g : Guard) (q z e : Nat) (s : State) : Host.Outcome State Fault Refusal :=
  issueCore (.mmac g q z e) g (fun pt c =>
    let r := c.productOf q z e
    (c.multiplies q pt).issue pt s.cursor.slot [(15, .mulRead q c.gw true r.1 r.2.1 r.2.2)]) s

/-! ### The accumulator in place (11_products R174) -/

/-- MCLR. -/
def execMclr (g : Guard) (q : Nat) (s : State) : Host.Outcome State Fault Refusal :=
  issueResults (.mclr g q) g (fun _ => [(1, .acc q Acc.zero)]) s

/-- MSHR. -/
def execMshr (g : Guard) (q k : Nat) (s : State) : Host.Outcome State Fault Refusal :=
  issueResults (.mshr g q k) g (fun c => [(4, .accChecked q (mshrValue c.gw k (c.q q)) (mshrFault c.gw k (c.q q)))]) s

/-- MNEG. -/
def execMneg (g : Guard) (q : Nat) (s : State) : Host.Outcome State Fault Refusal :=
  issueResults (.mneg g q) g (fun c => [(4, .accChecked q (mnegValue (c.q q)) (mnegFault q (c.q q)))]) s

/-! ### Extraction and the memory image (11_products R171 to R175) -/

/-- Byte address of line `line + k`. -/
def lineByte (line k : Nat) : Nat := 256 * ((line + k) % 4096)

/-- MEXT's effects: its lines from issue+10, or its range fault at issue+10 (11_products R172). -/
def mextEffects (wide first count line : Nat) (c : Core) (q : Nat) : List (Nat × Eff) :=
  let cs := coefficientRange c.gw first count (c.q q).q.toInt
  match mextRange wide first cs with
  | some d => [(10, .mextFault d)]
  | none => (mextLines wide cs).zipIdx.map fun e => (10 + e.2, .mext (lineByte line e.2) e.1)

/-- MEXT (21_ref_e_m R332). -/
def execMext (g : Guard) (q im first count wide off : Nat) (s : State) : Host.Outcome State Fault Refusal :=
  issueResults (.mext g q im first count wide off) g (fun c => mextEffects wide first count (c.mline im off 0) c q) s

/-- MCVT: line k is written at issue+8+k (11_products R173). -/
def execMcvt (g : Guard) (q im first count off : Nat) (s : State) : Host.Outcome State Fault Refusal :=
  issueResults (.mcvt g q im first count off) g (fun c =>
    (mcvtLines (c.q q).qe.toInt (coefficientRange c.gw first count (c.q q).q.toInt)).zipIdx.map fun e =>
      (8 + e.2, .storeBytes (lineByte (c.mline im off 0) e.2) e.1)) s

/-- MLDQ's three reads and its result (11_products R175). -/
def mldqEffects (q line : Nat) (c : Core) : List (Nat × Eff) :=
  [ (1, .mldqRead q 0 (line % 4096)), (2, .mldqRead q 1 ((line + 1) % 4096)), (3, .mldqRead q 2 ((line + 2) % 4096))
  , (12, .mldq q c.gw) ]

/-- MLDQ at offset 0 (21_ref_e_m R335). -/
def execMldq (g : Guard) (q im : Nat) (s : State) : Host.Outcome State Fault Refusal :=
  issueResults (.mldq g q im) g (fun c => mldqEffects q (c.mline im 0 0) c) s

/-- MLDQ with an offset. -/
def execMldqLong (g : Guard) (q im off : Nat) (s : State) : Host.Outcome State Fault Refusal :=
  issueResults (.mldqLong g q im off) g (fun c => mldqEffects q (c.mline im off 0) c) s

/-- MSTQ's three writes (11_products R175). -/
def mstqEffects (q line : Nat) (c : Core) : List (Nat × Eff) :=
  (List.range 3).map fun k => (10 + k, .storeBytes (lineByte line k) (accLine (c.q q) k))

/-- MSTQ at offset 0 (21_ref_e_m R335). -/
def execMstq (g : Guard) (q im : Nat) (s : State) : Host.Outcome State Fault Refusal :=
  issueResults (.mstq g q im) g (fun c => mstqEffects q (c.mline im 0 0) c) s

/-- MSTQ with an offset. -/
def execMstqLong (g : Guard) (q im off : Nat) (s : State) : Host.Outcome State Fault Refusal :=
  issueResults (.mstqLong g q im off) g (fun c => mstqEffects q (c.mline im off 0) c) s

/-- XCP from z to a vector register: the image only (03_core R49). -/
def execXcpM (g : Guard) (f d r u : Nat) (s : State) : Host.Outcome State Fault Refusal :=
  issueReg (.xcpM g f d r u) g 6 (if f = 3 then .w d else .v d) (fun c => (c.z r).image.toNat) s

end Sys2Proof.Machine
end

