-- ==== Sys2Proof/Machine/Effects.lean ====
section
/-! DEFINITION. The events at which effects in flight fall due: results, touches, landings, wakes and notices (03_core R37, R38; 09_memory R124 to
R130; 11_products R161 to R175; 12_power R183 to R188; 13_ordering R208, R212; 14_determinism R214 to R217; 16_faults R238 to R245). -/

namespace Sys2Proof.Machine

/-! ### Snare's check, and barrier waits that leave the phase open (14_determinism R214 to R217, R221) -/

/-- The 32-byte granules that bytes from an address touch. -/
def granules (addr n : Nat) : List Nat := (List.range ((addr % 32 + n + 31) / 32)).map fun i => addr / 32 + i

/-- A granule's shadow is another core's write of this phase. -/
def Core.racing (c : Core) (phase acc gr : Nat) : Bool :=
  match tfind c.shadow gr with
  | none => false
  | some (w, ph) => decide (ph = phase ∧ w ≠ acc)

/-- The detail of a race. -/
def raceDetail (c : Core) (phase acc gr : Nat) (write : Bool) : Nat :=
  gr + (tget (0, 0) c.shadow gr).1 * 2 ^ 15 + acc * 2 ^ 24 + phase * 2 ^ 33 + (if write then 2 ^ 40 else 0)

/-- The race fault of an access, at its lowest racing granule. -/
def raceFault (p : Part) (c : Core) (acc addr n : Nat) (write : Bool) : Option Flt :=
  if p.snare then
    (((granules addr n).filter fun gr => c.racing p.phase acc gr).head?).map fun gr => ⟨0x50, raceDetail c p.phase acc gr write⟩
  else none

/-- Barrier waits of this PT are not over (14_determinism R221). -/
def Part.waiting (p : Part) : Bool := (List.range 16).any fun b => !(p.barrier b).waits.isEmpty

/-- The partition waits at a barrier, so that it is open whether the phase advances at this PT: it does if the barrier completes, and not if the
wait fails (14_determinism R217, R221). -/
def Part.phaseOpen (p : Part) : Bool := p.snare && p.waiting && decide (p.phasedAt ≠ some p.pt)

/-- While that is open, an access that would race if the phase did not advance is not yet made: it is made in the new phase once the barrier
completes, and meets its race if the wait fails, or if a fault stops the partition before. Every other access of this PT is made at once, and
is one of the new phase until the wait fails (14_determinism R216, R217). (DEDUCED: notes/assumptions/43.md) -/
def Part.undecided (p : Part) : Bool := p.phaseOpen && !p.stops.any Stop.isFault

/-- An access whose fate the barrier wait decides, at a core's scratchpad: it races in the present phase; at a wrap of the counter, which clears
every granule, any access (14_determinism R216, R217). (DEDUCED: notes/assumptions/43.md) -/
def Part.doubtful (p : Part) (c : Core) (acc addr n : Nat) (write : Bool) : Bool :=
  p.undecided && (decide (p.phase = 127) || (raceFault p c acc addr n write).isSome)

/-- The access of a scratchpad that an effect in flight is: its first byte, its length, and whether it writes (09_memory R124). -/
def Eff.access (e : Eff) : Option (Nat × Nat × Bool) :=
  let line (l : Nat) : Option (Nat × Nat × Bool) := some (256 * (l % 4096), 256, false)
  match e with
  | .lds _ addr size _ => some (addr, 2 ^ size, false)
  | .rld _ _ l idx => some (256 * (l % 4096) + 32 * idx, 32, false)
  | .vld _ _ l => line l
  | .cpyRead l _ => line l
  | .cpyxRead _ l _ => line l
  | .fsendRead _ _ l _ _ => line l
  | .dwrRead l _ => line l
  | .mpackRead _ l _ _ _ _ _ _ => line l
  | .mldbRead _ _ l _ _ => line l
  | .mldqRead _ _ l => line l
  | .aopRead _ l _ => line l
  | .enqRead _ l _ => line l
  | .storeLine l _ => some (256 * (l % 4096), 256, true)
  | .storeBytes addr bs => some (addr % 2 ^ 20, bs.length, true)
  | .mext addr bs => some (addr % 2 ^ 20, bs.length, true)
  | _ => none

/-- An effect of a core waits for the end of a barrier wait. -/
def Part.holdsBack (p : Part) (v : Nat) (e : Pend) : Bool := e.eff.access.any fun a => p.doubtful (p.core v) v a.1 a.2.1 a.2.2

/-! ### Choosing the effect -/

/-- The order of effects within one cycle: the phase, sleeps, wakes (readiness of domains, which is no effect in flight, stands at 2),
results, later reads of registers, landings, touches, traps (03_core R37; 12_power R183; 14_determinism R217; 16_faults R239, R240).
(DEDUCED: notes/assumptions/31.md) (DEDUCED: notes/assumptions/32.md) -/
def Eff.rank : Eff → Nat
  | .phase => 0
  | .dom _ _ => 1
  | .wakeStart _ => 2
  | .mulRead _ _ _ _ _ _ => 4
  | .rset _ _ _ _ => 4
  | .drd _ _ _ => 5
  | .transit _ _ _ => 5
  | .lds _ _ _ _ => 6
  | .vld _ _ _ => 6
  | .rld _ _ _ _ => 6
  | .cpyRead _ _ => 6
  | .cpyxRead _ _ _ => 6
  | .fsendRead _ _ _ _ _ => 6
  | .dwrRead _ _ => 6
  | .mpackRead _ _ _ _ _ _ _ _ => 6
  | .mldbRead _ _ _ _ _ => 6
  | .mldqRead _ _ _ => 6
  | .aopRead _ _ _ => 6
  | .enqRead _ _ _ => 6
  | .enqFault _ _ => 6
  | .storeLine _ _ => 6
  | .storeBytes _ _ => 6
  | .mext _ _ => 6
  | .mextFault _ => 6
  | .readError _ _ => 6
  | .trap _ => 7
  | _ => 3

/-- One effect goes before another: by its rank, then the earlier issue, then the lower slot, so that the later write wins (03_core R38).
(DEDUCED: notes/assumptions/32.md) (DEDUCED: notes/assumptions/34.md) -/
def Pend.before (a b : Pend) : Bool := lexLt [a.eff.rank, a.ipt, a.slot] [b.eff.rank, b.ipt, b.slot]

/-- The effect that goes first; the earlier in the list among equals. (DEDUCED: notes/assumptions/34.md) -/
def firstPend : List Pend → Option Pend
  | [] => none
  | e :: r =>
    match firstPend r with
    | none => some e
    | some m => if m.before e then some m else some e

/-- The effects of a kind that are due at a core. -/
def Core.dueOf (c : Core) (pt : Nat) (kind : Eff → Bool) : List Pend := c.pend.filter fun e => decide (e.due ≤ pt) && kind e.eff

/-- The effects of a kind that are due at a core, but for those that wait for the end of a barrier wait. -/
def Part.dueOf (p : Part) (v : Nat) (kind : Eff → Bool) : List Pend := ((p.core v).dueOf p.pt kind).filter fun e => !p.holdsBack v e

/-- An effect is no longer in flight. -/
def Core.unpend (c : Core) (e : Pend) : Core := { c with pend := c.pend.erase e }

/-- The first due effect of a kind is performed; nothing where none is due. (DEDUCED: notes/assumptions/19.md) -/
def performDue (vf v : Nat) (kind : Eff → Bool) (f : Pend → State → State) (s : State) : State :=
  match firstPend ((s.part vf).dueOf v kind) with
  | none => s
  | some e => f e (s.onCore vf v fun c => c.unpend e)

/-- An effect's completion-time fault. -/
def failAt (vf v : Nat) (e : Pend) (f : Flt) (s : State) : State := raise vf (completionFault (s.part vf) v e f) s

/-- What an effect schedules for a later cycle keeps its op's bundle, slot and issue PT. -/
def Pend.later (e : Pend) (due : Nat) (eff : Eff) : Pend := { e with due := due, eff := eff }

/-! ### Power domains (12_power R182 to R188) -/

/-- The domain that holds what a mark of an uncorrectable error names: a bank, a slice, or a register's file; none for an always-on file and
the instruction store. -/
def markDomain (m : Nat × Nat) : Option Nat :=
  match m.1 with
  | 0 => some (8 + m.2 / 256)
  | 1 => some (24 + m.2 / 512)
  | 4 =>
    (match m.2 / 64 with
     | 2 => some 0
     | 3 => some 1
     | 7 => some 6
     | 8 => some 7
     | 9 => some 28
     | 10 => some (2 + m.2 % 64)
     | _ => none)
  | _ => none

/-- The contents of a domain made zero: registers, a bank with its shadow and poison, a slice. -/
def Core.zeroDomain (c : Core) (d : Nat) : Core :=
  if d = 0 then { c with vregs := [] }
  else if d = 1 then { c with wregs := [] }
  else if d < 6 then { c with qregs := tdel c.qregs (d - 2) }
  else if d = 6 then { c with xregs := [] }
  else if d = 7 then { c with yregs := [] }
  else if d < 24 then
    { c with
      scratch := c.scratch.filter fun e => decide (e.1 / 65536 ≠ d - 8)
      shadow := c.shadow.filter fun e => decide (e.1 / 2048 ≠ d - 8)
      poison := c.poison.filter fun l => decide (l / 256 ≠ d - 8) }
  else if d < 28 then { c with bstore := c.bstore.filter fun e => decide (e.1 / 512 ≠ d - 24) }
  else { c with zregs := [] }

/-- A domain loses its contents, and every error that stood in them (12_power R188). -/
def Core.clearDomain (c : Core) (d : Nat) : Core :=
  { c.zeroDomain d with bad := c.bad.filter fun m => decide (markDomain m ≠ some d) }

/-- A domain enters a state; OFF keeps nothing. -/
def Core.setDomain (c : Core) (d : Nat) (st : DState) : Core :=
  let c := { c with domains := tput c.domains d st }
  match st with
  | .off => c.clearDomain d
  | _ => c

/-- A WAKING domain becomes ON: from OFF its contents are zero, and a lane is idle (11_products R177; 12_power R185). -/
def Core.domainOn (c : Core) (d : Nat) (fromRetained : Bool) : Core :=
  let c := { c with domains := tput c.domains d .on }
  let c := if fromRetained then c else c.clearDomain d
  if 2 ≤ d ∧ d < 6 then { c with lastMul := tdel c.lastMul (d - 2) } else c

/-- DOMAIN_READY (12_power R183). -/
def execDomainReady (vf core dom : Nat) (s : State) : Host.Outcome State Fault Refusal :=
  .next (s.onCore vf core fun c =>
    match c.dom dom with
    | .waking r fr => if r ≤ (s.part vf).pt then c.domainOn dom fr else c
    | _ => c)

/-- The starts that a window ending at `pt` or later can still hold (12_power R185). -/
def Core.pruneWakes (c : Core) (pt : Nat) : Core := { c with wakes := c.wakes.filter fun w => decide (pt < w.1 + 32) }

/-- WAKE_START (12_power R185): a start whose window is past counts no more. -/
def execWakeStart (vf core dom : Nat) (s : State) : Host.Outcome State Fault Refusal :=
  .next (performDue vf core (fun e => decide (e = .wakeStart dom)) (fun _ s => s.onCore vf core fun c => c.pruneWakes (s.part vf).pt) s)

/-- A notice can serve no later multiply (11_products R177). -/
def lapsed (pt : Nat) (n : Nat × Nat) : Bool := decide (n.2 + 4096 < pt)

/-- NOTICE_LAPSE (11_products R177). -/
def execNoticeLapse (vf core : Nat) (s : State) : Host.Outcome State Fault Refusal :=
  .next (s.onCore vf core fun c => { c with notices := c.notices.filter fun n => !lapsed (s.part vf).pt n })

/-! ### The phase and the marks of lines (13_ordering R212; 14_determinism R214 to R217; 16_faults R241) -/

/-- The phase that a write made now leaves in its granules. -/
def Part.writePhase (p : Part) : Nat := if p.undecided then (p.phase + 1) % 128 else p.phase

/-- A write's granules take its accessor and phase. -/
def Core.shade (c : Core) (p : Part) (acc addr n : Nat) : Core :=
  if p.snare && (c.dom (8 + addr / 65536)).keeps then
    { c with shadow := (granules addr n).foldl (fun t gr => tput t gr (acc, p.writePhase)) c.shadow }
  else c

/-- The fault of a timed read: a race, a poisoned line, an uncorrectable error. -/
def readFault (p : Part) (c : Core) (v addr n : Nat) : Option Flt :=
  match raceFault p c v addr n false with
  | some f => some f
  | none =>
    if c.poison.contains (addr / 256) then some ⟨0x53, addr / 256⟩
    else if c.bad.contains (0, addr / 256) then some ⟨0x60, addr / 256 * 2 ^ 16⟩
    else none

/-- A TIMED READ of bytes at its touch: its fault suppresses it; else what it delivers. -/
def timedRead (vf v : Nat) (e : Pend) (addr n : Nat) (f : Nat → State → State) (s : State) : State :=
  match readFault (s.part vf) (s.core vf v) v addr n with
  | some flt => failAt vf v e flt s
  | none => f (leNat (memRead (s.core vf v).scratch addr n)) s

/-- A whole line read. -/
def readLine (vf v : Nat) (e : Pend) (line : Nat) (f : Nat → State → State) (s : State) : State :=
  timedRead vf v e (256 * (line % 4096)) 256 f s

/-- Bytes written by an accessor: the shadow takes it, and a whole line's poison is cleared (13_ordering R212). -/
def Core.written (c : Core) (p : Part) (acc addr : Nat) (bs : List Byte) : Core :=
  let c := (c.storeAt addr bs).shade p acc addr bs.length
  if bs.length = 256 then { c with poison := c.poison.filter fun l => decide (l ≠ addr / 256) } else c

/-- A TIMED WRITE of bytes at its touch: a race suppresses it. -/
def timedWrite (vf v : Nat) (e : Pend) (addr : Nat) (bs : List Byte) (s : State) : State :=
  match raceFault (s.part vf) (s.core vf v) v addr bs.length true with
  | some flt => failAt vf v e flt s
  | none => s.onCore vf v fun c => c.written (s.part vf) v addr bs

/-- A register result for a later cycle. -/
def deliver (vf v : Nat) (e : Pend) (lat : Nat) (d : Dst) (n : Nat) (s : State) : State :=
  s.onCore vf v fun c => c.sched (e.later (e.ipt + lat) (.reg d n))

/-- Every granule of a partition forgets its last write. -/
def Part.unshade (p : Part) : Part := { p with coreOf := p.coreOf.map fun e => (e.1, { e.2 with shadow := [] }) }

/-- The phase counter advances, once at a PT whatever asked for it; at the wrap every granule forgets (14_determinism R217; 22_ref_n_t R341).
(DEDUCED: notes/assumptions/43.md) -/
def Part.nextPhase (p : Part) : Part :=
  if p.snare && decide (p.phasedAt ≠ some p.pt) then
    let q := { p with phasedAt := some p.pt, phase := (p.phase + 1) % 128 }
    if p.phase = 127 then q.unshade else q
  else p

/-- A wait fails: the phase does not advance at this PT, and what was written as of the next phase is of the present one (14_determinism R217). -/
def Part.samePhase (p : Part) : Part :=
  if p.phaseOpen then
    { p with coreOf := p.coreOf.map fun (e : Nat × Core) =>
        (e.1, { e.2 with shadow := e.2.shadow.map fun (g : Nat × Nat × Nat) => (g.1, g.2.1, if g.2.2 = (p.phase + 1) % 128 then p.phase else g.2.2) }) }
  else p

/-! ### Results -/

def Eff.isRegister : Eff → Bool
  | .reg _ _ => true
  | .handle _ _ => true
  | .zres _ _ => true
  | .phase => true
  | .dom _ _ => true
  | .rset _ _ _ _ => true
  | .sent _ _ _ _ _ => true
  | .trap _ => true
  | .readError _ _ => true
  | _ => false

/-- A file's register written if its domain keeps results (12_power R185, R187). -/
def Core.setZ (c : Core) (z : Nat) (val : Packed) : Core := if (c.dom 28).keeps then { c with zregs := tput c.zregs z val } else c

def Core.setQ (c : Core) (lane : Nat) (val : Acc) : Core := if (c.dom (2 + lane)).keeps then { c with qregs := tput c.qregs lane val } else c

def Core.setEntry (c : Core) (lane entry : Nat) (val : Packed) : Core :=
  if (c.dom (24 + lane)).keeps then { c with bstore := tput c.bstore (512 * lane + entry) val } else c

/-- TRAP's record: class 3 (16_faults R248). -/
def trapFault (p : Part) (v : Nat) (e : Pend) (code : Nat) : FRec :=
  { completionFault p v e ⟨0x70, code⟩ with cls := 3 }

/-- A later read of a register that holds an uncorrectable error: its op's result is suppressed (16_faults R241). -/
def readLater (vf v mark : Nat) (e : Pend) (f : State → State) (s : State) : State :=
  if (s.core vf v).bad.contains (4, mark) then failAt vf v e ⟨0x60, 4 + mark % 64 * 2 ^ 16⟩ s else f s

/-- RSET's record, read at issue+1, gets its field at issue+2 (22_ref_n_t R347). -/
def setRecord (vf v : Nat) (e : Pend) (isY : Bool) (r fld val : Nat) (s : State) : State :=
  if isY then deliver vf v e 2 (.y r) (setField ((s.core vf v).y r) fld val).toNat s
  else deliver vf v e 2 (.x r) (setField ((s.core vf v).x r) fld val).toNat s

/-- The first due result of a register; an FSEND line that its sender no longer holds just goes. -/
def doRegister (vf v : Nat) (e : Pend) (s : State) : State :=
  match e.eff with
  | .reg d n => s.onCore vf v fun c => c.land d n
  | .handle h val => s.onCore vf v fun c => { c with hregs := tput c.hregs h val }
  | .zres z val => s.onCore vf v fun c => c.setZ z val
  | .phase => s.onPart vf Part.nextPhase
  | .dom d st => s.onCore vf v fun c => c.setDomain d st
  | .rset isY r fld val => readLater vf v (regMark (if isY then 8 else 7) r) e (setRecord vf v e isY r fld val) s
  | .trap code => raise vf (trapFault (s.part vf) v e code) s
  | .readError mem index => failAt vf v e ⟨0x60, mem + index * 2 ^ 16⟩ s
  | _ => s

/-- REGISTER_RESULT (03_core R37): the first due result of the core. -/
def execRegisterResult (vf core : Nat) (s : State) : Host.Outcome State Fault Refusal :=
  .next (performDue vf core Eff.isRegister (doRegister vf core) s)

def Eff.isXlt : Eff → Bool
  | .xlt _ _ _ => true
  | _ => false

def doXlt (vf v : Nat) (e : Pend) (s : State) : State :=
  match e.eff with
  | .xlt h _ val => s.onCore vf v fun c => { c with hregs := tput c.hregs h val }
  | _ => s

/-- XLT_RESULT (10_translation R148). -/
def execXltResult (vf core : Nat) (s : State) : Host.Outcome State Fault Refusal :=
  .next (performDue vf core Eff.isXlt (doXlt vf core) s)

def Eff.isMpack : Eff → Bool
  | .mpack _ _ _ => true
  | _ => false

def doMpack (vf v : Nat) (e : Pend) (s : State) : State :=
  match e.eff with
  | .mpack z val none => s.onCore vf v fun c => c.setZ z val
  | .mpack _ _ (some f) => failAt vf v e f s
  | _ => s

/-- MPACK_RESULT (11_products R161, R162). -/
def execMpackResult (vf core : Nat) (s : State) : Host.Outcome State Fault Refusal :=
  .next (performDue vf core Eff.isMpack (doMpack vf core) s)

def Eff.isMldb : Eff → Bool
  | .mldb _ _ _ _ => true
  | _ => false

def doMldb (vf v : Nat) (e : Pend) (s : State) : State :=
  match e.eff with
  | .mldb lane entry val none => s.onCore vf v fun c => c.setEntry lane entry val
  | .mldb _ _ _ (some f) => failAt vf v e f s
  | _ => s

/-- MLDB_ENTRY_WRITE (11_products R164). -/
def execMldbEntryWrite (vf core : Nat) (s : State) : Host.Outcome State Fault Refusal :=
  .next (performDue vf core Eff.isMldb (doMldb vf core) s)

def Eff.isMultiply : Eff → Bool
  | .mulRead _ _ _ _ _ _ => true
  | .mulRes _ _ _ _ _ => true
  | _ => false

/-- The result of issue+16, formed from the product and, for MMAC, from the accumulator as it stands at issue+15 (11_products R166). -/
def combine (vf v : Nat) (e : Pend) (lane g : Nat) (acc : Bool) (p pe : Int) (bp : Nat) (s : State) : State :=
  let r := mulCombine acc ((s.core vf v).q lane) p pe bp
  s.onCore vf v fun c => c.sched (e.later (e.ipt + 16) (.mulRes lane g r.1 r.2.1 r.2.2))

/-- MMAC's read of the accumulator at issue+15 forms the result of issue+16; there it is checked and written (11_products R166, R168). -/
def doMultiply (vf v : Nat) (e : Pend) (s : State) : State :=
  match e.eff with
  | .mulRead lane g acc p pe bp =>
    if acc then readLater vf v (regMark 10 lane) e (combine vf v e lane g acc p pe bp) s else combine vf v e lane g acc p pe bp s
  | .mulRes lane g q qe bq =>
    (match mulFault lane g q qe bq with
     | some f => failAt vf v e f s
     | none => s.onCore vf v fun c => c.setQ lane (mulAcc q qe bq))
  | _ => s

/-- MULTIPLY_RESULT (11_products R168). -/
def execMultiplyResult (vf core : Nat) (s : State) : Host.Outcome State Fault Refusal :=
  .next (performDue vf core Eff.isMultiply (doMultiply vf core) s)

def Eff.isAccumulator : Eff → Bool
  | .acc _ _ => true
  | .accChecked _ _ _ => true
  | _ => false

def doAccumulator (vf v : Nat) (e : Pend) (s : State) : State :=
  match e.eff with
  | .acc lane val => s.onCore vf v fun c => c.setQ lane val
  | .accChecked lane val none => s.onCore vf v fun c => c.setQ lane val
  | .accChecked _ _ (some f) => failAt vf v e f s
  | _ => s

/-- ACCUMULATOR_RESULT (11_products R174). -/
def execAccumulatorResult (vf core : Nat) (s : State) : Host.Outcome State Fault Refusal :=
  .next (performDue vf core Eff.isAccumulator (doAccumulator vf core) s)

def Eff.isMldq : Eff → Bool
  | .mldq _ _ => true
  | _ => false

/-- Where MLDQ keeps a line it has read. -/
def mldqKey (ipt lane idx : Nat) : Nat := (4 * ipt + lane) * 3 + idx

/-- The three lines that an MLDQ has read, as one number. -/
def Core.mldqImage (c : Core) (ipt lane : Nat) : Nat :=
  let l (i : Nat) : Nat := (tget (0 : Line) c.mldqBuf (mldqKey ipt lane i)).toNat
  l 0 + l 1 * 2 ^ 2048 + l 2 * 2 ^ 4096

def Core.mldqDone (c : Core) (ipt lane : Nat) : Core :=
  { c with mldqBuf := c.mldqBuf.filter fun e => decide (e.1 / 3 ≠ 4 * ipt + lane) }

def doMldq (vf v : Nat) (e : Pend) (s : State) : State :=
  match e.eff with
  | .mldq lane g =>
    let q := accOfImage ((s.core vf v).mldqImage e.ipt lane)
    let s := s.onCore vf v fun c => c.mldqDone e.ipt lane
    (match mldqFault lane g q with
     | some f => failAt vf v e f s
     | none => s.onCore vf v fun c => c.setQ lane q)
  | _ => s

/-- MLDQ_RESULT (11_products R175). -/
def execMldqResult (vf core : Nat) (s : State) : Host.Outcome State Fault Refusal :=
  .next (performDue vf core Eff.isMldq (doMldq vf core) s)

def Eff.isBlock : Eff → Bool
  | .vcvtBlock _ _ _ _ => true
  | _ => false

def doBlock (vf v : Nat) (e : Pend) (s : State) : State :=
  match e.eff with
  | .vcvtBlock isW r val none => s.onCore vf v fun c => c.land (if isW then .w r else .v r) val
  | .vcvtBlock _ _ _ (some f) => failAt vf v e f s
  | _ => s

/-- VCVT_BLOCK_RESULT (06_numbers R96). -/
def execVcvtBlockResult (vf core : Nat) (s : State) : Host.Outcome State Fault Refusal :=
  .next (performDue vf core Eff.isBlock (doBlock vf core) s)

/-! ### Touches (09_memory R124 to R127) -/

def Eff.isTouch : Eff → Bool
  | .lds _ _ _ _ => true
  | .vld _ _ _ => true
  | .rld _ _ _ _ => true
  | .cpyRead _ _ => true
  | .cpyxRead _ _ _ => true
  | .fsendRead _ _ _ _ _ => true
  | .dwrRead _ _ => true
  | .mpackRead _ _ _ _ _ _ _ _ => true
  | .mldbRead _ _ _ _ _ => true
  | .mldqRead _ _ _ => true
  | .aopRead _ _ _ => true
  | .storeLine _ _ => true
  | .storeBytes _ _ => true
  | _ => false

/-- LDS's value from the bytes read (21_ref_e_m R326). -/
def loadValue (size : Nat) (nat : Bool) (n : Nat) : Nat := if nat then n else (BitVec.ofInt 64 (signed (8 * 2 ^ size) n)).toNat

/-- The command of a number at a core, changed. -/
def Core.onCmd (c : Core) (id : Nat) (f : Cmd → Cmd) : Core := { c with cmds := c.cmds.map fun k => if k.id = id then f k else k }

/-- A timed line leaves for another device as four flits (18_fabric_host R271). -/
def sendTimed (vf port core line land n : Nat) (s : State) : State :=
  (List.range 4).foldl (fun s q => s.emit (.timedFlit vf port core line land q (n / 2 ^ (512 * q) % 2 ^ 512))) s

/-- What a read line gives to the op that reads it. -/
def readDelivers (vf v : Nat) (e : Pend) (n : Nat) (s : State) : State :=
  match e.eff with
  | .vld isW r _ => deliver vf v e 5 (if isW then .w r else .v r) n s
  | .rld isY r _ _ => deliver vf v e 4 (if isY then .y r else .x r) (recordOf n).toNat s
  | .cpyRead _ dst => s.onCore vf v fun c => c.sched (e.later (e.due + 3) (.storeLine dst (BitVec.ofNat 2048 n)))
  | .cpyxRead core _ dst => s.onCore vf v fun c => c.sched (e.later (e.due + 47) (.transit core dst (BitVec.ofNat 2048 n)))
  | .fsendRead port core _ dst land =>
    sendTimed vf port core dst land n (s.onCore vf v fun c => c.sched (e.later land (.sent port core dst land (BitVec.ofNat 2048 n))))
  | .dwrRead _ addr => { s with dram := memWrite s.dram ((s.part vf).dramAddr addr) (leBytes 256 n) }
  | .mpackRead z _ g wa cnt stride start rev =>
    let val := packValue g wa cnt start stride rev n
    s.onCore vf v fun c => c.sched (e.later (e.ipt + 6) (.mpack z val (packFault g wa cnt start stride n 0 0)))
  | .mldbRead lane entry _ g wb =>
    let cnt := mldbCount g wb
    let val := packValue g wb cnt 0 1 false n
    s.onCore vf v fun c => c.sched (e.later (e.ipt + 8) (.mldb lane entry val (packFault g wb cnt 0 1 n 1 lane)))
  | .mldqRead lane idx _ => s.onCore vf v fun c => { c with mldqBuf := tput c.mldqBuf (mldqKey e.ipt lane idx) (BitVec.ofNat 2048 n) }
  | .aopRead cmd _ size =>
    let w := 2 ^ (8 * (4 * 2 ^ size))
    s.onCore vf v fun c => c.onCmd cmd fun k => { k with operand := some (n % w, n / w % w) }
  | _ => s

/-- An MLDQ that loses one of its lines delivers nothing. -/
def dropMldq (vf v : Nat) (e : Pend) (s : State) : State :=
  s.onCore vf v fun c => { c with pend := c.pend.filter fun x => !(x.eff.isMldq && decide (x.ipt = e.ipt)) }

def doTouch (vf v : Nat) (e : Pend) (s : State) : State :=
  match e.eff with
  | .lds d addr size nat => timedRead vf v e addr (2 ^ size) (fun n => deliver vf v e 4 (.s d) (loadValue size nat n)) s
  | .vld _ _ line => readLine vf v e line (readDelivers vf v e) s
  | .rld _ _ line idx => timedRead vf v e (256 * (line % 4096) + 32 * idx) 32 (readDelivers vf v e) s
  | .cpyRead line _ => readLine vf v e line (readDelivers vf v e) s
  | .cpyxRead _ line _ => readLine vf v e line (readDelivers vf v e) s
  | .fsendRead _ _ line _ _ => readLine vf v e line (readDelivers vf v e) s
  | .dwrRead line _ => readLine vf v e line (readDelivers vf v e) s
  | .mpackRead _ line _ _ _ _ _ _ => readLine vf v e line (readDelivers vf v e) s
  | .mldbRead _ _ line _ _ => readLine vf v e line (readDelivers vf v e) s
  | .mldqRead _ _ line =>
    (match readFault (s.part vf) (s.core vf v) v (256 * (line % 4096)) 256 with
     | some flt => failAt vf v e flt (dropMldq vf v e s)
     | none => readLine vf v e line (readDelivers vf v e) s)
  | .aopRead _ line _ => readLine vf v e line (readDelivers vf v e) s
  | .storeLine line val => timedWrite vf v e (256 * (line % 4096)) (leBytes 256 val.toNat) s
  | .storeBytes addr bs => timedWrite vf v e (addr % 2 ^ 20) bs s
  | _ => s

/-- SCRATCHPAD_TOUCH (09_memory R124): the first due touch of the core. -/
def execScratchpadTouch (vf core : Nat) (s : State) : Host.Outcome State Fault Refusal :=
  .next (performDue vf core Eff.isTouch (doTouch vf core) s)

def Eff.isMext : Eff → Bool
  | .mext _ _ => true
  | .mextFault _ => true
  | _ => false

def doMext (vf v : Nat) (e : Pend) (s : State) : State :=
  match e.eff with
  | .mext addr bs => timedWrite vf v e (addr % 2 ^ 20) bs s
  | .mextFault d => failAt vf v e ⟨0x42, d⟩ s
  | _ => s

/-- MEXT_WRITE (11_products R172). -/
def execMextWrite (vf core : Nat) (s : State) : Host.Outcome State Fault Refusal :=
  .next (performDue vf core Eff.isMext (doMext vf core) s)

def Eff.isEnqFault : Eff → Bool
  | .enqFault _ _ => true
  | _ => false

def doEnqFault (vf v : Nat) (e : Pend) (s : State) : State :=
  match e.eff with
  | .enqFault _ d => failAt vf v e ⟨0x61, d⟩ s
  | _ => s

/-- ENQ_START_CHECK (13_ordering R208). -/
def execEnqStartCheck (vf core : Nat) (s : State) : Host.Outcome State Fault Refusal :=
  .next (performDue vf core Eff.isEnqFault (doEnqFault vf core) s)

def Eff.isEnqRead : Eff → Bool
  | .enqRead _ _ _ => true
  | _ => false

def doEnqRead (vf v : Nat) (e : Pend) (s : State) : State :=
  match e.eff with
  | .enqRead cmd line idx =>
    readLine vf v e line (fun n s => s.onCore vf v fun c => c.onCmd cmd fun k =>
      { k with phase := k.phase.filter (fun i => decide (i ≠ idx)), copies := tput k.copies idx (BitVec.ofNat 2048 n) }) s
  | _ => s

/-- ENQ_READ_PHASE (13_ordering R208): one line of a timed read phase. -/
def execEnqReadPhase (vf core : Nat) (s : State) : Host.Outcome State Fault Refusal :=
  .next (performDue vf core Eff.isEnqRead (doEnqRead vf core) s)

/-! ### Landings (09_memory R125, R126; 20_ref_a_d R305, R311; 18_fabric_host R276) -/

/-- How a landing came. -/
inductive Via where
  | drd
  | cpyx
  | fsend
deriving DecidableEq, Repr

/-- A line that lands at a core now. -/
structure Landing where
  via : Via
  /-- sending virtual core; the owning core for a DRD -/
  sender : Nat
  ipt : Nat
  slot : Nat
  baddr : Int
  line : Nat
  val : Line
  /-- row of an uncorrectable array error -/
  bad : Option Nat
  poisoned : Bool
deriving DecidableEq, Repr

def drdLandingOf (v : Nat) (e : Pend) : Option Landing :=
  match e.eff with
  | .drd line val bad => some ⟨.drd, v, e.ipt, e.slot, e.baddr, line, val, bad, false⟩
  | _ => none

def cpyxLandingOf (v sender : Nat) (e : Pend) : Option Landing :=
  match e.eff with
  | .transit core line val => if core = v then some ⟨.cpyx, sender, e.ipt, e.slot, e.baddr, line, val, none, false⟩ else none
  | _ => none

def InLine.landing (l : InLine) : Landing := ⟨.fsend, l.sender, l.sipt, l.sslot, l.sbaddr, l.line, l.val, none, l.poisoned⟩

/-- Every landing due at a core. -/
def Part.landings (p : Part) (v : Nat) : List Landing :=
  ((p.core v).pend.filter fun e => decide (e.due ≤ p.pt)).filterMap (drdLandingOf v)
  ++ (p.coreOf.map fun c => (c.2.pend.filter fun e => decide (e.due ≤ p.pt)).filterMap (cpyxLandingOf v c.1)).flatten
  ++ (p.inbound.filter fun l => decide (l.core = v ∧ l.land ≤ p.pt ∧ l.late = 0)).map InLine.landing

/-- The order in which suppressed landings are reported (09_memory R125). -/
def Landing.before (a b : Landing) : Bool := lexLt [a.ipt, a.sender, a.slot, a.line] [b.ipt, b.sender, b.slot, b.line]

def firstLanding : List Landing → Option Landing
  | [] => none
  | l :: r =>
    match firstLanding r with
    | none => some l
    | some m => if m.before l then some m else some l

/-- The landings of one bank. -/
def inBank (b : Nat) (ls : List Landing) : List Landing := ls.filter fun l => decide (bankOf l.line = b)

/-- A line is no longer on its way. -/
def Part.landed (p : Part) (v : Nat) (l : Landing) : Part :=
  match l.via with
  | .drd => p.onCore v fun c => { c with pend := c.pend.eraseP fun e => decide (e.due ≤ p.pt ∧ drdLandingOf v e = some l) }
  | .cpyx => p.onCore l.sender fun c =>
      { c with pend := c.pend.eraseP fun e => decide (e.due ≤ p.pt ∧ cpyxLandingOf v l.sender e = some l) }
  | .fsend => { p with inbound := p.inbound.eraseP fun x => decide (x.core = v ∧ x.land ≤ p.pt ∧ x.landing = l) }

/-- The fault of a landing at the receiving core: bundle, slot and issue PT are the sending op's (16_faults R242).
(DEDUCED: notes/assumptions/18.md) -/
def landingFault (p : Part) (v : Nat) (l : Landing) (code detail : Nat) (more : Bool) : FRec :=
  { code := code, vcore := v, slot := l.slot, cls := 1, more := more, baddr := l.baddr, pt := l.ipt, stoppt := p.pt, detail := detail }

/-- Detail of a landing's conflict: the line, and the sending core of an arrival (16_faults R241, R242). -/
def Landing.conflictDetail (l : Landing) : Nat :=
  l.line + (match l.via with
    | .drd => 0
    | _ => l.sender * 2 ^ 16)

/-- A landing that another access of its bank, or the maintenance cycle, suppresses (09_memory R125, R126). -/
def Part.landsInto (p : Part) (v : Nat) (l : Landing) : Bool :=
  ((p.core v).touches.any fun t => decide (t.cycle = p.pt ∧ t.place = bankOf l.line))
  || decide (1 < (inBank (bankOf l.line) (p.landings v)).length) || decide (p.pt % 256 = 255)

/-- The landing of a bank that is reported or made now: none while it waits for the end of a barrier wait. -/
def Part.landsNow (p : Part) (v b : Nat) : Option Landing :=
  (firstLanding (inBank b (p.landings v))).filter fun l =>
    p.landsInto v l || !((p.core v).dom (bankDom l.line)).readyAt p.pt || !p.doubtful (p.core v) l.sender (256 * l.line) 256 true

/-- A landing that meets no other access: its bank must be ready; then Snare; then an array error; then the line is written. -/
def landAlone (vf v : Nat) (l : Landing) (s : State) : State :=
  let p := s.part vf
  let c := p.core v
  let d := bankDom l.line
  if !(c.dom d).readyAt p.pt then raise vf (landingFault p v l 0x10 (c.sleepDetail d) false) s
  else
    match raceFault p c l.sender (256 * l.line) 256 true with
    | some f => raise vf (landingFault p v l f.code f.detail false) s
    | none =>
      match l.bad with
      | some row => raise vf (landingFault p v l 0x60 (2 + row * 2 ^ 16) false) s
      | none =>
        s.onCore vf v fun c =>
          let c := c.written p l.sender (256 * l.line) (leBytes 256 l.val.toNat)
          if l.poisoned then { c with poison := c.poison ++ [l.line] } else c

/-- THE LANDINGS OF ONE BANK in one cycle: a second access, or the maintenance cycle, suppresses them all, and one record reports it;
otherwise the one landing is made (09_memory R125, R126). Either way the bank is not idle in this cycle (R128).
(DEDUCED: notes/assumptions/18.md) -/
def landGroup (vf v : Nat) (l : Landing) (s : State) : State :=
  let p := s.part vf
  let group := inBank (bankOf l.line) (p.landings v)
  let s := s.onPart vf fun p =>
    (group.foldl (fun p x => p.landed v x) p).onCore v fun c => c.reserve [⟨p.pt, bankOf l.line, l.line⟩]
  if p.landsInto v l then
    raise vf (landingFault p v l 0x30 l.conflictDetail (decide (1 < group.length))) s
  else landAlone vf v l s

/-- The first group of a core's landings whose reported landing came in a given way. -/
def landVia (via : Via) (vf v : Nat) (s : State) : State :=
  let firsts := (List.range 16).filterMap ((s.part vf).landsNow v)
  match firsts.filter fun l => decide (l.via = via) with
  | [] => s
  | l :: _ => landGroup vf v l s

/-- DRD_LANDING (20_ref_a_d R311). -/
def execDrdLanding (vf core : Nat) (s : State) : Host.Outcome State Fault Refusal := .next (landVia .drd vf core s)

/-- CPYX_ARRIVAL (20_ref_a_d R305). -/
def execCpyxArrival (vf core : Nat) (s : State) : Host.Outcome State Fault Refusal := .next (landVia .cpyx vf core s)

/-- FSEND_LANDING (18_fabric_host R276). -/
def execFsendLanding (vf core : Nat) (s : State) : Host.Outcome State Fault Refusal := .next (landVia .fsend vf core s)

end Sys2Proof.Machine
end

