-- ==== Sys2Proof/Machine/Barriers.lean ====
section
/-! DEFINITION. Barriers: who has arrived, when a barrier completes, and the faults and tokens of a wait (14_determinism R217 to R223;
15_tasks R234). -/

namespace Sys2Proof.Machine

/-- The members of a barrier: the task's cores on every device, and the remote members (14_determinism R219). -/
def Part.barrierMembers (p : Part) (b : Nat) : List Nat :=
  List.range p.taskCores ++ (p.remotes.filter fun r => decide (r.1 = b)).map fun r => 512 + r.2

/-- The members that have not arrived. -/
def Part.missing (p : Part) (b : Nat) : List Nat := (p.barrierMembers b).filter fun m => !(p.barrier b).arrived.contains m

/-- A wait on the barrier, on this device or another, finds every arrival counted. -/
def Part.completes (p : Part) (b : Nat) : Bool :=
  (!(p.barrier b).waits.isEmpty || !(p.barrier b).abroad.isEmpty) && (p.missing b).isEmpty

/-- BARRIER COMPLETION (14_determinism R219, R221): the next generation begins. -/
def Part.nextGeneration (p : Part) (b : Nat) : Part :=
  p.setBarrier b { p.barrier b with arrived := [], waits := [], abroad := [], elapsed := 0, gen := (p.barrier b).gen + 1 }

/-- The phase advances in the next cycle (14_determinism R217): a partition without cores here has nothing that a phase parts. -/
def Part.phaseNext (p : Part) : Part :=
  match p.members with
  | [] => p
  | v :: _ => p.onCore v fun c => c.sched ⟨p.pt + 1, p.pt, 0, 0, .phase⟩

/-- The end of a cycle with BARWs: the barriers that complete in it complete, nothing stops for them, and the phase advances in the next cycle
(14_determinism R217, R221). -/
def Part.settleBarriers (p : Part) : Part :=
  let bs := (List.range 16).filter p.completes
  let q := bs.foldl Part.nextGeneration p
  if bs.isEmpty then q else q.phaseNext

/-- Every other device waits at the barrier at this PT; `abroad`: where they wait, as they have told (14_determinism R221). -/
def Part.waitsAlike (p : Part) (abroad : Table Nat) : Bool := !p.multi || p.mates.all fun m => decide (tfind abroad m.1 = some p.pt)

/-- The devices that resume with this one from a barrier wait, and whose notices of the stop are still on their way, are excused from it
(14_determinism R221). (DEDUCED: notes/assumptions/110.md) -/
def Part.excuse (p : Part) : Part :=
  { p with excused := (keys p.mates).foldl (fun t d => if (tfind p.peers d).isSome then t else tput t d p.pt) p.excused }

/-- The stop of a barrier wait that has no wait left ends; the bundles issue in the next Tabor cycle, where every other device waits at this PT
too (14_determinism R221, R224). Where one does not, it runs or stands at another PT, and this device is realigned with it by R28; a device that
has a stop of its own beside the wait stays, and tells the others anew. (DEDUCED: notes/assumptions/110.md) -/
def endWait (vf : Nat) (abroad : Table Nat) (s : State) : State :=
  let p := s.part vf
  let q : Part := { p with stops := p.stops.filter fun x => !x.isBarrier }
  if p.waiting then s
  else if q.stops.any Stop.announced then (if p.waitsAlike abroad then (s.setPart vf q).announce vf else s.setPart vf q)
  else if p.waitsAlike abroad then s.setPart vf (q.excuse.stopBy (.waitOver (s.tabor + 1)))
  else
    let t := s.setPart vf ((q.stopBy (.waitOver (s.tabor + 1))).stopBy .align)
    if p.stops.any Stop.isBarrier then t else t.announce vf

/-- A barrier completes: the wait of this device is over, and its phase advances with it; one that only another device waits at advances
the phase in the next cycle (14_determinism R217, R221). -/
def complete (vf b : Nat) (s : State) : State :=
  let k := (s.part vf).barrier b
  if k.waits.isEmpty then s.onPart vf fun p => (p.nextGeneration b).phaseNext
  else endWait vf k.abroad (s.onPart vf fun p => (p.nextGeneration b).nextPhase)

/-- An arrival that counts now completes the barrier if it is the last one awaited; that of a partition that is switched out joins the saved
set (14_determinism R223). -/
def completeNow (vf b : Nat) (s : State) : State :=
  if (s.part vf).isBound && (s.part vf).completes b then complete vf b s else s

/-- A core of another device waits at a barrier; news of a generation that has completed is late (14_determinism R221). -/
def joinWait (vf dev b v gen pt : Nat) (s : State) : State :=
  if (s.part vf).multi && !(s.part vf).isLocal v && decide (((s.part vf).barrier b).gen ≤ gen) then
    completeNow vf b (s.onPart vf fun p => p.setBarrier b { p.barrier b with abroad := tput (p.barrier b).abroad dev pt })
  else s

/-- BARRIER_ARRIVAL (14_determinism R220, R221): counted when it arrives, whether or not the partition is stopped or bound. -/
def execBarrierArrival (vf bar member : Nat) (s : State) : Host.Outcome State Fault Refusal :=
  .next (completeNow vf bar (s.onPart vf fun p =>
    let k := p.barrier bar
    p.setBarrier bar { k.arrive member with inFlight := k.inFlight.eraseP fun e => decide (e.1 = member) }))

/-! ### Timeouts (14_determinism R221, R222; 15_tasks R234) -/

/-- A member that is a core in a condition. -/
def Part.isCond (p : Part) (f : Cond) (m : Nat) : Bool := decide (m < 512 ∧ p.condOf m = f)

/-- A missing member has no arrival on its way. -/
def Part.absent (p : Part) (b : Nat) : List Nat := (p.missing b).filter fun m => !(p.barrier b).inFlight.any fun e => decide (e.1 = m)

/-- The waits whose timeout has run out, while the barrier holds no token. -/
def Barrier.expired (k : Barrier) : List Wait :=
  if k.tokens.isEmpty then k.waits.filter fun w => decide (0 < w.timeout ∧ w.timeout ≤ k.elapsed) else []

/-- Every device is stopped and a running core has not arrived, nor is its arrival on its way: one of another device would have come within D
of that device's stop notice (14_determinism R220, R221). So it is too for a core restarted at a resume on one device, where PT stands for all of
them (DEDUCED: notes/assumptions/129.md). (DEDUCED: notes/assumptions/38.md) -/
def Part.neverArrives (p : Part) (tabor b : Nat) : Bool :=
  (!p.multi || p.othersStopped)
  && (p.absent b).any fun m => p.isCond .running m && (p.isLocal m || decide (p.noticeAt + p.delay ≤ tabor))

/-- Why the waits of a barrier fail, if they do, and the waits that fail: 2 a core has ended, 1 a running core can never arrive, 0 the
timeout. (DEDUCED: notes/assumptions/37.md) (DEDUCED: notes/assumptions/38.md) (DEDUCED: notes/assumptions/39.md) -/
def Part.barrierFails (p : Part) (tabor b : Nat) : Option (Nat × List Wait) :=
  let k := p.barrier b
  if k.waits.isEmpty then none
  else if (p.absent b).any (p.isCond .ended) then some (2, k.waits)
  else if p.neverArrives tabor b then some (1, k.waits)
  else if k.expired.isEmpty then none
  else some (0, k.expired)

/-- The wait of the lowest core. (DEDUCED: notes/assumptions/37.md) -/
def lowestWait : List Wait → Option Wait
  | [] => none
  | w :: r =>
    match lowestWait r with
    | none => some w
    | some m => if m.core < w.core then some m else some w

def barrierDetail (b reason n : Nat) : Nat := b + 16 * reason + 256 * n

/-- The record of a barrier-timeout (14_determinism R221, R222; 16_faults R242). -/
def barrierFault (p : Part) (b reason : Nat) (w : Wait) : FRec :=
  { code := 0x51, vcore := w.core, slot := 0, cls := 2, more := false, baddr := w.baddr, pt := w.ipt, stoppt := p.pt
    detail := barrierDetail b reason (p.missing b).length }

/-- BARRIER_TIMEOUT (14_determinism R222): the barrier has not completed, so the accesses of this PT are in the phase that the counter still
shows (14_determinism R216, R217). (DEDUCED: notes/assumptions/43.md) -/
def execBarrierTimeout (vf bar : Nat) (s : State) : Host.Outcome State Fault Refusal :=
  let p := s.part vf
  .next (match p.barrierFails s.tabor bar with
    | none => s
    | some (reason, ws) =>
      match lowestWait ws with
      | none => s
      | some w =>
        (raise vf (barrierFault p bar reason w) s).onPart vf fun q =>
          q.samePhase.setBarrier bar { q.barrier bar with waits := [] })

/-! ### Absence tokens (14_determinism R222) -/

/-- ABSENCE_TOKEN: of a remote member that has not arrived. -/
def execAbsenceToken (vf bar member : Nat) (s : State) : Host.Outcome State Fault Refusal :=
  .next (s.onPart vf fun p =>
    let k := p.barrier bar
    if k.arrived.contains member || k.tokens.contains member then p
    else p.setBarrier bar { k with tokens := k.tokens ++ [member] })

/-- ABSENCE_TOKEN_WITHDRAWN. -/
def execAbsenceTokenWithdrawn (vf bar member : Nat) (s : State) : Host.Outcome State Fault Refusal :=
  .next (s.onPart vf fun p =>
    let k := p.barrier bar
    p.setBarrier bar { k with tokens := k.tokens.filter fun m => decide (m ≠ member) })

end Sys2Proof.Machine
end

