-- ==== Sys2Proof/Machine/Holds.lean ====
section
/-! DEFINITION. Clocks, holds and the alignment of a partition's devices (02_time R14 to R30; 01_device R12; 19_belfry R287). -/

namespace Sys2Proof.Machine

/-! ### Holds (02_time R21 to R23) -/

/-- A hold runs. -/
def Part.held (p : Part) : Bool := p.stops.any Stop.isHold

/-- A hold of `n` × 256 Tabor cycles is asked for: it replaces a pending one, and waits for the end of a running one. -/
def Part.askHold (p : Part) (n : Nat) : Part :=
  if p.held then { p with holdNext := some n } else { p.armHold n with holdNext := none }

/-- The Belfry may hold the partition: it is bound, and the Belfry serves (01_device R12; 16_faults R247; 17_partitions R268).
(DEDUCED: notes/assumptions/84.md) -/
def State.holdable (s : State) (vf : Nat) : Bool := !s.belfryDown && (s.part vf).isBound

/-- HOLD_REQUEST (02_time R21). (DEDUCED: notes/assumptions/84.md) -/
def execHoldRequest (vf n : Nat) (s : State) : Host.Outcome State Fault Refusal :=
  .next (if s.holdable vf && decide (1 ≤ n ∧ n ≤ 4096) then s.onPart vf fun p => p.askHold n else s)

/-- A hold armed on another device was asked for after the pending one; of two asked for at once the later stays, so that every device keeps
the same one (02_time R22, R27). (DEDUCED: notes/assumptions/97.md) -/
def Part.supersedes (p : Part) (start asked len : Nat) : Bool :=
  match p.hold with
  | none => true
  | some h => lexLt [p.holdAsked, h.1, h.2] [asked, start, len]

/-- A hold that another device of the partition has armed (02_time R27). A device that is past its boundary takes none: those behind it hold there
by themselves before they are aligned with it (02_time R28). (DEDUCED: notes/assumptions/97.md) -/
def Part.joinHold (p : Part) (start asked len : Nat) : Part :=
  if p.multi && p.isBound && p.supersedes start asked len then
    { p with
      hold := if p.pt ≤ start then some (start, len) else none
      holdAsked := max p.holdAsked asked, holdTold := max p.holdAsked asked }
  else p

/-- The pending hold of a partition over several devices is new to the others. -/
def Part.untold (p : Part) : Bool := p.multi && p.hold.isSome && decide (p.holdAsked ≠ p.holdTold)

/-- The other devices are told of the pending hold: all take it at the same beat boundary (02_time R27). -/
def tellHold (vf : Nat) (s : State) : State :=
  match (s.part vf).hold with
  | none => s
  | some h => (s.onPart vf fun p => { p with holdTold := p.holdAsked }).emit (.hold vf h.1 (s.part vf).holdAsked h.2)

/-- HOLD_START (02_time R17, R21): the length runs in Tabor cycles from here. -/
def execHoldStart (vf : Nat) (s : State) : Host.Outcome State Fault Refusal :=
  .next (s.onPart vf fun p =>
    match p.hold with
    | some (b, n) => if b ≤ p.pt then { p.stopBy (.hold (s.tabor + n)) with hold := none } else p
    | none => p)

/-- A hold whose length has elapsed. -/
def Stop.holdOver (tabor : Nat) : Stop → Bool
  | .hold e => decide (e ≤ tabor)
  | _ => false

/-- HOLD_END (02_time R22): the Belfry's policy asks for its next hold in this cycle (19_belfry R287). -/
def execHoldEnd (vf : Nat) (s : State) : Host.Outcome State Fault Refusal :=
  .next (if (s.part vf).stops.any (Stop.holdOver s.tabor) then
    s.onPart vf fun p =>
      let q := p.releaseFrom (Stop.holdOver s.tabor)
      if q.hold.isNone && q.holdNext.isNone && decide (0 < q.policy) && !s.belfryDown then q.armHold q.policy else q
    else s)

/-! ### The Belfry's power policy (19_belfry R287) -/

/-- Beats between two holds of a partition. -/
def Part.holdBeats (p : Part) : Nat := (p.delay + 1023) / 1024

/-- The policy of a partition under a hold level: one hold is asked for if none is armed or running. -/
def Part.setPolicy (level : Nat) (p : Part) : Part :=
  let n := min (level * p.holdBeats) 4096
  let q := { p with policy := n }
  if p.isBound && decide (0 < n) && p.hold.isNone && p.holdNext.isNone && !p.held then q.armHold n else q

/-- The thermal condition after a sample: 0 clear; 1 hot; 2 hot with one sample below 100 °C behind it. (DEDUCED: notes/assumptions/66.md) -/
def hotAfter (hot temp : Nat) : Nat :=
  if 105 ≤ temp then 1
  else if hot = 0 then 0
  else if temp < 100 then (if hot = 2 then 0 else 2)
  else 1

/-- Hold level and count of clear samples after a sample. -/
def levelAfter (level hot calm power cap : Nat) : Nat × Nat :=
  if hot ≠ 0 ∨ cap < power then (min (level + 1) 4096, 0)
  else (if 16 ≤ calm + 1 then level - 1 else level, min (calm + 1) 16)

/-- THERMAL_SAMPLE (19_belfry R287): the hottest junction in °C and the package power in W. (DEDUCED: notes/assumptions/66.md) -/
def execThermalSample (temp power : Nat) (s : State) : Host.Outcome State Fault Refusal :=
  let hot := hotAfter s.hotBelow temp
  let r := levelAfter s.holdLevel hot s.calm power s.pcap
  .next (if s.belfryDown then s
    else { s with hotBelow := hot, calm := r.2, holdLevel := r.1, parts := s.parts.map fun e => (e.1, e.2.setPolicy r.1) })

/-- Every partition stopped by a rail error. -/
def State.freezeAll (s : State) : State :=
  { s with
    fatal := s.fatal / 2 * 2 + 1
    parts := s.parts.map fun (e : Nat × Part) => (e.1, if e.2.live then e.2.stopBy .rail else e.2) }

/-- RAIL_ERROR (01_device R12): every partition freezes with its state, and its other devices are told (02_time R28); only a package reset
ends it. (DEDUCED: notes/assumptions/82.md) -/
def execRailError (s : State) : Host.Outcome State Fault Refusal :=
  .next ((keys (s.parts.filter fun e => e.2.isBound)).foldl (fun s vf => s.announce vf) (s.freezeAll.reportFatal 1))

/-! ### Devices that stop at different PTs (02_time R25 to R28) -/

/-- The alignment stop is all that keeps this device: no hold, no pause and no stop of its own. -/
def Part.aligning (p : Part) : Bool := !p.stops.isEmpty && p.stops.all Stop.isAlign

/-- The alignment stop may end: it is the turn of this device alone, or of all that stand at its PT (02_time R28). -/
def Part.mayGo (p : Part) (tabor : Nat) : Bool := p.alone || (p.aligning && p.together tabor)

/-- The alignment stop ended; PT resumes if it was the last stop. -/
def Part.unaligned (p : Part) : Part := { p with stops := p.stops.filter fun x => !x.isAlign }.resumed

/-- The alignment stop of a device whose turn has come ends (02_time R28). -/
def Part.takeTurn (tabor : Nat) (p : Part) : Part := if p.stops.any Stop.isAlign && p.mayGo tabor then p.unaligned else p

/-- The device is to tell the others that it can resume with those that stand at its PT (02_time R28). (DEDUCED: notes/assumptions/109.md) -/
def Part.readyDue (p : Part) : Bool := p.aligning && p.turn && !p.alone && p.readyAt.isNone

/-- It tells them: the message comes to every device D Tabor cycles later. -/
def tellReady (vf : Nat) (s : State) : State := (s.onPart vf fun p => { p with readyAt := some (s.tabor + p.delay) }).emit (.ready vf)

/-- Another device tells that it can resume. -/
def Part.hearReady (p : Part) (dev : Nat) : Part :=
  if p.multi && !p.readies.contains dev then { p with readies := p.readies ++ [dev] } else p

/-- The device will stop at the smallest beat boundary at least D after the PT that a stop notice names (02_time R28). -/
def Part.alignTo (p : Part) (pt : Nat) : Part :=
  let b := nextBeat (pt + p.delay)
  { p with alignAt := some ((p.alignAt.map fun a => min a b).getD b) }

/-- A device that this stopped one knows to have stopped before has stopped again less than D short of this PT, and so after it has sent the flit
that will release this one (02_time R28). (DEDUCED: notes/assumptions/67.md) -/
def Part.passedBy (p : Part) (known : Bool) (pt : Nat) : Bool := known && decide (pt < p.pt ∧ p.pt < pt + p.delay)

/-- What a stop notice is to a device: a running one will stop at the smallest beat boundary at least D after the PT named, and so will a stopped
one whose flit is under way; one that stands in a hold or a pause alone is stopped, and stays at its own PT from now on; any other stopped
one stays, and is released if it waited for this notice (02_time R28). `known`: the sender had told of a stop before.
(DEDUCED: notes/assumptions/67.md) -/
def heed (vf pt : Nat) (known : Bool) (s : State) : State :=
  let p := s.part vf
  if p.stops.isEmpty then s.onPart vf fun q => q.alignTo pt
  else if p.stops.any Stop.announced then s.onPart vf fun q => (if q.passedBy known pt then q.alignTo pt else q).takeTurn s.tabor
  else ((s.onPart vf fun q => q.stopBy .align).announce vf).onPart vf (Part.takeTurn s.tabor)

/-- A stop notice is noted: what its device had agreed on with this one is void. -/
def Part.noteStop (p : Part) (tabor dev pt : Nat) : Part :=
  { p with peers := tput p.peers dev pt, readyAt := none, readies := p.readies.filter fun d => decide (d ≠ dev), noticeAt := tabor }

/-- STOP_NOTICE (02_time R28). One of a stop in a barrier wait that is over, from which this device and its sender have resumed together, asks
for no alignment (14_determinism R221). (DEDUCED: notes/assumptions/110.md) -/
def execStopNotice (vf dev pt : Nat) (s : State) : Host.Outcome State Fault Refusal :=
  let p := s.part vf
  .next (if !p.multi then s
    else
      let q : Part := { p with excused := tdel p.excused dev }
      if tfind p.excused dev = some pt then s.setPart vf { q with noticeAt := s.tabor }
      else heed vf pt (tfind p.peers dev).isSome (s.setPart vf (q.noteStop s.tabor dev pt)))

/-- The alignment stop named by a stop notice begins. What the others have lost to stretches before is repaid by the alignment (02_time R28, R30).
(DEDUCED: notes/assumptions/48.md) -/
def beginAlign (vf : Nat) (s : State) : State :=
  (s.onPart vf fun p => { p.stopBy .align with alignAt := none, pauses := [] }).announce vf

/-- The lowest PT at which another device waits ahead of this one. -/
def Part.nextPeer (p : Part) : Option Nat :=
  match (p.peers.filter fun e => decide (p.pt < e.2)).map fun e => e.2 with
  | [] => none
  | x :: r => some (r.foldl min x)

/-- No hold and no pause is to come before a PT. -/
def Part.clearTo (p : Part) (x : Nat) : Bool := p.hold.all (fun h => decide (x ≤ h.1)) && p.pauses.all fun e => decide (x ≤ e.1)

/-- The PT X to which an alignment flit is due: the lowest at which another device is stopped, once a running device has come to X − D. The device
that the last flit is for stands at its PT until this one comes there, so no other is due before; and a hold or a pause that stands before X goes
before the flit, whose D cycles are to be this device's own way to X (02_time R28). (DEDUCED: notes/assumptions/67.md) -/
def Part.flitDue (p : Part) : Option Nat :=
  if p.stops.isEmpty && p.flitTo.all (fun x => decide (x ≤ p.pt)) then
    p.nextPeer.filter fun x => decide (x ≤ p.pt + p.delay) && p.clearTo x
  else none

/-- ALIGNMENT_FLIT_SEND (02_time R28): at PT X − D. At a PT beyond it, of which R28 says nothing, the flit is sent at once, and the device pauses
until as much of the flit's D cycles is left as its own way to X, so that both issue X in one Tabor cycle
(DEDUCED: notes/assumptions/67.md). Where all the others stand, the alignment repays every loss to a stretch before it
(DEDUCED: notes/assumptions/48.md). -/
def execAlignmentFlitSend (vf : Nat) (s : State) : Host.Outcome State Fault Refusal :=
  .next (match (s.part vf).flitDue with
    | none => s
    | some x =>
      (s.onPart vf fun q =>
        let sent := { q with
          peers := q.peers.filter fun e => decide (e.2 ≠ x), flitTo := some x
          pauses := if q.matesStopped then [] else q.pauses, debts := if q.matesStopped then [] else q.debts }
        if x < q.pt + q.delay then sent.stopBy (.pause (s.tabor + (q.pt + q.delay - x))) else sent).emit (.alignFlit vf x))

/-- The alignment stop ended by a flit, whoever else is stopped; devices at this PT are released with it, and of those below none still stands
there but one that has stopped anew. Its own losses are repaid (02_time R30). (DEDUCED: notes/assumptions/48.md) -/
def Part.aligned (p : Part) : Part :=
  { p with
    peers := p.peers.filter fun e => decide (p.pt < e.2) || (p.alignAt.isSome && decide (e.2 < p.pt))
    debts := []
    stops := p.stops.filter fun x => !x.isAlign }.resumed

/-- ALIGNMENT_FLIT_ARRIVAL (02_time R28): the stopped device issues the bundles of its PT in this Tabor cycle; one that is stopped for a reason
of its own as well does not, and tells the others anew. (DEDUCED: notes/assumptions/67.md) -/
def execAlignmentFlitArrival (vf : Nat) (s : State) : Host.Outcome State Fault Refusal :=
  let t := s.onPart vf Part.aligned
  .next (if (t.part vf).stops.any Stop.announced then t.announce vf else t)

/-! ### Droop (02_time R29, R30) -/

/-- The droop detector may fire again. (DEDUCED: notes/assumptions/83.md) -/
def State.mayDroop (s : State) : Bool :=
  match s.lastDroop with
  | none => true
  | some t => decide (t + 1024 ≤ s.tabor)

/-- The PT by which every other device has paused for a loss: a notice takes up to D − 64 cycles, and the pause stands at the smallest beat
boundary at least D after it (02_time R28, R30). (DEDUCED: notes/assumptions/48.md) -/
def Part.repaidBy (p : Part) : Nat := nextBeat (p.pt + (p.delay - 64) + p.delay)

/-- DROOP_STRETCH (02_time R29): no bundle issues for the cycles lost. (DEDUCED: notes/assumptions/83.md) -/
def execDroopStretch (cycles lost : Nat) (s : State) : Host.Outcome State Fault Refusal :=
  .next (if s.mayDroop && decide (cycles ≤ 8 ∧ lost ≤ 4) then { s with stretchUntil := s.tabor + lost, lastDroop := some s.tabor } else s)

/-- A Tabor cycle that a running partition over several devices loses to a stretch; one that stands loses nothing, nor does one that runs while
all the others stand (02_time R30). (DEDUCED: notes/assumptions/48.md) -/
def Part.lose (p : Part) : Part :=
  if p.multi && p.isBound && p.stops.isEmpty && !p.othersStopped then { p with losing := p.losing + 1 } else p

/-- The stretch is over: the partition owes what it lost to the others, and tells them (02_time R30). -/
def owe (vf : Nat) (s : State) : State :=
  (s.onPart vf fun p => { p with losing := 0, debts := p.debts ++ [(p.repaidBy, p.losing)] }).emit (.stretchNotice vf (s.part vf).losing)

/-- STRETCH_NOTICE (02_time R30): a pause of exactly the cycles lost, at the smallest beat boundary at least D ahead. -/
def execStretchNotice (vf lost : Nat) (s : State) : Host.Outcome State Fault Refusal :=
  .next (s.onPart vf fun p => if p.multi then { p with pauses := p.pauses ++ [(nextBeat (p.pt + p.delay), lost)] } else p)

/-- ALIGNMENT_PAUSE (02_time R30): pauses that stand at one boundary follow each other. A pause sends no stop notice: whether R28, which speaks
of any reason other than a hold, takes it in is left open (DESIGN CHOICE: notes/assumptions/90.md). -/
def execAlignmentPause (vf : Nat) (s : State) : Host.Outcome State Fault Refusal :=
  .next (s.onPart vf fun p =>
    let now := p.pauses.filter fun e => decide (e.1 ≤ p.pt)
    if now.isEmpty then p
    else { p.stopBy (.pause (s.tabor + now.foldl (fun a e => a + e.2) 0)) with pauses := p.pauses.filter fun e => decide (p.pt < e.1) })

/-- A pause that is over. -/
def Stop.pauseOver (tabor : Nat) : Stop → Bool
  | .pause e => decide (e ≤ tabor)
  | _ => false

/-- ALIGNMENT_PAUSE_END (02_time R30). -/
def execAlignmentPauseEnd (vf : Nat) (s : State) : Host.Outcome State Fault Refusal :=
  .next (s.onPart vf fun p => if p.stops.any (Stop.pauseOver s.tabor) then p.releaseFrom (Stop.pauseOver s.tabor) else p)

/-- The loss not yet repaid (02_time R30). (DEDUCED: notes/assumptions/48.md) -/
def Part.owed (p : Part) : Nat := (p.debts.filter fun e => decide (p.pt < e.1)).foldl (fun a e => a + e.2) 0

/-! ### The Tabor of a timed domain (02_time R15) -/

/-- How far a reading is ahead of another, as a signed difference modulo 2^64. (DEDUCED: notes/assumptions/49.md) -/
def tickDiff (a b : Nat) : Int := signed 64 ((a + (2 ^ 64 - b % 2 ^ 64)) % 2 ^ 64)

/-- A port of the device is up in a timed domain (18_fabric_host R272). -/
def State.inDomain (s : State) (dom : Nat) : Bool := s.ports.any fun e => e.2.up && decide (e.2.dom = dom ∧ dom ≠ 0)

/-- SYNC_FLIT (02_time R15): of a domain that the device is in, the first after training is adopted; later ones keep the Tabor within 2 counts
of those ahead of it. One that is ahead itself goes on, since successive readings differ by 1 or more (22_ref_n_t R355).
(DEDUCED: notes/assumptions/49.md) -/
def execSyncFlit (dom val : Nat) (s : State) : Host.Outcome State Fault Refusal :=
  .next (if !s.inDomain dom then s
    else if s.adopted.contains dom then
      let d := tickDiff s.reading val
      if d < -2 then { s with skew := s.skew + (-2 - d).toNat }
      else s
    else { s with skew := (val + (2 ^ 64 - s.tabor % 2 ^ 64)) % 2 ^ 64, adopted := s.adopted ++ [dom] })

end Sys2Proof.Machine
end

