-- ==== Sys2Proof/Machine/Pages.lean ====
section
/-! DEFINITION. Pages, frames and translation caches as the Belfry and the engines' walker handle them, and the memories behind the tiers
(09_memory R131, R140, R141; 10_translation R149 to R155; 17_partitions R265). -/

namespace Sys2Proof.Machine

/-! ### Rows of a channel and the contents of pages (09_memory R131) -/

/-- Row of a DRAM byte address. -/
def rowOf (a : Nat) : Nat := a / 2 ^ 12 % 65536

/-- A DRAM address lies in `n` rows of a channel from row `r` on. -/
def inRows (ch r n a : Nat) : Bool := decide (a / 2 ^ 32 = ch ∧ r ≤ rowOf a ∧ rowOf a < r + n)

/-- The contents of `n` rows of a channel, with the rows counted from `r`. -/
def rowsOf (m : Mem) (ch r n : Nat) : Mem := (m.filter fun c => inRows ch r n c.1).map fun c => (c.1 % 2 ^ 32 - r * 2 ^ 12, c.2)

def eraseRows (m : Mem) (ch r n : Nat) : Mem := m.filter fun c => !inRows ch r n c.1

/-- Cells written one by one at an offset. -/
def writeCells (m : Mem) (off : Nat) (cs : Mem) : Mem := cs.foldl (fun m c => memWrite m (off + c.1) [c.2]) m

/-- Contents put into rows of a channel that have been erased. -/
def placeRows (m : Mem) (ch r : Nat) (cs : Mem) : Mem := writeCells m (ch * 2 ^ 32 + r * 2 ^ 12) cs

/-- A page's vchannel and first physical row. -/
def Page.vch (g : Page) : Nat := g.phys / 65536
def Page.row (g : Page) : Nat := g.phys % 65536

/-- Physical channel of a vchannel. -/
def Part.channel (p : Part) (vch : Nat) : Nat := tget vch p.chanTable vch

/-- The page of the partition's tables that covers a 64 KiB unit. -/
def Part.pageAt (p : Part) (u : Nat) : Option Page := lookup u p.pages

/-- The page tables with one page replaced. -/
def Part.setPage (p : Part) (g : Page) : Part := { p with pages := p.pages.map fun x => if x.va = g.va then g else x }

/-- A bank of the partition holds one of the page's rows open (10_translation R152). -/
def Part.pinned (p : Part) (g : Page) : Bool :=
  g.resident && decide (g.tier = 0) && p.banks.any fun e => decide (e.1 / 16 = g.vch) && (match e.2.st with
    | .active row _ => decide (g.row ≤ row ∧ row < g.row + pageUnits g.size)
    | _ => false)

/-- Two runs of units meet. -/
def runsMeet (a n b m : Nat) : Bool := decide (a < b + m ∧ b < a + n)

/-- A page that a partition of some channels can have: aligned, on its own vchannel's rows when timed, in the service banks of one channel when
T1, which are 16 at most (01_device R11; 09_memory R132). Only a T0 page can be mapped and not resident; the manual does not say whether a T1, T2 or T3 page can (DESIGN CHOICE: notes/assumptions/95.md). -/
def pageLegal (channels : Nat) (g : Page) : Bool :=
  let n := pageUnits g.size
  decide (g.tier ≤ 3 ∧ g.size ≤ 2 ∧ g.va % n = 0)
  && (if g.tier = 0 then decide (g.va / 65536 < channels ∧ g.phys / 65536 = g.va / 65536 ∧ g.phys % n = 0)
      else g.resident && (if g.tier = 1 then decide (g.phys / 65536 < channels ∧ g.phys % 65536 + n ≤ 65536) else true))

/-- 64 KiB units of a channel's service banks that the T1 pages of a list take, counted to the end of the last of them: the Belfry arranges the
units of T1 over the service banks in their order (09_memory R132). (DESIGN CHOICE: notes/assumptions/111.md) -/
def nearUnits (l : List Page) (vch : Nat) : Nat :=
  (l.filter fun g => decide (g.tier = 1 ∧ g.phys / 65536 = vch)).foldl (fun a g => max a (g.phys % 65536 + pageUnits g.size)) 0

/-- A bank holds 4,096 units: 65,536 rows of 4 KiB (01_device R11). -/
def bankUnits : Nat := 4096

/-- A service-bank mask with as many banks below bank `n` added, from the highest on, as some units take. -/
def widenMask (units : Nat) : Nat → Nat → Nat
  | 0, m => m
  | n + 1, m => if units ≤ bankUnits * popcount 16 m then m else widenMask units n (m ||| 2 ^ n)

/-- Units that the service banks of a vchannel hold. -/
def Part.nearLimit (p : Part) (vch : Nat) : Nat := bankUnits * popcount 16 (tget 0 p.service vch)

/-- A byte of a channel, by its place, lies in a program bank: in a row of DRAM that belongs to T0 (09_memory R132). -/
def Part.inProgramBank (p : Part) (vch place : Nat) : Bool := !p.isService vch (place / 2 ^ 28 % 16)

/-- The memory of a channel of a partition as its banks hold it: T0 rows in program banks, T1 units in service banks, and so 4 GiB in all
(01_device R11; 09_memory R132). -/
def Part.fit (p : Part) (s : State) (e : Nat × Nat) : State :=
  { s with
    dram := s.dram.filter fun c => decide (c.1 / 2 ^ 32 ≠ e.2) || p.inProgramBank e.1 c.1
    t1 := s.t1.filter fun c => decide (c.1 / 2 ^ 32 ≠ e.2 ∨ c.1 % 2 ^ 32 / 65536 < p.nearLimit e.1) }

/-- Every channel of a partition so. -/
def fitChannels (vf : Nat) (s : State) : State := (s.part vf).chanTable.foldl (s.part vf).fit s

/-- Two pages overlap, in their virtual units or behind one tier. -/
def Page.clashes (g h : Page) : Bool :=
  runsMeet g.va (pageUnits g.size) h.va (pageUnits h.size)
  || (decide (g.tier = h.tier ∧ g.tier ≤ 1) && g.resident && h.resident && runsMeet g.phys (pageUnits g.size) h.phys (pageUnits h.size))

/-! ### Translation caches (10_translation R149, R153) -/

/-- The tower of a virtual core (01_device R9). -/
def Part.tower (p : Part) (v : Nat) : Nat := p.phys v / 128

/-- A page installed in the tower cache; the oldest entry gives way when it is full. (DEDUCED: notes/assumptions/63.md) -/
def installTower (vf v : Nat) (g : Page) (s : State) : State :=
  let t := (s.part vf).tower v
  let l := tget [] s.towerTlb t
  if l.contains (vf, g) then s
  else { s with towerTlb := tput s.towerTlb t ((if l.length < Config.towerCache then l else l.drop 1) ++ [(vf, g)]) }

/-- The entries of a partition that a test picks, removed from every translation cache. (DEDUCED: notes/assumptions/62.md) -/
def flush (vf : Nat) (f : Page → Bool) (s : State) : State :=
  { s.onPart vf fun p => { p with coreOf := p.coreOf.map fun e => (e.1, { e.2 with tlb := e.2.tlb.filter fun g => !f g }) } with
    towerTlb := s.towerTlb.map fun e => (e.1, e.2.filter fun x => !(decide (x.1 = vf) && f x.2)) }

/-- A handle of a page that has moved: MISS, keeping VCH, VROW and SIZE. -/
def Handle.lost (h : Handle) : Handle := ⟨.miss, false, false, h.size, 0, h.vch, h.vrow, 0⟩

/-- A VALID handle names the page. -/
def Page.named (g : Page) (h : Handle) : Bool := decide (h.st = .valid ∧ h.vch * 65536 + h.vrow = g.va)

/-- A held XLT for the page lands as MISS, with the first row and the size of the page that it had found; a MISS of XLT's own look-up names the
64 KiB page of the address instead (10_translation R146, R153). (DESIGN CHOICE: notes/assumptions/94.md) -/
def Pend.lose (g : Page) (e : Pend) : Pend :=
  match e.eff with
  | .xlt h a val => if g.named val then { e with eff := .xlt h a val.lost } else e
  | _ => e

/-- INVALIDATION (10_translation R153): the page leaves every translation cache, its handles become MISS, held XLTs land as MISS. -/
def invalidate (vf : Nat) (g : Page) (s : State) : State :=
  (flush vf (fun x => decide (x.va = g.va)) s).onPart vf fun p =>
    { p with coreOf := p.coreOf.map fun e =>
        (e.1, { e.2 with
          hregs := e.2.hregs.map fun h => (h.1, if g.named h.2 then h.2.lost else h.2)
          pend := e.2.pend.map (Pend.lose g) }) }

/-! ### Frames (10_translation R152) -/

/-- Free frames from one of a larger size whose first rows a page takes: what is left of it. -/
def splitFrame (place big small : Nat) : List (Nat × Nat) :=
  (List.range (pageUnits big / pageUnits small)).tail.map fun i => (place + i * pageUnits small, small)

/-- The first free frame of a vchannel that has room for a size. (DEDUCED: notes/assumptions/50.md) -/
def Part.frameFor (p : Part) (vch size : Nat) : Option (Nat × Nat) :=
  (p.freeFrames.filter fun f => decide (f.1 / 65536 = vch ∧ size ≤ f.2)).head?

/-- Rows of the free frames of a list that lie within `n` rows from a place on. -/
def rowsWithin (l : List (Nat × Nat)) (place n : Nat) : Nat :=
  (l.filter fun f => decide (place ≤ f.1 ∧ f.1 + pageUnits f.2 ≤ place + n)).foldl (fun a f => a + pageUnits f.2) 0

/-- Free frames with those of an aligned run joined into one of a size, if free frames fill such a run of the vchannel. -/
def joinFrames (l : List (Nat × Nat)) (vch size : Nat) : List (Nat × Nat) :=
  let n := pageUnits size
  match ((List.range (65536 / n)).filter fun i => decide (rowsWithin l (vch * 65536 + i * n) n = n)).head? with
  | none => l
  | some i =>
    let place := vch * 65536 + i * n
    (place, size) :: l.filter fun f => !decide (place ≤ f.1 ∧ f.1 + pageUnits f.2 ≤ place + n)

/-- Free frames joined where no single one has room for a page. -/
def Part.joined (p : Part) (vch size : Nat) : Part :=
  if (p.frameFor vch size).isSome then p else { p with freeFrames := joinFrames p.freeFrames vch size }

/-- A resident T0 page leaves its rows: its contents are kept, its frame becomes free, and it is invalidated. -/
def evict (vf : Nat) (g : Page) (s : State) : State :=
  let p := s.part vf
  let n := pageUnits g.size
  let ch := p.channel g.vch
  (invalidate vf g { s with dram := eraseRows s.dram ch g.row n }).onPart vf fun q =>
    { q.setPage { g with resident := false } with
      outPages := tput q.outPages g.va (rowsOf s.dram ch g.row n)
      freeFrames := q.freeFrames ++ [(g.phys, g.size)] }

/-- A page put into a free frame. -/
def settle (vf : Nat) (g : Page) (f : Nat × Nat) (s : State) : State :=
  let p := s.part vf
  let g' := { g with phys := f.1, resident := true }
  let kept := (tget [] p.outPages g.va).filter fun c => p.inProgramBank g'.vch c.1
  { s with dram := placeRows (eraseRows s.dram (p.channel g'.vch) g'.row (pageUnits g.size)) (p.channel g'.vch) g'.row kept }.onPart vf fun q =>
    { q.setPage g' with
      outPages := tdel q.outPages g.va
      freeFrames := q.freeFrames.erase f ++ splitFrame f.1 f.2 g.size }

/-- The pages that may be evicted for a page: resident T0 pages of its channel that are not pinned. (DEDUCED: notes/assumptions/50.md) -/
def Part.victims (p : Part) (g : Page) : List Page :=
  p.pages.filter fun x => x.resident && decide (x.tier = 0 ∧ x.vch = g.va / 65536) && !p.pinned x

/-- An element of a list that the Belfry chooses. -/
def pick {α : Type} (n : Nat) (l : List α) : Option α := (l.drop (Config.choose n % l.length)).head?

/-- A page brought into a frame, within `n` evictions. -/
def bringWithin (vf : Nat) (g : Page) : Nat → State → Option State
  | 0, _ => none
  | n + 1, s =>
    let s := s.onPart vf fun p => p.joined (g.va / 65536) g.size
    match (s.part vf).frameFor (g.va / 65536) g.size with
    | some f => some (settle vf g f s)
    | none =>
      match pick s.oracle ((s.part vf).victims g) with
      | none => none
      | some x => bringWithin vf g n (evict vf x { s with oracle := s.oracle + 1 })

/-- A page that is mapped but not resident is brought into a free frame, or into one made by evicting pages one after the other; none where
every resident page of its channel is pinned before there is room (10_translation R152). (DEDUCED: notes/assumptions/50.md) -/
def bringIn (vf : Nat) (g : Page) (s : State) : Option State := bringWithin vf g ((s.part vf).pages.length + 1) s

/-- The page that covers a unit, made resident. -/
def residentPage (vf u : Nat) (s : State) : Option State :=
  match (s.part vf).pageAt u with
  | none => some s
  | some g => if g.resident then some s else bringIn vf g s

/-! ### The memories behind T1, T2 and T3 (09_memory R140) -/

/-- An address's place behind its page. -/
def Page.place (g : Page) (a : Nat) : Nat := g.phys * 65536 + (a - g.va * 65536)

/-- The address in the device's T1 memory. -/
def Page.t1Place (p : Part) (g : Page) (a : Nat) : Nat := p.dramAddr (g.place a)

/-- The address in the memory of another device. -/
def Page.remotePlace (g : Page) (dev a : Nat) : Nat := dev * 2 ^ 64 + g.place a

/-- A byte behind a T1, T2 or T3 page. -/
def tierByte (s : State) (p : Part) (g : Page) (dev a : Nat) : Byte :=
  match g.tier with
  | 1 => memGet s.t1 (g.t1Place p a)
  | 2 => memGet s.host (g.place a)
  | _ => memGet s.remote (g.remotePlace dev a)

/-- A byte written behind a T1 or T2 page. -/
def tierStore (p : Part) (g : Page) (s : State) (a : Nat) (b : Byte) : State :=
  match g.tier with
  | 1 => { s with t1 := memWrite s.t1 (g.t1Place p a) [b] }
  | 2 => { s with host := memWrite s.host (g.place a) [b] }
  | _ => s

/-- Bytes written behind their page. -/
def tierWrite (p : Part) (g : Page) (cs : List (Nat × Byte)) (s : State) : State := cs.foldl (fun s c => tierStore p g s c.1 c.2) s

/-- Address and value of the bytes of a little-endian number. -/
def numCells (addr n v : Nat) : List (Nat × Byte) := (leBytes n v).zipIdx.map fun e => (addr + e.2, e.1)

/-- The place of a byte of a T0 page within its channel (09_memory R131). -/
def Page.timedPlace (g : Page) (a : Nat) : Nat :=
  a / 2 ^ 12 % 16 * 2 ^ 28 + (g.row + (a / 65536 - g.va)) % 65536 * 2 ^ 12 + a % 2 ^ 12

/-- The place of a byte of a T0 page within contents kept outside DRAM. -/
def Page.keptPlace (g : Page) (a : Nat) : Nat := a / 2 ^ 12 % 16 * 2 ^ 28 + (a / 65536 - g.va) * 2 ^ 12 + a % 2 ^ 12

/-! ### Pages that the Belfry places anew (09_memory R140; 10_translation R153) -/

/-- The place in a page's rows, bank first, of a byte offset in the page; and the offset of a place. -/
def rowPlace (o : Nat) : Nat := o / 2 ^ 12 % 16 * 2 ^ 28 + o / 65536 * 2 ^ 12 + o % 2 ^ 12
def rowOffset (x : Nat) : Nat := x / 2 ^ 12 % 65536 * 65536 + x / 2 ^ 28 * 2 ^ 12 + x % 2 ^ 12

/-- The cells of a memory in a range, counted from its start. -/
def rangeOf (m : Mem) (a n : Nat) : Mem := (m.filter fun c => decide (a ≤ c.1 ∧ c.1 < a + n)).map fun c => (c.1 - a, c.2)

/-- A range of a memory filled with cells counted from its start. -/
def fillRange (m : Mem) (a n : Nat) (cs : Mem) : Mem := writeCells (m.filter fun c => !decide (a ≤ c.1 ∧ c.1 < a + n)) a cs

/-- Bytes of a page. -/
def Page.bytes (g : Page) : Nat := pageUnits g.size * 65536

/-- What lies behind a page of T1, T2 or T3, by offset; what lies behind a T3 page is free. (DESIGN CHOICE: notes/assumptions/92.md) -/
def behindPage (s : State) (p : Part) (g : Page) : Mem :=
  match g.tier with
  | 1 => rangeOf s.t1 (g.t1Place p (g.va * 65536)) g.bytes
  | 2 => rangeOf s.host (g.phys * 65536) g.bytes
  | _ => (List.range g.bytes).map fun o => (o, Config.remoteByte s.oracle o)

/-- A page taken from where it stands: invalidated, and its contents kept as those of a T0 page that is not resident. -/
def lift (vf : Nat) (g : Page) (s : State) : State :=
  if g.tier = 0 then (if g.resident then evict vf g s else s)
  else (invalidate vf g { s with oracle := if g.tier = 3 then s.oracle + 1 else s.oracle }).onPart vf fun q =>
    { q with outPages := tput q.outPages g.va ((behindPage s (s.part vf) g).foldl (fun m c => memWrite m (rowPlace c.1) [c.2]) []) }

/-- A lifted page put behind a tier other than T0; the memory of another device does not change here. (DESIGN CHOICE: notes/assumptions/92.md) -/
def setBehind (vf : Nat) (g : Page) (s : State) : State :=
  let p := s.part vf
  let cs : Mem := (tget [] p.outPages g.va).foldl (fun m c => memWrite m (rowOffset c.1) [c.2]) []
  (match g.tier with
    | 1 => { s with t1 := fillRange s.t1 (g.t1Place p (g.va * 65536)) g.bytes cs }
    | 2 => { s with host := fillRange s.host (g.phys * 65536) g.bytes cs }
    | _ => s).onPart vf fun q => { q.setPage g with outPages := tdel q.outPages g.va }

/-- A byte written behind a T0 page, wherever its contents stand: in DRAM, among rows copied out, or outside when it is not resident. In a
service bank the page holds nothing (09_memory R132). -/
def timedStore (vf : Nat) (g : Page) (a : Nat) (b : Byte) (s : State) : State :=
  let p := s.part vf
  if !p.inProgramBank g.vch (g.keptPlace a) then s
  else if g.resident then
    match tfind p.outChans g.vch with
    | some m => s.setPart vf { p with outChans := tput p.outChans g.vch (memWrite m.1 (g.timedPlace a) [b], m.2) }
    | none => { s with dram := memWrite s.dram (p.channel g.vch * 2 ^ 32 + g.timedPlace a) [b] }
  else s.setPart vf { p with outPages := tmod [] p.outPages g.va fun m => memWrite m (g.keptPlace a) [b] }

def timedByte (s : State) (vf : Nat) (g : Page) (a : Nat) : Byte :=
  let p := s.part vf
  if !p.inProgramBank g.vch (g.keptPlace a) then Config.strayByte a
  else if g.resident then
    match tfind p.outChans g.vch with
    | some m => memGet m.1 (g.timedPlace a)
    | none => memGet s.dram (p.channel g.vch * 2 ^ 32 + g.timedPlace a)
  else memGet (tget [] p.outPages g.va) (g.keptPlace a)

/-- A byte behind a T1 page of a partition whose channel may have been reassigned. -/
def nearStore (vf : Nat) (g : Page) (a : Nat) (b : Byte) (s : State) : State :=
  let p := s.part vf
  match tfind p.outChans g.vch with
  | some m => s.setPart vf { p with outChans := tput p.outChans g.vch (m.1, memWrite m.2 (g.place a % 2 ^ 32) [b]) }
  | none => tierStore p g s a b

def nearByte (s : State) (vf : Nat) (g : Page) (a : Nat) : Byte :=
  let p := s.part vf
  match tfind p.outChans g.vch with
  | some m => memGet m.2 (g.place a % 2 ^ 32)
  | none => tierByte s p g 0 a

/-- A byte written at a virtual address by the Belfry, the loader or the dispatcher: nothing where no page of this package maps it. In a T0 page
a completion word is written in the page's rows (15_tasks R229). (DESIGN CHOICE: notes/assumptions/116.md) -/
def virtualStore (vf : Nat) (s : State) (a : Nat) (b : Byte) : State :=
  match (s.part vf).pageAt (a / 65536) with
  | none => s
  | some g =>
    match g.tier with
    | 0 => timedStore vf g a b s
    | 1 => nearStore vf g a b s
    | 2 => tierStore (s.part vf) g s a b
    | _ => s

/-- A number written at a virtual address. -/
def virtualWrite (vf addr n v : Nat) (s : State) : State := (numCells addr n v).foldl (fun s c => virtualStore vf s c.1 c.2) s

/-- A byte read at a virtual address by the loader or the dispatcher. A node that a LAUNCH names in a T0 page, for which 15_tasks R227 names no
outcome, is read from that page; one in a T3 page or at an unmapped address is a free value (DESIGN CHOICE: notes/assumptions/108.md). -/
def virtualByte (s : State) (vf a : Nat) : Byte :=
  match (s.part vf).pageAt (a / 65536) with
  | none => Config.strayByte a
  | some g =>
    match g.tier with
    | 0 => timedByte s vf g a
    | 1 => nearByte s vf g a
    | 2 => tierByte s (s.part vf) g 0 a
    | _ => Config.strayByte a

/-- The `n` bytes at a virtual address, as a number. -/
def virtualRead (s : State) (vf a n : Nat) : Nat := leNat ((List.range n).map fun i => virtualByte s vf (a + i))

/-! ### Atomics, and flits of other devices (13_ordering R210, R212) -/

/-- The value that an AOP stores: operations 0 add, 1 min, 2 max, 3 swap, 4 cas, 5 and, 6 or, on numbers of `w` bits. -/
def aopNew (fn w old a b : Nat) : Nat :=
  match fn with
  | 0 => (old + a) % 2 ^ w
  | 1 => if signed w a < signed w old then a else old
  | 2 => if signed w old < signed w a then a else old
  | 3 => a
  | 4 => if old = a then b else old
  | 5 => old &&& a
  | _ => old ||| a

/-- An address of this device's DRAM, of 128 channels of 4 GiB, lies in the service banks of the partition that holds its channel
(01_device R11; 09_memory R132). -/
def State.isNear (s : State) (a : Nat) : Bool :=
  s.parts.any fun e => e.2.chanTable.any fun c =>
    decide (c.2 = a / 2 ^ 32 ∧ a / 2 ^ 32 < 128 ∧ a % 2 ^ 32 / 65536 < e.2.nearLimit c.1)

/-- What another device's flit does here: addresses are those of this device's T1 memory; one beyond its service banks names nothing, so that
what a write holds for there is lost and an AOP reads a free value (01_device R11; 09_memory R132). (DEDUCED: notes/assumptions/59.md) -/
def applyFlit (f : Flit) (s : State) : State × Nat :=
  match f with
  | .write cs => ({ s with t1 := writeCells s.t1 0 (cs.filter fun c => s.isNear c.1) }, 0)
  | .aop a fn n x y =>
    if (List.range n).all fun i => s.isNear (a + i) then
      let old := leNat (memRead s.t1 a n)
      ({ s with t1 := memWrite s.t1 a (leBytes n (aopNew fn (8 * n) old x y)) }, old)
    else (s, leNat ((List.range n).map fun i => Config.strayByte (a + i)))

/-- A flit performed and acknowledged. -/
def performFlit (core dev scope seq : Nat) (f : Flit) (s : State) : State :=
  (applyFlit f s).1.emit (.ack core dev scope seq (applyFlit f s).2)

end Sys2Proof.Machine
end

