-- ==== Sys2Proof/Machine/Tasks.lean ====
section
/-! DEFINITION. Task nodes, queues, dispatch, completion, failure and the fault handler (10_translation R152, R153; 15_tasks R226 to R237;
16_faults R246, R247; 17_partitions R262 to R268; 18_fabric_host R273, R279, R280). -/

namespace Sys2Proof.Machine

/-! ### The partition's condition (17_partitions R262) -/

/-- PSTAT.STATE. -/
def Part.status (p : Part) : Nat :=
  match p.resid with
  | .switchedOut => 3
  | .cold => 4
  | .pagingOut => 5
  | .pagingIn => 6
  | .bound _ =>
    if p.stops.any Stop.isFault then 2
    else if p.task.isSome || p.loading.isSome then 1
    else 0

/-- No task runs or is being loaded. -/
def Part.isIdle (p : Part) : Bool := p.task.isNone && p.loading.isNone

/-! ### Nodes (15_tasks R227, R229, R230) -/

/-- Bits `lo` to `lo + w − 1` of a number. -/
def bitsOf (v lo w : Nat) : Nat := v / 2 ^ lo % 2 ^ w

/-- The node that 512 bits hold. -/
def nodeOf (v : Nat) : Node :=
  { id := bitsOf v 0 32, image := bitsOf v 32 32, argAddr := bitsOf v 64 64, argLines := bitsOf v 128 5
    deps := (List.range (bitsOf v 133 3)).map fun i => bitsOf v (256 + 32 * i) 32
    done := bitsOf v 384 64 }

/-- Reserved bits are zero and every field is in range (15_tasks R227). -/
def nodeLegal (v : Nat) : Bool :=
  decide (bitsOf v 136 120 = 0 ∧ bitsOf v 448 64 = 0 ∧ bitsOf v 128 5 ≤ 16 ∧ bitsOf v 133 3 ≤ 4
    ∧ bitsOf v 64 64 % 256 = 0 ∧ bitsOf v 384 64 % 8 = 0)

/-- A node whose completion word waits at a service port; one refused at acceptance never was pending (15_tasks R229, R230). -/
def T1Req.pending (r : Nat × T1Req) : Option Node :=
  match r.2 with
  | .word _ _ _ .refused => none
  | .word n _ _ _ => some n
  | _ => none

/-- The nodes of a partition that are pending, until their completion words are written: queued, loading, running, or done. -/
def Part.pendingNodes (p : Part) : List Node :=
  p.queue ++ (p.loading.map fun l => l.1).toList ++ (p.task.map fun t => t.node).toList ++ p.t1Queue.filterMap T1Req.pending

/-- Features committed while the partition was busy come into force when it is idle and no node of it is pending (18_fabric_host R280). -/
def Part.applyFeatures (p : Part) : Part :=
  match p.featuresNext with
  | some f => if p.pendingNodes.isEmpty then { p with features := f, featuresNext := none } else p
  | none => p

/-- A commit has succeeded, whether or not its features are in force yet (18_fabric_host R280). -/
def Part.committed (p : Part) : Bool := decide (p.features ≠ 0) || p.featuresNext.isSome

/-- The node ids pending in the package (15_tasks R230). -/
def State.pendingIds (s : State) : List Nat := (s.parts.map fun e => e.2.pendingNodes.map fun n => n.id).flatten

/-- The image is one of the partition's tenant. -/
def State.hasImage (s : State) (p : Part) (i : Nat) : Bool :=
  (tfind s.images i).isSome && decide (tget 0 s.imageTenant i = p.tenant)

/-- An image is too large for a partition (15_tasks R229). -/
def Part.tooSmall (p : Part) (m : Image) : Bool := decide (p.cores < m.cores ∨ p.channels < m.vchannels)

/-- A node is refused at acceptance with STATUS 0x8000_0012. -/
def State.refusesNode (s : State) (vf v : Nat) : Bool :=
  let p := s.part vf
  let n := nodeOf v
  !nodeLegal v
  || (decide (n.image ≠ 0) && (!s.hasImage p n.image || (match tfind s.images n.image with
      | some m => p.tooSmall m
      | none => true)))
  || s.pendingIds.contains n.id

/-- The service port that an access of a virtual address waits at: that of the T1 page of a bound partition (09_memory R142).
(DEDUCED: notes/assumptions/98.md) -/
def Part.portOf (p : Part) (a : Nat) : Option Nat :=
  if p.isBound then (p.pageAt (a / 65536)).bind fun g => if g.tier = 1 then some g.vch else none else none

/-- A request joins the queue of a service port. -/
def Part.ask (p : Part) (vch : Nat) (r : T1Req) : Part := { p with t1Queue := p.t1Queue ++ [(vch, r)] }

/-- A completion word (15_tasks R229): written with release at SYS scope; the virtual function's vector fires. -/
def writeWord (vf : Nat) (n : Node) (status hi : Nat) (s : State) : State :=
  (virtualWrite vf n.done 8 (status + hi % 2 ^ 32 * 2 ^ 32) s).notify vf false

/-- A node completes: its completion word is written, and `next` follows; a word behind a T1 page waits at the service port, and the node is
pending until then (09_memory R142; 15_tasks R229, R230) (DEDUCED: notes/assumptions/98.md). The word of a node that is refused for a DONE
that is not aligned is written all the same, at that address. (DESIGN CHOICE: notes/assumptions/116.md) -/
def completeNode (vf : Nat) (n : Node) (status hi : Nat) (after : After) (next : State → State) (s : State) : State :=
  match (s.part vf).portOf n.done with
  | some vch => s.onPart vf fun p => p.ask vch (.word n status hi after)
  | none => next (writeWord vf n status hi s)

def statusDone : Nat := 1
def statusFailed : Nat := 0x80000010
def statusCancelled : Nat := 0x80000011
def statusRefused : Nat := 0x80000012
def statusFull : Nat := 0x80000013

/-- The Belfry starts to read a cold context back, but never one that has failed its check, and none once it serves nothing any more; a
page-out that runs is completed first (16_faults R247; 17_partitions R267, R268). -/
def beginRestore (vf : Nat) (s : State) : State :=
  let p := s.part vf
  match p.resid with
  | .cold =>
    if p.corrupt || s.belfryDown then s
    else
      let d := s.drawDelay
      d.2.setPart vf { p with resid := .pagingIn, resumeAt := some (s.tabor + d.1) }
  | .pagingOut => s.setPart vf { p with wantRestore := true }
  | _ => s

/-- ACCEPTANCE of the node that 512 bits hold in a partition's queue (15_tasks R229, R230), and the restore of a cold partition. A node that is
refused for itself and also meets a full queue reports the former. (DESIGN CHOICE: notes/assumptions/116.md) -/
def acceptNode (vf v : Nat) (s : State) : State :=
  let n := nodeOf v
  beginRestore vf
    (if s.refusesNode vf v then completeNode vf n statusRefused 0 .refused id s
    else if Config.queueLimit ≤ (s.part vf).pendingNodes.length then completeNode vf n statusFull 0 .refused id s
    else s.onPart vf fun p => { p with queue := p.queue ++ [n] })

/-- Every dependence names no pending node (15_tasks R230). -/
def State.ready (s : State) (n : Node) : Bool := n.deps.all fun d => !s.pendingIds.contains d

/-- Nodes that the Belfry's T1 page for a partition's submissions has room for (DEDUCED: notes/assumptions/46.md). -/
def nodeSlots : Nat := 1024

/-- The Belfry copies a node of host memory into its T1 page (18_fabric_host R279). From an address that is not 64-byte aligned, for which
15_tasks R227 names no outcome, it copies the 64 bytes there and judges them as a node (DESIGN CHOICE: notes/assumptions/108.md). -/
def copyNode (vf addr : Nat) (s : State) : State :=
  s.onPart vf fun p =>
    { p with nodePage := memWrite p.nodePage (64 * (p.nodeCount % nodeSlots)) (memRead s.host addr 64), nodeCount := p.nodeCount + 1 }

/-- The node that the Belfry copied last. -/
def Part.lastNode (p : Part) : Nat := leNat (memRead p.nodePage (64 * ((p.nodeCount - 1) % nodeSlots)) 64)

/-- QSUB_WRITE (18_fabric_host R279, R280): discarded until a commit succeeds. (DEDUCED: notes/assumptions/46.md) -/
def execQsubWrite (vf addr : Nat) (s : State) : Host.Outcome State Fault Refusal :=
  .next (if (s.part vf).live && (s.part vf).committed && !s.belfryDown then
      let t := copyNode vf addr s
      acceptNode vf (t.part vf).lastNode t
    else s)

/-- A launch that may be read: due, with no earlier engine command of its core in flight (15_tasks R231). (DEDUCED: notes/assumptions/72.md) -/
def Core.launchReady (c : Core) (tabor : Nat) (l : Nat × Nat × Nat × Nat) : Bool :=
  decide (l.2.2.2 ≤ tabor) && c.cmds.all fun k => decide (l.1 ≤ k.id)

/-- The partition whose queue a LAUNCH names still exists, and is still of the launching tenant: what one tenant sends never reaches another
(17_partitions R261). -/
def State.launchable (s : State) (vf q : Nat) : Bool := (s.part q).live && decide ((s.part q).tenant = (s.part vf).tenant)

/-- The node that a LAUNCH names, read through the pages of the launching partition and accepted or refused. Where the partition whose queue it
names has been deleted since the issue, it is dropped: nothing is read, and no completion word is written
(DESIGN CHOICE: notes/assumptions/117.md). -/
def takeLaunch (vf q a : Nat) (s : State) : State := if s.launchable vf q then acceptNode q (virtualRead s vf a 64) s else s

/-- LAUNCH_NODE_READ (15_tasks R231): a node behind a T1 page is read through the service port (09_memory R142).
(DEDUCED: notes/assumptions/46.md) (DEDUCED: notes/assumptions/72.md) (DEDUCED: notes/assumptions/98.md) -/
def execLaunchNodeRead (vf core : Nat) (s : State) : Host.Outcome State Fault Refusal :=
  let c := s.core vf core
  .next (match (c.launches.filter (c.launchReady s.tabor)).head? with
    | some l =>
      let t := s.onCore vf core fun c => { c with launches := c.launches.erase l }
      (match (s.part vf).portOf l.2.2.1 with
       | some vch => t.onPart vf fun p => p.ask vch (.launch l.2.1 l.2.2.1)
       | none => takeLaunch vf l.2.1 l.2.2.1 t)
    | none => s)

/-! ### Error tokens (15_tasks R237) -/

/-- The nodes of a partition that are pending and have not started: queued, or being loaded (15_tasks R230, R232). A node that runs is pending
too; one that names a failed node as its dependence goes on: R237 cancels nodes "without running" (DESIGN CHOICE: notes/assumptions/125.md). -/
def Part.unstarted (p : Part) : List Node := p.queue ++ (p.loading.map fun l => l.1).toList

/-- The nodes of the package that have not started and depend on one of some ids: virtual function and node. -/
def State.dependents (s : State) (ids : List Nat) : List (Nat × Node) :=
  (s.parts.map fun e => (e.2.unstarted.filter fun n => n.deps.any ids.contains).map fun n => (e.1, n)).flatten

/-- What follows when a partition may have become idle (18_fabric_host R280). -/
def settleFeatures (vf : Nat) (s : State) : State := s.onPart vf Part.applyFeatures

/-- What a core keeps when its task ends: translations, and launches not yet read (DEDUCED: notes/assumptions/74.md). The wakes that the task
has chosen bound none of the next task's (12_power R185). (DESIGN CHOICE: notes/assumptions/114.md) -/
def Core.freed (c : Core) : Core :=
  { Core.fresh with tlb := c.tlb, launches := c.launches.map fun l => (0, l.2) }

/-- A request that ends with its task. -/
def T1Req.ofTask : T1Req → Bool
  | .cmd _ _ => true
  | .arg _ => true
  | _ => false

/-- A node that is being loaded is taken off the cores again; a node without a task changes no other condition of the partition. -/
def Part.unload (p : Part) : Part :=
  { p with
    loading := none, loadedAt := none, loads := [], portMask := [], t1Queue := p.t1Queue.filter fun e => !e.2.ofTask
    coreOf := p.coreOf.map fun (e : Nat × Core) => (e.1, e.2.freed), preempt := none, preemptTold := false, clampOn := false }

/-- A node is no longer queued, nor loading. -/
def Part.withdraw (p : Part) (id : Nat) : Part :=
  let q := { p with queue := p.queue.filter fun n => decide (n.id ≠ id) }
  if p.loading.any fun l => decide (l.1.id = id) then q.unload else q

/-- A node cancelled; its partition may have become idle. -/
def cancelNode (root : Nat) (s : State) (e : Nat × Node) : State :=
  completeNode e.1 e.2 statusCancelled root .plain (settleFeatures e.1) (s.onPart e.1 fun p => p.withdraw e.2.id)

/-- Every pending node whose dependences name a failed node, directly or through cancelled ones, completes as cancelled. -/
def cancelDependents (root : Nat) : Nat → List Nat → State → State
  | 0, _, s => s
  | n + 1, ids, s =>
    let ds := s.dependents ids
    if ds.isEmpty then s else cancelDependents root n (ds.map fun e => e.2.id) (ds.foldl (cancelNode root) s)

/-- An error token is sent. -/
def errorToken (id : Nat) (s : State) : State := cancelDependents id (s.pendingIds.length + 1) [id] s

/-! ### Unbinding (17_partitions R264, R265) -/

/-- What follows a completion word, but for the end of a slice that waits for it (15_tasks R229, R235, R237). -/
def afterWord (vf : Nat) (n : Node) (after : After) (s : State) : State :=
  match after with
  | .refused => s
  | .plain => settleFeatures vf s
  | .token => settleFeatures vf (errorToken n.id s)
  | .task => settleFeatures vf s
  | .failed report =>
    let t := errorToken n.id s
    settleFeatures vf ((if report then t.notify vf true else t).onPart vf fun p => { p with qfrozen := false })

/-- A request at a service port of a partition that is unbound: it is served before its channel can pass on (09_memory R142; 17_partitions
R265). (DEDUCED: notes/assumptions/98.md) -/
def serveUnbound (vf : Nat) (s : State) (r : Nat × T1Req) : State :=
  match r.2 with
  | .cmd _ _ => s
  | .flit core dev scope seq f => performFlit core dev scope seq f s
  | .word n status hi after => afterWord vf n after (writeWord vf n status hi s)
  | .launch q a => takeLaunch vf q a s
  | .arg _ => s

/-- A handle as a context holds it: STATE, VCH, VROW and SIZE, and no physical field (10_translation R154). -/
def Handle.virtual (h : Handle) : Handle := { h with rp := false, wp := false, tier := 0, prow := 0 }

/-- A held XLT as a context holds it: its address, and what it will find is looked up again (10_translation R154). -/
def Pend.virtual (e : Pend) : Pend :=
  match e.eff with
  | .xlt h a val => { e with eff := .xlt h a ⟨val.st, false, false, 0, 0, 0, 0, 0⟩ }
  | _ => e

/-- A core's handles and held XLTs without their physical fields. -/
def Core.virtual (c : Core) : Core :=
  { c with hregs := c.hregs.map fun (h : Nat × Handle) => (h.1, h.2.virtual), pend := c.pend.map Pend.virtual }

/-- The partition leaves its hard partition: holds end, translations are forgotten, its rows stay in their channels; what waits at its service
ports is served first. (DEDUCED: notes/assumptions/62.md) (DEDUCED: notes/assumptions/98.md) -/
def unbind (vf : Nat) (s : State) : State :=
  (s.part vf).t1Queue.foldl (serveUnbound vf) ((flush vf (fun _ => true) s).onPart vf fun p =>
    { p with
      resid := .switchedOut, coreTable := if p.multi then p.coreTable else []
      coreOf := p.coreOf.map fun (e : Nat × Core) => (e.1, e.2.virtual), hold := none, holdNext := none, holdTold := p.holdAsked
      policy := 0, alignAt := none, t1Queue := [], stops := p.stops.filter fun x => decide (x = .rail) })

/-- When the Belfry will take a switched-out partition back is its own choice. -/
def armResume (vf : Nat) (s : State) : State :=
  let d := s.drawDelay
  d.2.onPart vf fun p => { p with resumeAt := some (s.tabor + d.1) }

/-- Command 1, if it is pending, is done (17_partitions R264). -/
def Part.sliceEnded (p : Part) : Part := { p with pres := if p.pcmd = 1 ∧ p.pres = 0 then 1 else p.pres, endAfter := false }

/-- A slice ends on an idle partition: it is unbound at once (17_partitions R264). Its PT stands from now on, and its other devices are told
(02_time R28). (DEDUCED: notes/assumptions/67.md) -/
def unbindIdle (vf : Nat) (s : State) : State := armResume vf ((unbind vf (s.announce vf)).onPart vf Part.sliceEnded)

/-- Command 1 on a partition that has become idle (17_partitions R264, R268). -/
def endSliceIdle (vf : Nat) (s : State) : State :=
  let p := s.part vf
  if p.isBound && p.isIdle && decide (p.pcmd = 1 ∧ p.pres = 0) then unbindIdle vf s else s

/-- Command 1 waits for an idle partition that writes no completion word: a node that was being loaded has been cancelled. -/
def Part.sliceOver (p : Part) : Bool :=
  p.isBound && p.isIdle && decide (p.pcmd = 1 ∧ p.pres = 0) && p.t1Queue.all fun e => (T1Req.pending e).isNone

/-! ### The end of a task (15_tasks R235, R237) -/

/-- A stop that ends with the task. -/
def Stop.ofTask : Stop → Bool
  | .fault => true
  | .fail => true
  | .barrier => true
  | .preempt => true
  | _ => false

/-- The task is taken off its cores: every domain OFF, nothing in flight. The lanes that it has announced still count in the windows that hold
them (11_products R178). (DEDUCED: notes/assumptions/74.md) -/
def Part.clearTask (p : Part) : Part :=
  { p with
    task := none, loading := none, loadedAt := none, coreOf := p.coreOf.map fun (e : Nat × Core) => (e.1, e.2.freed), barriers := [], remotes := []
    clampOn := false, preempt := none, preemptTold := false, forceAlways := false, inbound := [], portMask := []
    t1Queue := p.t1Queue.filter fun e => !e.2.ofTask, away := [], awayKi := []
    handlerAt := none, failing := none, phase := 0, phasedAt := none }.releaseFrom Stop.ofTask

/-- What follows a completion word, with the end of a slice that waits for the partition to be idle (17_partitions R264, R268). -/
def followWord (vf : Nat) (n : Node) (after : After) (s : State) : State :=
  let t := afterWord vf n after s
  match after with
  | .task => endSliceIdle vf t
  | .failed _ => endSliceIdle vf t
  | _ => t

/-- A node of the partition's own queue completes. -/
def endNode (vf : Nat) (n : Node) (status hi : Nat) (after : After) (s : State) : State :=
  completeNode vf n status hi after (followWord vf n after) s

/-- The task of a partition ends with a completion word. -/
def endTask (vf status hi : Nat) (after : After) (s : State) : State :=
  match (s.part vf).task with
  | none => s
  | some t => endNode vf t.node status hi after (s.onPart vf Part.clearTask)

/-- An effect that a task's completion, and a park, wait for: a chosen wake is no effect of an op. (DEDUCED: notes/assumptions/76.md) -/
def Pend.blocks (e : Pend) : Bool :=
  match e.eff with
  | .wakeStart _ => false
  | _ => true

/-- No timed effect is pending (15_tasks R235; 16_faults R251). (DEDUCED: notes/assumptions/76.md) -/
def Part.quiet (p : Part) : Bool := p.inbound.isEmpty && p.coreOf.all fun e => !e.2.pend.any Pend.blocks

/-- No engine command is in flight. -/
def Part.engineFree (p : Part) : Bool := p.coreOf.all fun e => e.2.cmds.isEmpty

/-- A command that a drain has cancelled, of which only the flag is still to be written (16_faults R253). -/
def Cmd.cancelled (k : Cmd) : Bool := decide (k.status = 0x80000003)

/-- The flag's place: in a scratchpad, or at a virtual address. -/
def Cmd.flagPlace (k : Cmd) : Nat ⊕ Nat :=
  match k.kind with
  | .enq _ => if recSpace k.dst = 0 then .inl (enqFlag k.dst) else .inr (enqFlag k.dst)
  | _ => .inl (256 * k.flagl)

/-- A cancelled command's flag waits for a scratchpad bank that is not ON: it is written once the bank is (12_power R187; 16_faults R253).
(DEDUCED: notes/assumptions/100.md) -/
def Core.awaitsBank (c : Core) (k : Cmd) : Bool :=
  k.cancelled && (match k.flagPlace with
    | .inl a => decide (c.dom (bankDom (a / 256)) ≠ .on)
    | .inr _ => false)

/-- A drain is over: no command is in flight but cancelled ones whose flags wait for their banks. -/
def Part.drained (p : Part) : Bool := p.coreOf.all fun e => e.2.cmds.all e.2.awaitsBank

/-- The completion conditions of 15_tasks R235: those of this device, and every core of another as that device reports it.
(DEDUCED: notes/assumptions/40.md) -/
def Part.finished (p : Part) : Bool :=
  p.task.isSome && ((List.range p.taskCores).all fun v => decide (p.condOf v = .ended)) && p.quiet && p.engineFree
  && !p.stops.any Stop.isFault && p.failing.isNone

/-- TASK_COMPLETION (15_tasks R235). (DEDUCED: notes/assumptions/40.md) -/
def execTaskCompletion (vf : Nat) (s : State) : Host.Outcome State Fault Refusal :=
  .next (if (s.part vf).finished then endTask vf statusDone 0 .task s else s)

/-- WATCHDOG (15_tasks R236). -/
def execWatchdog (vf : Nat) (s : State) : Host.Outcome State Fault Refusal :=
  let p := s.part vf
  .next (match p.task with
    | some t => if 0 < t.watchdog ∧ t.t0 + t.watchdog ≤ p.pt then raise vf (deadlineFault p 0x71 t.watchdog) s else s
    | none => s)

/-! ### Dispatch and start (15_tasks R228, R232, R233; 05_assembly R84) -/

/-- The service-bank mask that an image gives a vchannel (09_memory R132). -/
def serviceMask (m : Image) (vch : Nat) : Nat := m.service.getD vch 0 % 65536

/-- The service-bank mask that the loader gives a vchannel: the image's, with the banks that the partition's T1 pages on the channel need beyond
it, since every row of a bank belongs to one tier (09_memory R132). (DESIGN CHOICE: notes/assumptions/111.md) -/
def Part.serviceOf (p : Part) (m : Image) (vch : Nat) : Nat := widenMask (nearUnits p.pages vch) 16 (serviceMask m vch)

/-- The T0 page that maps the row of a piece of timed data: none for a row of a service bank, which belongs to no T0 page (09_memory R132). -/
def Part.timedPage (p : Part) (m : Image) (d : TimedData) : Option Page :=
  match p.pageAt (d.vch * 65536 + d.row) with
  | some g => if g.tier = 0 ∧ p.serviceOf m d.vch / 2 ^ d.bank % 2 = 0 then some g else none
  | none => none

/-- A port is trained into the partition's latency class (18_fabric_host R273). (DEDUCED: notes/assumptions/81.md) -/
def Part.timedPort (p : Part) (e : Nat × Port) : Bool := p.multi && e.2.up && decide (e.2.dom ≠ 0 ∧ e.2.cls = p.delay)

/-- The section of a virtual core. -/
def sectionOf (m : Image) (v : Nat) : Option Section := (m.sections.filter fun x => decide (x.first ≤ v ∧ v ≤ x.last)).head?

/-- The words of a section's code by address. -/
def codeTable (code : List Word) : Table Word := code.zipIdx.map fun e => (e.2, e.1)

/-- An op of a bundle is a CPYX whose destination core a test picks. -/
def copiesTo (far : Nat → Bool) (e : Nat × Sticky) : Bool :=
  match decodeOp e.1 e.2.word.toNat e.2.ext.toNat with
  | .ok (.cpyx _ core _ _ _ _ _) => far core
  | _ => false

/-- Some bundle of a section, from an address on, holds such a CPYX. -/
def Core.copiesFrom (c : Core) (far : Nat → Bool) : Nat → Int → Bool
  | 0, _ => false
  | n + 1, a =>
    decide (a < c.limit) && ((c.presentOps (c.word a) 7 (a + 1)).any (copiesTo far) || c.copiesFrom far n (a + c.bundleLength a))

/-- A CPYX of a section to a core of the task leaves a device: the placement puts that core and one of the section on different devices, this
one and another (13_ordering R197; 20_ref_a_d R305). -/
def Part.copiesAway (p : Part) (m : Image) (x : Section) : Bool :=
  let cs := (List.range m.cores).filter fun v => decide (x.first ≤ v ∧ v ≤ x.last)
  { Core.fresh with store := codeTable x.code, limit := x.code.length }.copiesFrom
    (fun d => decide (d < m.cores) && cs.any fun v => p.isLocal v != p.isLocal d) x.code.length 0

/-- The group's partition on another device was created with other sizes or another class (19_belfry R290). -/
def Part.mismatched (p : Part) : Bool := p.mates.any fun e => decide (e.2 ≠ (p.cores, p.channels, p.cls))

/-- The loader refuses the image for the partition as it stands (02_time R26; 05_assembly R84; 13_ordering R197; 15_tasks R232; 19_belfry
R290). (DEDUCED: notes/assumptions/81.md) -/
def State.refusesImage (s : State) (p : Part) (m : Image) : Bool :=
  p.tooSmall m || m.timed.any (fun d => (p.timedPage m d).isNone) || decide (m.latencyClass ≠ p.cls)
  || (p.multi && (!s.ports.any p.timedPort || p.mismatched || m.sections.any (p.copiesAway m)))

/-- Cells of bytes written one by one. -/
def loadBytes (m : Mem) (bs : List (Nat × Byte)) : Mem := bs.foldl (fun m c => memWrite m c.1 [c.2]) m

/-- THE STATE OF A CORE THAT RUNS A TASK, before T0 (03_core R36; 05_assembly R84; 15_tasks R228): `args` are the argument bytes.
(DEDUCED: notes/assumptions/73.md) (DEDUCED: notes/assumptions/85.md) -/
def loadCore (m : Image) (n : Node) (v : Nat) (args : List Byte) (old : Core) : Core :=
  let ident : Table DWord :=
    [(12, BitVec.ofNat 64 v), (13, BitVec.ofNat 64 m.cores), (14, BitVec.ofNat 64 m.stage), (15, BitVec.ofNat 64 n.id)]
  let c := { old.freed with kregs := ident }
  match sectionOf m v with
  | none => c
  | some x =>
    let banks := (if n.argLines = 0 then [] else [0]) ++ x.data.map fun d => d.1 / 65536
    { c with
      fmt := BitVec.ofNat 32 (x.fmt.toNat % 4), store := codeTable x.code, limit := x.code.length, entry := x.entry, cur := x.entry, next := x.entry
      scratch := memWrite (loadBytes [] x.data) 0 args
      domains := (List.range 16).filterMap fun b => if banks.contains b then some (8 + b, .on) else none }

/-- Timed data written into the page that maps it (05_assembly R84). -/
def loadTimed (vf : Nat) (m : Image) (s : State) (d : TimedData) : State :=
  match (s.part vf).timedPage m d with
  | none => s
  | some g => (d.bytes.zipIdx).foldl (fun s e =>
      timedStore vf g ((d.vch * 65536 + d.row) * 65536 + d.bank * 4096 + d.off + e.2) e.1 s) s

/-- The reads of the lines of the argument block that lie behind T1 pages (09_memory R142). -/
def Part.argReads (p : Part) (n : Node) : List (Nat × T1Req) :=
  (List.range n.argLines).filterMap fun i => (p.portOf (n.argAddr + 256 * i)).map fun vch => (vch, .arg i)

/-- The loader sets the service banks of every vchannel: a bank that becomes one keeps no row of T0 (01_device R11; 09_memory R132).
(DESIGN CHOICE: notes/assumptions/111.md) -/
def setService (vf : Nat) (m : Image) (s : State) : State :=
  fitChannels vf (s.onPart vf fun p => { p with service := (List.range p.channels).map fun v => (v, p.serviceOf m v) })

/-- The node is taken from the queue and loaded while PT runs. Its argument bytes are read before the image's timed data is written, which matters
only where the block lies in a row of that data (DESIGN CHOICE: notes/assumptions/101.md); a line of them behind a T1 page is read when its
service port serves it. -/
def loadTask (vf : Nat) (n : Node) (m : Image) (s : State) : State :=
  let args := (List.range (256 * n.argLines)).map fun i => virtualByte s vf (n.argAddr + i)
  let d := s.drawDelay
  (m.timed.foldl (loadTimed vf m) (setService vf m d.2)).onPart vf fun p =>
    { p with
      queue := p.queue.erase n
      loading := some (n, s.tabor + d.1), loadedAt := none, t1Queue := p.t1Queue ++ p.argReads n
      portMask := (s.ports.filter p.timedPort).map fun e => e.1
      coreOf := ((List.range m.cores).filter p.isLocal).foldl (fun t v => tput t v (loadCore m n v args (tget Core.fresh t v))) p.coreOf }

/-- The dispatcher may take a node for the partition. -/
def State.mayDispatch (s : State) (p : Part) : Bool :=
  p.isBound && p.isIdle && !p.qfrozen && !s.belfryDown

/-- A node that the dispatcher takes next: a ready join node, or the oldest ready node of an idle partition.
(DEDUCED: notes/assumptions/71.md) -/
def State.nextNode (s : State) (vf : Nat) : Option Node :=
  let p := s.part vf
  if p.qfrozen || s.belfryDown || !p.live || p.corrupt then none
  else
    match (p.queue.filter fun n => s.ready n && decide (n.image = 0)).head? with
    | some n => some n
    | none => if s.mayDispatch p then (p.queue.filter s.ready).head? else none

/-- TASK_DISPATCH (15_tasks R230, R232): a join node is done at once; an image that does not fit is refused with an error token; the loader
takes the rest. (DEDUCED: notes/assumptions/71.md) -/
def execTaskDispatch (vf : Nat) (s : State) : Host.Outcome State Fault Refusal :=
  .next (match s.nextNode vf with
    | none => s
    | some n =>
      let drop := s.onPart vf fun p => { p with queue := p.queue.erase n }
      if n.image = 0 then endNode vf n statusDone 0 .plain drop
      else
        match tfind s.images n.image with
        | none => endNode vf n statusRefused 0 .token drop
        | some m => if s.refusesImage (s.part vf) m then endNode vf n statusRefused 0 .token drop else loadTask vf n m s)

/-- The task that a loaded node starts. -/
def taskOf (n : Node) (m : Image) (t0 : Nat) : Task :=
  { node := n, image := n.image, cores := m.cores, vchannels := m.vchannels, stage := m.stage, budget := m.budget, watchdog := m.watchdog
    clampable := m.clampable, snare := m.snare, t0 := t0 }

/-- Loading has ended on this device: its length is over, and every argument line is read. -/
def Part.loaded (p : Part) (tabor : Nat) : Bool :=
  (match p.loading with
    | some (_, t) => decide (t ≤ tabor)
    | none => false)
  && p.t1Queue.all fun e => match e.2 with
    | .arg _ => false
    | _ => true

/-- The PT at which loading ends on this device, once all is loaded: on one of several, the D cycles in which the others come to know of it are
part of its loading (02_time R25; 15_tasks R232). (DEDUCED: notes/assumptions/103.md) -/
def Part.loadEnd (p : Part) : Nat := if p.multi then p.pt + p.delay else p.pt

/-- The T0 of a task: the first beat boundary at or after the PT at which loading ends on every device, one for all (02_time R25; 15_tasks
R232). -/
def Part.startPt (p : Part) : Option Nat :=
  if !p.multi then some 0
  else if p.mates.all fun m => (tfind p.loads m.1).isSome then
    p.loadedAt.map fun own => nextBeat (p.mates.foldl (fun a m => max a (tget 0 p.loads m.1)) own)
  else none

/-- A loaded task starts now: PT stands at a beat boundary, and at the common T0 (15_tasks R232). -/
def Part.startable (p : Part) (tabor : Nat) : Bool :=
  p.loaded tabor && decide (p.pt % Config.beat = 0) && p.task.isNone && (match p.startPt with
    | some t => decide (t ≤ p.pt)
    | none => false)

/-- A node whose completion word waits at a service port, to be followed by an error token. -/
def T1Req.failing (r : Nat × T1Req) : Option Nat :=
  match r.2 with
  | .word n _ _ .token => some n.id
  | .word n _ _ (.failed _) => some n.id
  | _ => none

/-- A fault that the Belfry does not resolve, or a failure that is under way (15_tasks R237). -/
def Part.fails (p : Part) : Bool :=
  p.failing.isSome || (p.stops.any Stop.isFault && decide (p.frec.code ≠ 0x21 ∧ p.frec.code ≠ 0x72))

/-- The nodes that have failed, and whose error tokens are not yet sent (15_tasks R237). -/
def State.failedIds (s : State) : List Nat :=
  s.parts.flatMap fun e => (if e.2.fails then (e.2.task.map fun t => t.node.id).toList else []) ++ e.2.t1Queue.filterMap T1Req.failing

/-- Nodes that an error token of one of some nodes cancels, within `n` steps from dependent to dependent. -/
def State.doomed (s : State) : Nat → List Nat → List Nat
  | 0, _ => []
  | n + 1, ids =>
    let ds := (s.dependents ids).map fun e => e.2.id
    if ds.isEmpty then [] else ds ++ s.doomed n ds

/-- A loaded task of the partition starts now: never that of a node which depends, directly or through other nodes, on one that has failed
(15_tasks R232, R237). -/
def State.mayStart (s : State) (vf : Nat) : Bool :=
  let p := s.part vf
  p.startable s.tabor && p.loading.all fun l => !(s.doomed s.pendingIds.length s.failedIds).contains l.1.id

/-- TASK_START (02_time R19; 15_tasks R232, R233): T0 is this PT; every program bank is IDLE and every barrier empty.
(DESIGN CHOICE: notes/assumptions/58.md) -/
def execTaskStart (vf : Nat) (s : State) : Host.Outcome State Fault Refusal :=
  .next (s.onPart vf fun p =>
    if s.mayStart vf then
      match p.loading with
      | none => p
      | some (n, _) =>
        match tfind s.images n.image with
        | none => p
        | some m =>
          { p with
            loading := none, loadedAt := none, loads := [], task := some (taskOf n m p.pt), banks := [], chans := [], barriers := [], phase := 0
            phasedAt := none, away := [], awayKi := [], remotes := Config.remoteMembers n.id
            coreOf := ((List.range m.cores).filter p.isLocal).foldl (fun t v => tmod Core.fresh t v fun c => { c with cond := .running }) p.coreOf }
    else p)

/-! ### Pre-emption requests (16_faults R249; 17_partitions R264) -/

/-- A request that the Belfry receives now: CLAMP at a beat boundary for a clampable task, else a forced stop at the PT named, at least D
ahead. -/
def Part.preemptAt (p : Part) (m : Option Nat) (stopPt : Nat) : Part :=
  if m.isSome && !p.forceAlways then
    { p with preempt := some ⟨some (nextBeat (p.pt + p.delay)), none, 0, false, none⟩, preemptTold := false }
  else { p with preempt := some ⟨none, some (max stopPt (p.pt + p.delay)), 0, false, none⟩, preemptTold := false }

/-- Of two pre-emptions of one task asked for on different devices the one that takes effect first stays, the clamp before the stop
(16_faults R249). (DEDUCED: notes/assumptions/104.md) -/
def Preempt.key (r : Preempt) : List Nat := [r.clampAt.getD (r.forcedAt.getD 0), if r.clampAt.isSome then 0 else 1]

/-- A pre-emption that another device of the partition has been asked for takes effect here at the same PT (16_faults R249); where every
pre-emption of the task is forced, a stop stands in the place of the clamp (08_loops R121; 16_faults R251). -/
def Part.joinPreempt (p : Part) (clampAt forcedAt : Option Nat) : Part :=
  let new : Preempt := if p.forceAlways then ⟨none, clampAt.or forcedAt, 0, false, none⟩ else ⟨clampAt, forcedAt, 0, false, none⟩
  let takes := match p.preempt with
    | none => true
    | some r => r.frozen.isNone && !p.clampOn && lexLt new.key r.key
  if p.multi && p.isBound && !p.isIdle && takes then { p with preempt := some new, preemptTold := true } else p

/-- A pre-emption that is new to the partition's other devices: its boundary, or its stop. -/
def Part.preemptNews (p : Part) : Option (Option Nat × Option Nat) :=
  match p.preempt with
  | some r => if p.multi && !p.preemptTold && r.frozen.isNone && (r.clampAt.isSome || r.forcedAt.isSome) then some (r.clampAt, r.forcedAt) else none
  | none => none

/-- The park deadline of the task that runs or is being loaded: none when it is not clampable. -/
def State.clampable (s : State) (p : Part) : Option Nat :=
  match p.task with
  | some t => t.clampable
  | none =>
    match p.loading with
    | some (n, _) => (tfind s.images n.image).bind fun m => m.clampable
    | none => none

/-- A request for the partition: nothing for an idle one, or while one is under way. -/
def requestPreempt (vf stopPt : Nat) (s : State) : State :=
  let p := s.part vf
  if p.isBound && !p.isIdle && p.preempt.isNone && !s.belfryDown then s.setPart vf (p.preemptAt (s.clampable p) stopPt) else s

/-- A slice ends on a partition that runs a task: the Belfry chooses the forced stop. -/
def endSliceRunning (vf : Nat) (s : State) : State :=
  requestPreempt vf ((s.part vf).pt + Config.choose s.oracle) { s with oracle := s.oracle + 1 }

/-! ### Handlers (16_faults R246; 15_tasks R237) -/

/-- The task begins to fail: its queue is frozen and its commands drain. (DEDUCED: notes/assumptions/70.md) -/
def beginFail (vf code : Nat) (s : State) : State :=
  s.onPart vf fun p => { p with qfrozen := true, failing := some (code, s.tabor), handlerAt := none }

/-- TASK FAILURE, once its commands are drained (15_tasks R237): domains OFF, the completion word, the error token, the report of the fault
record, if the failure has one, and the queue unfrozen. (DEDUCED: notes/assumptions/70.md) -/
def finishFail (vf code : Nat) (s : State) : State :=
  match (s.part vf).task with
  | none => endSliceIdle vf (settleFeatures vf (s.onPart vf fun p => { p.clearTask with qfrozen := false }))
  | some _ => endTask vf statusFailed code (.failed ((s.part vf).stops.any Stop.isFault)) s

/-- The handle that a miss fault names, VALID for its page, which every cache on the way now holds (10_translation R152). -/
def resolveWith (vf v h : Nat) (g : Page) (s : State) : State :=
  (installTower vf v g s).onCore vf v fun c => { c.install g with hregs := tput c.hregs h g.handle }

/-- What waits for the handler's release: command 1 (17_partitions R268). -/
def afterRelease (vf : Nat) (s : State) : State :=
  if (s.part vf).endAfter then endSliceRunning vf (s.onPart vf fun p => { p with endAfter := false }) else s

/-- MISS RESOLUTION (10_translation R152). -/
def resolveMiss (vf : Nat) (s : State) : State :=
  let r := (s.part vf).frec
  let n := r.detail % 16
  let h := (s.core vf r.vcore).h n
  let u := h.vch * 65536 + h.vrow
  match residentPage vf u s with
  | none => beginFail vf 0x100 s
  | some t =>
    match (t.part vf).pageAt u with
    | none => beginFail vf 0x21 s
    | some g => afterRelease vf (release vf ((resolveWith vf r.vcore n g t).notify vf true))

/-- A debug break is reported: through the function's vector, and to the debugger by vector 1 of its physical function (16_faults R246;
19_belfry R291). -/
def reportBreak (vf : Nat) (s : State) : State :=
  ((s.onPart vf fun p => { p with handlerAt := none }).notify vf true).emit (.msixPf (vf / 64) 1)

/-- The handler for the code of the partition's fault record. -/
def handle (vf : Nat) (s : State) : State :=
  match (s.part vf).frec.code with
  | 0x21 => resolveMiss vf s
  | 0x72 => reportBreak vf s
  | code => beginFail vf code s

/-- FAULT_HANDLER (16_faults R246): it runs when it is due, and ends a failing task when its commands are drained. -/
def execFaultHandler (vf : Nat) (s : State) : Host.Outcome State Fault Refusal :=
  let p := s.part vf
  .next (if s.belfryDown then s
    else
      match p.failing with
      | some (code, _) => if p.drained then finishFail vf code s else s
      | none => if p.stops.any Stop.isFault && p.handlerAt.isSome then handle vf s else s)

/-- BELFRY_PANIC (16_faults R247): from now on no handler runs and nothing is dispatched, pre-empted or held.
(DESIGN CHOICE: notes/assumptions/65.md) -/
def execBelfryPanic (s : State) : Host.Outcome State Fault Refusal :=
  .next ({ s with
    fatal := s.fatal % 2 + 2, belfry := s.belfry.map fun (b : BelfryCore) => { b with mode := .machine }
    parts := s.parts.map fun (e : Nat × Part) => (e.1, { e.2 with handlerAt := none }) }.reportFatal 2)

/-! ### Pages that move (10_translation R153) -/

/-- The service banks of the page's channel reach as far as the page (01_device R11; 09_memory R132). (DESIGN CHOICE: notes/assumptions/111.md) -/
def Part.nearRoom (p : Part) (g : Page) : Bool := decide (g.tier ≠ 1 ∨ g.row + pageUnits g.size ≤ p.nearLimit g.vch)

/-- A page placed anew, in its own tier or another: a T0 page in a free frame that begins there, any other where no other page lies. Where
there is no such place nothing happens. (DEDUCED: notes/assumptions/61.md) -/
def relocate (vf : Nat) (g : Page) (tier phys : Nat) (s : State) : State :=
  let p := s.part vf
  let g' := { g with tier := tier, phys := phys, resident := true }
  if tier = 0 then
    match (p.freeFrames.filter fun f => decide (f.1 = phys ∧ phys / 65536 = g.va / 65536 ∧ g.size ≤ f.2)).head? with
    | none => s
    | some f => settle vf { g with tier := 0, resident := false } f (lift vf g s)
  else if pageLegal p.channels g' && p.nearRoom g' && !(p.pages.any fun h => decide (h.va ≠ g.va) && g'.clashes h) then setBehind vf g' (lift vf g s)
  else s

/-- A page taken out of the page tables; its rows become a free frame, unless a bank still holds one of them open: then they stay unused.
(DEDUCED: notes/assumptions/61.md) (DESIGN CHOICE: notes/assumptions/96.md) -/
def unmapPage (vf : Nat) (g : Page) (s : State) : State :=
  (invalidate vf g s).onPart vf fun p =>
    { p with
      pages := p.pages.filter fun x => decide (x.va ≠ g.va)
      outPages := tdel p.outPages g.va
      freeFrames := if g.tier = 0 && g.resident && !p.pinned g then p.freeFrames ++ [(g.phys, g.size)] else p.freeFrames }

/-- The page that begins at a virtual address, in units of 64 KiB. -/
def Part.pageFrom (p : Part) (va : Nat) : Option Page := (p.pages.filter fun g => decide (g.va = va)).head?

/-- The Belfry places a page of a bound partition anew, but never a pinned one (09_memory R140; 10_translation R153). R153 freezes the partition
first; whether a page of a switched-out one can be moved or unmapped is left open, and here it is not (DEDUCED: notes/assumptions/61.md). -/
def placePage (vf page tier phys : Nat) (s : State) : State :=
  let p := s.part vf
  match p.pageFrom page with
  | none => s
  | some g => if p.pinned g || !p.isBound || s.belfryDown then s else relocate vf g tier phys s

/-- The place that PAGE_MOVE names: rows of the page's own vchannel, a place in its own channel, or one behind its tier.
(DEDUCED: notes/assumptions/61.md) -/
def Page.movedTo (g : Page) (prow : Nat) : Nat :=
  match g.tier with
  | 0 => g.va / 65536 * 65536 + prow
  | 1 => g.phys / 65536 * 65536 + prow
  | _ => prow

/-- PAGE_MOVE (10_translation R153): a move, never of a pinned page, or an unmapping; nothing for a partition that is not bound
(DEDUCED: notes/assumptions/61.md). -/
def execPageMove (vf page unmap prow : Nat) (s : State) : Host.Outcome State Fault Refusal :=
  .next (match (s.part vf).pageFrom page with
    | none => s
    | some g =>
      if unmap = 1 then (if (s.part vf).isBound && !s.belfryDown then unmapPage vf g s else s)
      else placePage vf page g.tier (g.movedTo prow) s)

end Sys2Proof.Machine
end

