-- ==== Sys2Proof/Machine/EngineEvents.lean ====
section
/-! DEFINITION. The events of the engines, the service ports and the untimed streams (09_memory R128, R141, R142; 10_translation R155; 13_ordering
R199 to R212; 16_faults R253; 18_fabric_host R277, R278; 20_ref_a_d R298). -/

namespace Sys2Proof.Machine

/-! ### What holds a command back (13_ordering R203 to R205, R207) -/

/-- No earlier command of the core is in flight. -/
def Core.noneBefore (c : Core) (id : Nat) : Bool := c.cmds.all fun k => decide (id ≤ k.id)

/-- Fences of some kinds that bind a command let it go on. -/
def Core.pastFences (c : Core) (k : Cmd) (kind : Nat) : Bool := k.fences.all fun f => decide (f.2.1 ≠ kind ∧ f.2.1 ≠ 2) || c.noneBefore f.1

/-- The command may read: its ACQ, and acquire and full fences before it. (DEDUCED: notes/assumptions/44.md) -/
def Core.mayRead (c : Core) (k : Cmd) : Bool := (!k.acq || c.noneBefore k.id) && c.pastFences k 0

/-- The command may write: its REL, and release and full fences before it. (DEDUCED: notes/assumptions/44.md) -/
def Core.mayWrite (c : Core) (k : Cmd) : Bool := (!k.rel || c.noneBefore k.id) && c.pastFences k 1

/-! ### Idle banks (09_memory R128) -/

/-- A change of a domain is due and not yet made. -/
def Core.domainDue (c : Core) (pt d : Nat) : Bool :=
  c.pend.any fun e => decide (e.due ≤ pt) && (match e.eff with
    | .dom x _ => decide (x = d)
    | _ => false)

/-- The cycle of PT takes no timed access of a bank, and is not its maintenance cycle. -/
def Part.untouched (p : Part) (v line : Nat) : Bool :=
  decide (p.pt % 256 ≠ 255) && !((p.core v).touches.any fun t => decide (t.cycle = p.pt ∧ t.place = bankOf line))
  && (inBank (bankOf line) (p.landings v)).isEmpty

/-- A bank of a core takes an untimed access now: it is ON, it has taken no other access in this Tabor cycle and, unless PT stands, no timed
access and no maintenance falls in this cycle. While PT stands at a cycle of maintenance, or at one in which the bank has had a timed access,
the bank counts as idle: R128 does not say which it is (02_time R17, R31). (DESIGN CHOICE: notes/assumptions/122.md) -/
def Part.bankIdle (p : Part) (tabor v line : Nat) : Bool :=
  let c := p.core v
  decide (c.dom (bankDom line) = .on) && !c.domainDue p.pt (bankDom line) && decide (tget 0 c.bankUsed (bankOf line) ≤ tabor)
  && (decide (p.stage = .stand) || p.untouched v line)

/-- A bank of a core has taken an access in this Tabor cycle. -/
def Core.useBank (c : Core) (tabor line : Nat) : Core := { c with bankUsed := tput c.bankUsed (bankOf line) (tabor + 1) }

/-- A timed write still to come to the bank of a line. -/
def Eff.writesBank (e : Eff) (line : Nat) : Bool :=
  match e with
  | .storeLine l _ => decide (bankOf l = bankOf line)
  | .storeBytes a _ => decide (bankOf (a / 256) = bankOf line)
  | .mext a _ => decide (bankOf (a / 256) = bankOf line)
  | .cpyRead _ l => decide (bankOf l = bankOf line)
  | _ => false

/-- An untimed read waits for the local timed writes to its bank from bundles issued no later than its command (13_ordering R199). -/
def Core.settled (c : Core) (k : Cmd) (line : Nat) : Bool := !c.pend.any fun e => decide (e.ipt ≤ k.ipt) && e.eff.writesBank line

/-! ### Pieces -/

def Cmd.isEnq (k : Cmd) : Bool :=
  match k.kind with
  | .enq _ => true
  | _ => false

/-- The source is read by the timed phase of an ENQ. -/
def Cmd.phased (k : Cmd) : Bool := k.isEnq && decide (recSpace k.src = 0)

/-- A byte of the phase's line copies (13_ordering R208). -/
def Cmd.copyByte (k : Cmd) (a : Nat) : Byte :=
  let kind := match k.kind with
    | .enq n => n
    | _ => 0
  let i := imod (((a / 256 : Nat) : Int) - phaseLow kind k.src k.dst) 4096
  BitVec.ofNat 8 ((tget (0 : Line) k.copies i).toNat / 2 ^ (8 * (a % 256)))

/-- The source bytes of a piece still to be read. -/
def Cmd.wanted (k : Cmd) (pc : Piece) : List Nat :=
  if k.phased then [] else (pc.bytes.filterMap fun e => e.1).filter fun a => (tfind k.got a).isNone

/-- What a command knows of the source of a byte: a zero-filled element is zero (09_memory R144). -/
def Cmd.source (k : Cmd) : Option Nat → Got
  | none => .byte 0
  | some a => if k.phased then .byte (k.copyByte a) else tget (.byte 0) k.got a

/-- The bytes that a piece writes, once they are read: those whose source could be moved. How much of a command is the piece that a bad source
fails is left open: here it is the bytes from that source alone (DESIGN CHOICE: notes/assumptions/105.md). -/
def Cmd.cells (k : Cmd) (pc : Piece) : List (Nat × Byte) :=
  pc.bytes.filterMap fun e =>
    match k.source e.1 with
    | .byte b => some (e.2, b)
    | .bad _ => none

/-- The destination address and the STATUS of the byte, lowest in destination address, whose source could not be moved. -/
def Cmd.sourceFailure (k : Cmd) (pc : Piece) : Option (Nat × Nat) :=
  (pc.bytes.filterMap fun e =>
    match k.source e.1 with
    | .byte _ => none
    | .bad st => some (e.2, st)).foldl (fun (m : Option (Nat × Nat)) x =>
      match m with
      | none => some x
      | some y => if x.1 < y.1 then some x else some y) none

/-- STATUS keeps the failure that is lowest in address (13_ordering R201). -/
def Cmd.noted (k : Cmd) (addr status : Nat) : Cmd :=
  if k.status = 0 ∨ addr < k.statusAt then { k with status := status, statusAt := addr } else k

/-- The first piece is done, with `n` bytes performed now; bytes whose source could not be moved are not. A destination byte that several elements
write counts once for each of them: R201 does not say whether it counts once (DESIGN CHOICE: notes/assumptions/105.md). -/
def Cmd.performed (k : Cmd) (n : Nat) : Cmd :=
  let k' := match k.pieces.head?.bind k.sourceFailure with
    | none => k
    | some e => k.noted e.1 e.2
  { k' with pieces := k.pieces.tail, unmapped := false, bytes := k.bytes + n }

/-- The lowest destination address of what a command still has to write: of its pieces; the location of an AOP. -/
def Cmd.lowest (k : Cmd) : Nat :=
  match k.pieces.head?.map fun pc => pc.bytes.map fun e => e.2 with
  | some (a :: r) => r.foldl min a
  | _ => recBase k.dst

/-- The first piece is not performed. -/
def Cmd.failed (k : Cmd) (status : Nat) : Cmd := { k.noted k.lowest status with pieces := k.pieces.tail, unmapped := false }

/-- A read of source bytes: every byte that the command still needs and the read covers, so that it reads a sector once (13_ordering R200). -/
def Cmd.reads (k : Cmd) (covers : Nat → Bool) (f : Nat → Got) : Cmd :=
  { k with
    unmapped := false
    got := (((k.pieces.flatMap fun pc => pc.bytes.filterMap fun e => e.1).filter fun a => covers a && (tfind k.got a).isNone)).foldl
      (fun t a => tput t a (f a)) k.got }

/-- The address that the command needs next. -/
def Cmd.needs (k : Cmd) : Nat :=
  match k.kind with
  | .aop _ _ => recBase k.dst
  | _ =>
    match k.pieces with
    | [] => enqFlag k.dst
    | pc :: _ => (k.wanted pc).headD ((pc.bytes.head?.map fun e => e.2).getD 0)

def statusTimedPage : Nat := 0x80000001
def statusUnmapped : Nat := 0x80000002
def statusDrained : Nat := 0x80000003
def statusBadData : Nat := 0x80000004
def statusUnreachable : Nat := 0x80000005

/-! ### Where an address lies (10_translation R155) -/

/-- What an engine knows of an address. -/
inductive Spot where
  | unknown
  | nowhere
  | at (g : Page)
deriving DecidableEq, Repr

/-- Through the tower translation cache; a walk is needed where it misses. (DEDUCED: notes/assumptions/30.md) -/
def spotOf (s : State) (vf v : Nat) (k : Cmd) (a : Nat) : Spot :=
  if k.unmapped then .nowhere
  else match lookup (a / 65536) (towerPages s vf v) with
    | some g => .at g
    | none => .unknown

/-! ### Ports and streams (09_memory R142; 13_ordering R212; 18_fabric_host R278) -/

/-- The service port of a vchannel may issue a command now: a window of PT, or any cycle while PT stands; one command a window.
(DEDUCED: notes/assumptions/45.md) -/
def Part.portOpen (p : Part) (tabor vch : Nat) : Bool :=
  (!p.stops.isEmpty || decide (p.pt % 8 = 7)) && decide (tget 0 p.served vch ≤ tabor)

/-- The port takes a command in this cycle. -/
def Part.usePort (p : Part) (tabor vch : Nat) : Part := { p with served := tput p.served vch (tabor + 1) }

/-- The port is up, and its plane reaches the device. -/
def State.reaches (s : State) (dev port : Nat) : Bool := (tget Port.fresh s.ports port).up && !s.unreached.contains (dev, port)

/-- The plane of a device, or the next port in ascending order that reaches it. -/
def State.livePort (s : State) (dev : Nat) : Option Nat := (((List.range 32).map fun i => (dev + i) % 32).filter (s.reaches dev)).head?

/-- A stream of this device. -/
def Stream.named (t : Stream) (core dev scope : Nat) : Bool :=
  !t.incoming && decide (t.core = core ∧ t.dev = dev ∧ t.scope = scope)

def State.stream (s : State) (core dev scope : Nat) : Option Stream := (s.streams.filter fun t => t.named core dev scope).head?

/-- The port that the next flit of a stream takes: a stream moves only when every flit sent on it has been acknowledged. -/
def State.portFor (s : State) (core dev scope : Nat) : Option Nat :=
  match s.stream core dev scope with
  | none => s.livePort dev
  | some t =>
    if t.unacked.isEmpty then s.livePort dev
    else if s.reaches dev t.port then some t.port
    else none

/-- A flit of a command, with the lowest destination address of what it carries, enters its stream. On the fabric a source core bears its
physical number (01_device R9 and 13_ordering R212 name none). (DESIGN CHOICE: notes/assumptions/113.md) -/
def sendFlit (vf v dev : Nat) (k : Cmd) (port addr : Nat) (f : Flit) (s : State) : State :=
  let core := (s.part vf).phys v
  let t := (s.stream core dev k.scope).getD ⟨core, vf, v, dev, k.scope, false, 0, [], port⟩
  let t' : Stream := { t with vf := vf, own := v, port := port, seq := t.seq + 1, unacked := t.unacked ++ [⟨t.seq, k.id, addr, f⟩] }
  { s with streams := (s.streams.filter fun (x : Stream) => !x.named core dev k.scope) ++ [t'] }.emit (.untimed core dev k.scope t.seq port f)

/-- Bytes for another device enter their stream, in flits of 64 bytes (18_fabric_host R271). -/
def sendBytes (vf v dev : Nat) (k : Cmd) (port : Nat) (g : Page) (cs : List (Nat × Byte)) (s : State) : State :=
  let flits := (List.range 4).map fun q => cs.filter fun c => decide (c.1 / 64 % 4 = q)
  flits.foldl (fun s f => match f.map fun c => c.1 with
    | [] => s
    | a :: r => sendFlit vf v dev k port (r.foldl min a) (.write (f.map fun c => (g.place c.1, c.2))) s) s

/-- A flit of the command is not yet acknowledged. -/
def State.unackedOf (s : State) (core : Nat) (id : Nat) : Bool :=
  s.streams.any fun t => !t.incoming && decide (t.core = core) && t.unacked.any fun x => decide (x.cmd = id)

/-- A stream of a core of this device to a device that no plane reaches. -/
def State.lostStream (s : State) (core : Nat) (t : Stream) : Bool := !t.incoming && decide (t.core = core) && (s.livePort t.dev).isNone

/-- The lowest destination address of what a command has sent to a lost device and what it still has to write: where it fails when a device is
lost (13_ordering R201; 18_fabric_host R278). -/
def State.lostAt (s : State) (core : Nat) (k : Cmd) : Nat :=
  let sent := s.streams.flatMap fun t =>
    if !s.lostStream core t then [] else (t.unacked.filter fun x => decide (x.cmd = k.id)).map fun x => x.addr
  match sent ++ (if k.pieces.isEmpty && !sent.isEmpty then [] else [k.lowest]) with
  | [] => k.lowest
  | a :: r => r.foldl min a

/-! ### What a command does next -/

/-- The next act of a command. -/
inductive Act where
  | scratchRead
  | scratchWrite
  | memRead
  | memWrite
  | walk
  | perform
  | result
  | flag
  | giveUp
deriving DecidableEq, Repr

/-- A command that waits for a live port: it notes when it began to, and ends after 10 ms. -/
def Cmd.onPort (s : State) (k : Cmd) (port : Option Nat) (act : Act) : Option Act :=
  match port with
  | some _ => some act
  | none =>
    match k.since with
    | none => some act
    | some t => if t + Config.unreachableCycles ≤ s.tabor then some .giveUp else none

/-- An act behind a page of tier T1, T2 or T3: T1 waits at its service port once it has asked; T3 needs a live port, and waits while its stream
cannot move to the one that there is (18_fabric_host R278). (DEDUCED: notes/assumptions/30.md) -/
def directAct (s : State) (vf v : Nat) (k : Cmd) (g : Page) (dev : Nat) (act : Act) : Option Act :=
  if g.tier = 3 then
    match s.portFor ((s.part vf).phys v) dev k.scope with
    | some _ => some act
    | none => if (s.livePort dev).isSome then none else k.onPort s none act
  else some act

/-- The flag may be written: every write of the command is performed, and its order allows it. -/
def flagAct (s : State) (vf v : Nat) (k : Cmd) : Option Act :=
  let p := s.part vf
  if !(p.core v).mayWrite k then none
  else
    match k.flagPlace with
    | .inl a => if p.bankIdle s.tabor v (a / 256) then some .flag else none
    | .inr a =>
      match spotOf s vf v k a with
      | .unknown => some .walk
      | .nowhere => some .flag
      | .at g => if g.tier = 0 then some .flag else directAct s vf v k g (recDevice k.dst) .flag

/-- A move's next read, of the source byte that its first piece needs first. -/
def readAct (s : State) (vf v : Nat) (k : Cmd) (a : Nat) : Option Act :=
  let p := s.part vf
  if recSpace k.src = 0 then (if p.bankIdle s.tabor v (a / 256) && (p.core v).settled k (a / 256) then some .scratchRead else none)
  else
    match spotOf s vf v k a with
    | .unknown => some .walk
    | .nowhere => some .memRead
    | .at g => if g.tier = 3 then k.onPort s (s.livePort (recDevice k.src)) .memRead else some .memRead

/-- A command that waits for the acknowledgement of its flits can only give up. -/
def Cmd.lossAct (s : State) (k : Cmd) : Option Act := (k.onPort s (s.livePort (recDevice k.dst)) .flag).filter fun a => decide (a = .giveUp)

/-- A move's next write, of a piece whose sources are read. Pieces are performed in ascending order: one behind a page of this device waits until
those sent to another device have been acknowledged (09_memory R141). -/
def writeAct (s : State) (vf v : Nat) (k : Cmd) (pc : Piece) : Option Act :=
  let p := s.part vf
  match k.cells pc with
  | [] => some .memWrite
  | (d, _) :: _ =>
    if recSpace k.dst = 0 then (if p.bankIdle s.tabor v (d / 256) then some .scratchWrite else none)
    else
      match spotOf s vf v k d with
      | .unknown => some .walk
      | .nowhere => some .memWrite
      | .at g => if g.tier ≠ 3 && s.unackedOf (p.phys v) k.id then k.lossAct s else directAct s vf v k g (recDevice k.dst) .memWrite

/-- A move's next act. Nothing of it is performed before its start PT (13_ordering R208), nor before its acquire, not even what a timed phase has
read (09_memory R141; 13_ordering R204; 21_ref_e_m R317). -/
def moveAct (s : State) (vf v : Nat) (k : Cmd) : Option Act :=
  let p := s.part vf
  let c := p.core v
  if decide (p.pt < k.st) || !c.mayRead k then none
  else
    match k.pieces with
    | [] =>
      if s.unackedOf (p.phys v) k.id then k.lossAct s else flagAct s vf v k
    | pc :: _ =>
      match k.wanted pc with
      | a :: _ => readAct s vf v k a
      | [] => if c.mayWrite k then writeAct s vf v k pc else none

/-- An AOP's next act (13_ordering R210). -/
def aopAct (s : State) (vf v : Nat) (k : Cmd) : Option Act :=
  let p := s.part vf
  let c := p.core v
  match k.old with
  | some _ => if k.resultDone then flagAct s vf v k else if p.bankIdle s.tabor v k.resl then some .result else none
  | none =>
    if k.status ≠ 0 then flagAct s vf v k
    else if k.operand.isNone || !c.mayRead k || !c.mayWrite k then none
    else if s.unackedOf (p.phys v) k.id then k.lossAct s
    else
      match spotOf s vf v k (recBase k.dst) with
      | .unknown => some .walk
      | .nowhere => some .perform
      | .at g => if g.tier = 0 then some .perform else directAct s vf v k g (recDevice k.dst) .perform

/-- A walk can be made: only the Belfry brings in a page that is not resident (10_translation R155; 16_faults R247). -/
def State.walks (s : State) (vf u : Nat) : Bool :=
  !s.belfryDown || (match (s.part vf).pageAt u with
    | some g => g.resident
    | none => true)

/-- The next act of a command, if it may act now. An ENQ whose timed phase is not over waits, and so does a request at a service port. -/
def nextAct (s : State) (vf v : Nat) (k : Cmd) : Option Act :=
  if k.queued || !k.phase.isEmpty || decide (s.tabor < k.wake) then none
  else
    let act : Option Act := match k.kind with
      | .aop _ _ => aopAct s vf v k
      | _ => moveAct s vf v k
    act.filter fun a => decide (a ≠ .walk) || s.walks vf (k.needs / 65536)

/-- A command of a core. -/
def Core.cmd (c : Core) (id : Nat) : Option Cmd := (c.cmds.filter fun k => decide (k.id = id)).head?

/-- The command changed, and not to act again before a length of wall time that the manual does not fix. -/
def stepCmd (vf v id : Nat) (f : Cmd → Cmd) (s : State) : State :=
  let d := s.drawDelay
  d.2.onCore vf v fun c => c.onCmd id fun k => { f k with wake := s.tabor + d.1 }

/-- A command's act of some kinds, if that is what it does next; nothing otherwise. -/
def actOn (vf v id : Nat) (f : Act → Cmd → State → State) (s : State) : State :=
  match (s.core vf v).cmd id with
  | none => s
  | some k =>
    match nextAct s vf v k with
    | none => s
    | some a => f a k s

/-! ### Accesses of the scratchpad (09_memory R128) -/

/-- A line that an untimed read must not use: poisoned, or with an uncorrectable error (13_ordering R201, R212). -/
def Core.spoilt (c : Core) (line : Nat) : Bool := c.poison.contains line || c.bad.contains (0, line)

/-- The source line that the command needs first, read: a poisoned line, or one with an error, gives no byte (13_ordering R201). -/
def readScratch (vf v : Nat) (k : Cmd) (s : State) : State :=
  let c := s.core vf v
  let line := k.needs / 256
  stepCmd vf v k.id (fun k => k.reads (fun a => decide (a / 256 = line)) fun a =>
      if c.spoilt line then .bad statusBadData else .byte (memGet c.scratch a))
    (s.onCore vf v fun c => c.useBank s.tabor line)

/-- Bytes written by an engine: neither the shadow nor a mark changes (14_determinism R215). -/
def Core.untimed (c : Core) (cs : List (Nat × Byte)) : Core := { c with scratch := loadBytes c.scratch cs }

/-- An engine's bytes written in one line of its core's scratchpad, which take the bank for this Tabor cycle. -/
def writeUntimed (vf v : Nat) (cs : List (Nat × Byte)) (s : State) : State :=
  s.onCore vf v fun c => (c.untimed cs).useBank s.tabor ((cs.head?.map fun e => e.1).getD 0 / 256)

def writeScratch (vf v : Nat) (k : Cmd) (s : State) : State :=
  match k.pieces with
  | [] => s
  | pc :: _ => stepCmd vf v k.id (fun k' => k'.performed (k.cells pc).length) (writeUntimed vf v (k.cells pc) s)

/-- Bytes of an AOP's operand. -/
def aopSize (k : Cmd) : Nat :=
  match k.kind with
  | .aop _ size => 4 * 2 ^ size
  | _ => 0

def writeResult (vf v : Nat) (k : Cmd) (s : State) : State :=
  stepCmd vf v k.id (fun k => { k with resultDone := true })
    (writeUntimed vf v (numCells (256 * k.resl) (aopSize k) (k.old.getD 0)) s)

/-- UNTIMED_SCRATCH_ACCESS (09_memory R128). -/
def execUntimedScratchAccess (vf core cmd : Nat) (s : State) : Host.Outcome State Fault Refusal :=
  .next (actOn vf core cmd (fun a k s =>
    match a with
    | .scratchRead => readScratch vf core k s
    | .scratchWrite => writeScratch vf core k s
    | .result => writeResult vf core k s
    | _ => s) s)

/-! ### Pieces behind pages (09_memory R141) -/

/-- The command waits at a service port. -/
def joinPort (vf v vch : Nat) (k : Cmd) (s : State) : State :=
  (stepCmd vf v k.id (fun k => { k with queued := true }) s).onPart vf fun p => p.ask vch (.cmd v k.id)

/-- The command notes that it finds no live port. -/
def noPort (vf v : Nat) (k : Cmd) (s : State) : State := stepCmd vf v k.id (fun k => { k with since := some s.tabor }) s

/-- The source bytes of the page that holds an address cannot be moved. -/
def loseSource (vf v a status : Nat) (k : Cmd) (s : State) : State :=
  stepCmd vf v k.id (fun k => k.reads (fun b => decide (b / 65536 = a / 65536)) fun _ => .bad status) s

/-- The source bytes of one aligned 256 bytes, read behind their page. -/
def readMemory (vf v : Nat) (k : Cmd) (s : State) : State :=
  let a := k.needs
  match spotOf s vf v k a with
  | .unknown => s
  | .nowhere => loseSource vf v a statusUnmapped k s
  | .at g =>
    match g.tier with
    | 0 => loseSource vf v a statusTimedPage k s
    | 1 => joinPort vf v g.vch k s
    | t =>
      if t = 3 ∧ (s.livePort (recDevice k.src)).isNone = true then noPort vf v k s
      else stepCmd vf v k.id (fun k' =>
        { k'.reads (fun b => decide (b / 256 = a / 256)) fun b => .byte (tierByte s (s.part vf) g (recDevice k.src) b) with
          since := none }) s

/-- A piece written behind its page. -/
def writeMemory (vf v : Nat) (k : Cmd) (s : State) : State :=
  match k.pieces with
  | [] => s
  | pc :: _ =>
    match k.cells pc with
    | [] => stepCmd vf v k.id (fun k => k.performed 0) s
    | (d, _) :: _ =>
      match spotOf s vf v k d with
      | .unknown => s
      | .nowhere => stepCmd vf v k.id (fun k => k.failed statusUnmapped) s
      | .at g =>
        match g.tier with
        | 0 => stepCmd vf v k.id (fun k => k.failed statusTimedPage) s
        | 1 => joinPort vf v g.vch k s
        | 3 =>
          (match s.portFor ((s.part vf).phys v) (recDevice k.dst) k.scope with
           | none => noPort vf v k s
           | some port =>
             stepCmd vf v k.id (fun k => { k.performed 0 with since := none }) (sendBytes vf v (recDevice k.dst) k port g (k.cells pc) s))
        | _ => stepCmd vf v k.id (fun k' => k'.performed (k.cells pc).length) (tierWrite (s.part vf) g (k.cells pc) s)

/-- ENGINE_PIECE (09_memory R141). -/
def execEnginePiece (vf core cmd : Nat) (s : State) : Host.Outcome State Fault Refusal :=
  .next (actOn vf core cmd (fun a k s =>
    match a with
    | .memRead => readMemory vf core k s
    | .memWrite => writeMemory vf core k s
    | _ => s) s)

/-! ### Walks (10_translation R155) -/

/-- A task that no record's fault fails is stopped and begins to fail. -/
def failUnrecorded (vf code : Nat) (s : State) : State :=
  if (s.part vf).failing.isSome then s else beginFail vf code ((s.onPart vf fun p => p.stopBy .fail).announce vf)

/-- The walker reads the page tables for an address; a page that is not resident is brought in. Where no frame can be had for it the task
fails, and until its commands are drained the page counts as unmapped: the manual does not say what becomes of the piece that waited
(DESIGN CHOICE: notes/assumptions/93.md). -/
def walkTo (vf v a : Nat) (k : Cmd) (s : State) : State :=
  match residentPage vf (a / 65536) s with
  | none => failUnrecorded vf 0x100 (stepCmd vf v k.id (fun k => { k with unmapped := true }) s)
  | some t =>
    match (t.part vf).pageAt (a / 65536) with
    | none => stepCmd vf v k.id (fun k => { k with unmapped := true }) t
    | some g => stepCmd vf v k.id (fun k => k) (installTower vf v g t)

/-- ENGINE_WALK (10_translation R155). -/
def execEngineWalk (vf core cmd : Nat) (s : State) : Host.Outcome State Fault Refusal :=
  .next (actOn vf core cmd (fun a k s =>
    match a with
    | .walk => walkTo vf core k.needs k s
    | _ => s) s)

/-! ### Atomics (13_ordering R210) -/

def aopFn (k : Cmd) : Nat :=
  match k.kind with
  | .aop fn _ => fn
  | _ => 0

/-- The old value delivered; the result line is written at once if its bank is idle. -/
def deliverOld (vf v : Nat) (k : Cmd) (old : Nat) (s : State) : State :=
  let t := stepCmd vf v k.id (fun k => { k with old := some old, bytes := aopSize k, unmapped := false }) s
  if (t.part vf).bankIdle t.tabor v k.resl then writeResult vf v { k with old := some old } t else t

/-- An AOP that is not performed: its result line is not written. -/
def refuseAop (vf v status : Nat) (k : Cmd) (s : State) : State :=
  stepCmd vf v k.id (fun k => { k.failed status with resultDone := true }) s

/-- An AOP made at once at a location of this package: read, written, and the old value delivered. -/
def aopAt (vf v : Nat) (k : Cmd) (g : Page) (s : State) : State :=
  let p := s.part vf
  let n := aopSize k
  let a := recBase k.dst
  let op := k.operand.getD (0, 0)
  let old := leNat ((List.range n).map fun i => tierByte s p g 0 (a + i))
  deliverOld vf v k old (tierWrite p g (numCells a n (aopNew (aopFn k) (8 * n) old op.1 op.2)) s)

/-- An AOP at its location. -/
def performAop (vf v : Nat) (k : Cmd) (s : State) : State :=
  let a := recBase k.dst
  let op := k.operand.getD (0, 0)
  match spotOf s vf v k a with
  | .unknown => s
  | .nowhere => refuseAop vf v statusUnmapped k s
  | .at g =>
    match g.tier with
    | 0 => refuseAop vf v statusTimedPage k s
    | 1 => joinPort vf v g.vch k s
    | 3 =>
      (match s.portFor ((s.part vf).phys v) (recDevice k.dst) k.scope with
       | none => noPort vf v k s
       | some port =>
         stepCmd vf v k.id (fun k => { k with since := none })
           (sendFlit vf v (recDevice k.dst) k port a (.aop (g.place a) (aopFn k) (aopSize k) op.1 op.2) s))
    | _ => aopAt vf v k g s

/-- AOP_PERFORM (13_ordering R210). -/
def execAopPerform (vf core cmd : Nat) (s : State) : Host.Outcome State Fault Refusal :=
  .next (actOn vf core cmd (fun a k s =>
    match a with
    | .perform => performAop vf core k s
    | _ => s) s)

/-! ### Flags (13_ordering R201) -/

/-- STATUS and BYTES. -/
def Cmd.flagWord (k : Cmd) : Nat := (if k.status = 0 then 1 else k.status) + min k.bytes (2 ^ 32 - 1) * 2 ^ 32

/-- The port queues without a command's request. -/
def Part.unask (p : Part) (v id : Nat) : Part := { p with t1Queue := p.t1Queue.filter fun e => decide (e.2 ≠ .cmd v id) }

/-- The command leaves its engine. -/
def retire (vf v id : Nat) (s : State) : State :=
  s.onPart vf fun p => (p.onCore v fun c => { c with cmds := c.cmds.filter fun k => decide (k.id ≠ id) }).unask v id

/-- A flag word sent to another device; its command is complete when it is acknowledged. -/
def sendFlag (vf v : Nat) (k : Cmd) (port : Nat) (g : Page) (a : Nat) (s : State) : State :=
  stepCmd vf v k.id (fun k => { k with resultDone := true }) (sendBytes vf v (recDevice k.dst) k port g (numCells a 8 k.flagWord) s)

/-- The flag word written, and the command complete. A flag in a T0 page or an unmapped page fails the task.
(DESIGN CHOICE: notes/assumptions/55.md) -/
def writeFlag (vf v : Nat) (k : Cmd) (s : State) : State :=
  match k.flagPlace with
  | .inl a => retire vf v k.id (writeUntimed vf v (numCells a 8 k.flagWord) s)
  | .inr a =>
    match spotOf s vf v k a with
    | .unknown => s
    | .nowhere => failUnrecorded vf Config.noFaultCode (retire vf v k.id s)
    | .at g =>
      match g.tier with
      | 0 => failUnrecorded vf Config.noFaultCode (retire vf v k.id s)
      | 1 => joinPort vf v g.vch k s
      | 3 =>
        (match s.portFor ((s.part vf).phys v) (recDevice k.dst) k.scope with
         | none => noPort vf v k s
         | some port => sendFlag vf v k port g a s)
      | _ => retire vf v k.id (tierWrite (s.part vf) g (numCells a 8 k.flagWord) s)

/-- FLAG_WORD_WRITE (13_ordering R201, R203, R209). -/
def execFlagWordWrite (vf core cmd : Nat) (s : State) : Host.Outcome State Fault Refusal :=
  .next (actOn vf core cmd (fun a k s =>
    match a with
    | .flag => writeFlag vf core k s
    | _ => s) s)

/-! ### The end of commands that cannot go on -/

/-- A command's flits are no longer sent or awaited. -/
def dropFlits (core id : Nat) (s : State) : State :=
  { s with streams := s.streams.map fun t =>
      if t.incoming || decide (t.core ≠ core) then t else { t with unacked := t.unacked.filter fun x => decide (x.cmd ≠ id) } }

/-- A command's flits to devices that no plane reaches are no longer sent or awaited; those to a device that is reached go on. -/
def dropLost (core id : Nat) (s : State) : State :=
  { s with streams := s.streams.map fun t =>
      if s.lostStream core t then { t with unacked := t.unacked.filter fun x => decide (x.cmd ≠ id) } else t }

/-- What an ENQ still has to give when its device is lost is its flag alone, sent or not: only the missing device could hold it. -/
def flagLost (core : Nat) (k : Cmd) (s : State) : Bool := k.isEnq && k.pieces.isEmpty && (k.resultDone || !s.unackedOf core k.id)

/-- DESTINATION_UNREACHABLE (18_fabric_host R278): the pieces performed stay performed, and what is lost fails at its lowest address. A flag that
only the missing device could hold is not written. A lost device that the command reads ends it too, and its flag waits for what it has sent to
another: R201 and R278 speak of the destination alone (DESIGN CHOICE: notes/assumptions/112.md). -/
def execDestinationUnreachable (vf core cmd : Nat) (s : State) : Host.Outcome State Fault Refusal :=
  .next (actOn vf core cmd (fun a k s =>
    match a with
    | .giveUp =>
      let u := (s.part vf).phys core
      let t := dropLost u k.id s
      if flagLost u k s then retire vf core k.id t
      else stepCmd vf core k.id (fun k =>
        { k.noted (s.lostAt u k) statusUnreachable with pieces := [], since := none, resultDone := !k.isEnq }) t
    | _ => s) s)

/-- A cancelled command has only its flag left to write, with STATUS 0x8000_0003, and nothing holds it back (16_faults R253). -/
def Cmd.cancel (k : Cmd) : Cmd :=
  { k with
    status := statusDrained, statusAt := 0, pieces := [], phase := [], st := 0, acq := false, rel := false, fences := [], wake := 0
    queued := false, unmapped := false, resultDone := !k.isEnq, since := none }

/-- A command that is not complete is cancelled; its flag follows like every flag, through a bank that is ON and idle, a service port, a stream
or a walk (09_memory R128, R142; 12_power R187; 16_faults R253). -/
def cancelCmd (vf v : Nat) (s : State) (k : Cmd) : State :=
  if k.cancelled then s
  else (dropFlits ((s.part vf).phys v) k.id s).onPart vf fun p => (p.onCore v fun c => c.onCmd k.id Cmd.cancel).unask v k.id

/-- A drain has lasted 1 ms: of a failing task, or of a pre-emption. -/
def Part.drainOver (p : Part) (tabor : Nat) : Bool :=
  (match p.failing with
    | some (_, t) => decide (t + Config.drainCycles ≤ tabor)
    | none => false)
  || (match p.preempt with
    | some r => (match r.frozen with
      | some t => decide (t + Config.drainCycles ≤ tabor)
      | none => false)
    | none => false)

/-- A command of the partition is not yet cancelled. -/
def Part.cancels (p : Part) : Bool := p.coreOf.any fun e => e.2.cmds.any fun k => !k.cancelled

/-- DRAIN_TIMEOUT (16_faults R253). -/
def execDrainTimeout (vf : Nat) (s : State) : Host.Outcome State Fault Refusal :=
  .next (if (s.part vf).drainOver s.tabor then
    (s.part vf).coreOf.foldl (fun s e => e.2.cmds.foldl (cancelCmd vf e.1) s) s
    else s)

/-! ### Service windows (09_memory R142) -/

/-- A T1 column with an uncorrectable error (13_ordering R201). (DEDUCED: notes/assumptions/69.md) -/
def State.t1Bad (s : State) (p : Part) (g : Page) (a : Nat) : Bool := s.dramBad.contains (2 ^ 40 + g.t1Place p a / 4096)

/-- One column access of a move at a T1 page: a read of the source column, a piece written, or the flag. -/
def serveMove (vf v : Nat) (k : Cmd) (g : Page) (s : State) : State :=
  let p := s.part vf
  match k.pieces with
  | [] => retire vf v k.id (tierWrite p g (numCells k.needs 8 k.flagWord) s)
  | pc :: _ =>
    match k.wanted pc with
    | a :: _ =>
      let v' (b : Nat) : Got := if s.t1Bad p g a then .bad statusBadData else .byte (tierByte s p g 0 b)
      stepCmd vf v k.id (fun k => k.reads (fun b => decide (b / 256 = a / 256)) v') s
    | [] => stepCmd vf v k.id (fun k' => k'.performed (k.cells pc).length) (tierWrite p g (k.cells pc) s)

/-- One column access of a command at a T1 page. (DEDUCED: notes/assumptions/69.md) -/
def serveAt (vf v : Nat) (k : Cmd) (g : Page) (s : State) : State :=
  match k.kind with
  | .aop _ _ => if s.t1Bad (s.part vf) g k.needs then refuseAop vf v statusBadData k s else aopAt vf v k g s
  | _ => serveMove vf v k g s

/-- A command's request is served; a page that has moved to another tier meanwhile is asked for anew. -/
def serveCmd (vf v : Nat) (k : Cmd) (s : State) : State :=
  let s := s.onCore vf v fun c => c.onCmd k.id fun k => { k with queued := false }
  match (s.part vf).pageAt (k.needs / 65536) with
  | none => stepCmd vf v k.id (fun k => { k with unmapped := true }) s
  | some g => if g.tier = 1 then serveAt vf v k g s else stepCmd vf v k.id (fun k => k) s

/-- A line of the argument block, as the loader reads it, in the scratchpad of every core that is loaded here (05_assembly R84; 15_tasks R228). -/
def serveArg (vf i : Nat) (s : State) : State :=
  match (s.part vf).loading with
  | none => s
  | some (n, _) =>
    let bs := leBytes 256 (virtualRead s vf (n.argAddr + 256 * i) 256)
    let m := ((tfind s.images n.image).map fun m => m.cores).getD 0
    s.onPart vf fun p => ((List.range m).filter p.isLocal).foldl (fun q v => q.onCore v fun c => { c with scratch := memWrite c.scratch (256 * i) bs }) p

/-- A request is served. -/
def serveReq (vf : Nat) (r : T1Req) (s : State) : State :=
  match r with
  | .cmd v id =>
    (match (s.core vf v).cmd id with
     | none => s
     | some k => serveCmd vf v k s)
  | .flit core dev scope seq f => performFlit core dev scope seq f s
  | .word n status hi after => followWord vf n after (writeWord vf n status hi s)
  | .launch q a => takeLaunch vf q a s
  | .arg i => serveArg vf i s

/-- A flit waits for the earlier flits of its stream, so that they are acknowledged in their order (13_ordering R212). -/
def State.inTurn (s : State) (r : T1Req) : Bool :=
  match r with
  | .flit core dev scope seq _ => s.parts.all fun e => e.2.t1Queue.all fun x => match x.2 with
    | .flit c d sc n _ => !decide (c = core ∧ d = dev ∧ sc = scope ∧ n < seq)
    | _ => true
  | _ => true

/-- A window is one cycle of PT: in the Tabor cycles by which a stretch lengthens a cycle of a running partition its ports serve nothing, and the
window's command goes with the cycle itself (02_time R29; 09_memory R142). -/
def State.stretches (s : State) (p : Part) : Bool := p.stops.isEmpty && decide (s.tabor < s.stretchUntil)

/-- The request that a service port serves next: the one that arrived first, in a window of the port. -/
def State.portServes (s : State) (vf vch : Nat) : Option (Nat × T1Req) :=
  if (s.part vf).portOpen s.tabor vch && !s.stretches (s.part vf) then (((s.part vf).t1Queue.filter fun e => decide (e.1 = vch)).head?).filter fun e => s.inTurn e.2 else none

/-- SERVICE_WINDOW (09_memory R142): one column access. (DEDUCED: notes/assumptions/98.md) -/
def execServiceWindow (vf vch : Nat) (s : State) : Host.Outcome State Fault Refusal :=
  .next (match s.portServes vf vch with
    | none => s
    | some e => serveReq vf e.2 (s.onPart vf fun p => { p.usePort s.tabor vch with t1Queue := p.t1Queue.erase e }))

/-! ### Streams (13_ordering R212; 18_fabric_host R278) -/

/-- The flits of a stream from a number on, sent again. -/
def replay (core dev scope seq : Nat) (s : State) : State :=
  match s.stream core dev scope with
  | none => s
  | some t => (t.unacked.filter fun x => decide (seq ≤ x.seq)).foldl (fun s x => s.emit (.untimed core dev scope x.seq t.port x.flit)) s

/-- STREAM_REPLAY (13_ordering R212): the flit lost and every later one of its stream are sent again. -/
def execStreamReplay (vf core dev scope seq : Nat) (s : State) : Host.Outcome State Fault Refusal :=
  .next (replay ((s.part vf).phys core) dev scope seq s)

/-- Streams with nothing unacknowledged leave a port that is down. -/
def State.moveStreams (s : State) : State :=
  { s with streams := s.streams.map fun t =>
      if !t.incoming && t.unacked.isEmpty && !s.reaches t.dev t.port then { t with port := (s.livePort t.dev).getD t.port } else t }

/-- Every command in flight in the package, changed, with its partition and its core's physical number. -/
def State.onCmds (s : State) (f : Part → Nat → Cmd → Cmd) : State :=
  { s with parts := s.parts.map fun (e : Nat × Part) =>
      (e.1, { e.2 with coreOf := e.2.coreOf.map fun (c : Nat × Core) => (c.1, { c.2 with cmds := c.2.cmds.map (f e.2 (e.2.phys c.1)) }) }) }

/-- An address lies in a T3 page. -/
def Part.isFar (p : Part) (a : Nat) : Bool := (p.pageAt (a / 65536)).any fun g => decide (g.tier = 3)

/-- The addresses of other memory that a command still reads. -/
def Cmd.readsFrom (k : Cmd) : List Nat := if recSpace k.src = 0 then [] else k.pieces.flatMap fun pc => pc.bytes.filterMap fun e => e.1

/-- The addresses of other memory that a command still writes: its pieces, an AOP's location, an ENQ's flag. -/
def Cmd.writesTo (k : Cmd) : List Nat :=
  (if recSpace k.dst = 0 then [] else k.pieces.flatMap fun pc => pc.bytes.map fun e => e.2)
  ++ (match k.kind with
    | .aop _ _ => [recBase k.dst]
    | _ => match k.flagPlace with
      | .inl _ => []
      | .inr a => [a])

/-- The other devices that a command needs: behind T3 pages, whatever SPACE its records name (09_memory R141), and where its flits are on their
way. -/
def State.devicesOf (s : State) (p : Part) (core : Nat) (k : Cmd) : List Nat :=
  (if k.readsFrom.any p.isFar then [recDevice k.src] else [])
  ++ (if k.writesTo.any p.isFar || s.unackedOf core k.id then [recDevice k.dst] else [])

/-- Live planes reach the devices that a command needs. -/
def State.reachable (s : State) (p : Part) (core : Nat) (k : Cmd) : Bool := (s.devicesOf p core k).all fun d => (s.livePort d).isSome

/-- What a change of ports or planes means for streams and commands: idle streams move; a command with flits on their way notes since when
no plane reaches its device, and one that is reached again forgets it (18_fabric_host R278). -/
def State.rerouted (s : State) : State :=
  s.moveStreams.onCmds fun p core k =>
    if s.reachable p core k then { k with since := none }
    else if s.unackedOf core k.id && k.since.isNone then { k with since := some s.tabor }
    else k

/-- PORT_DOWN (18_fabric_host R278). -/
def execPortDown (port : Nat) (s : State) : Host.Outcome State Fault Refusal :=
  .next (State.rerouted { s with ports := tmod Port.fresh s.ports port fun q => { q with up := false } })

/-- A port trained into a timed domain of a class: every port of the domain is padded to it; a domain that no port was in has its Tabor adopted
anew (18_fabric_host R272; 02_time R15). -/
def trainPort (port dom cls : Nat) (s : State) : State :=
  let known := s.ports.any fun e => e.2.up && decide (e.2.dom = dom)
  { s with
    ports := (tput s.ports (port % 32) ⟨true, dom, cls⟩).map fun e =>
      (e.1, if e.2.up && decide (e.2.dom = dom ∧ dom ≠ 0) then { e.2 with cls := cls } else e.2)
    adopted := if known then s.adopted else s.adopted.filter fun d => decide (d ≠ dom) }

/-- PORT_TRAINING (18_fabric_host R272). -/
def execPortTraining (port dom cls : Nat) (s : State) : Host.Outcome State Fault Refusal := .next (trainPort port dom cls s).rerouted

/-- What an acknowledged flit did on the other device. (DEDUCED: notes/assumptions/60.md) -/
def applyRemote (t : Stream) (s : State) (x : Sent) : State :=
  match x.flit with
  | .write cs =>
    let s := { s with remote := writeCells s.remote (t.dev * 2 ^ 64) cs }
    (match (s.core t.vf t.own).cmd x.cmd with
     | none => s
     | some k =>
       if k.resultDone && k.isEnq then retire t.vf t.own x.cmd s
       else s.onCore t.vf t.own fun c => c.onCmd x.cmd fun k => { k with bytes := k.bytes + cs.length })
  | .aop a fn n x1 x2 =>
    let p := t.dev * 2 ^ 64 + a
    let old := leNat (memRead s.remote p n)
    let s := { s with remote := memWrite s.remote p (leBytes n (aopNew fn (8 * n) old x1 x2)) }
    (match (s.core t.vf t.own).cmd x.cmd with
     | none => s
     | some k => deliverOld t.vf t.own k old s)

/-- An acknowledgement of every flit of a stream up to a number. (DEDUCED: notes/assumptions/60.md) -/
def acknowledge (core dev scope seq : Nat) (s : State) : State :=
  match s.stream core dev scope with
  | none => s
  | some t =>
    let got := t.unacked.filter fun x => decide (x.seq ≤ seq)
    let keep (x : Stream) : Stream := { x with unacked := x.unacked.filter fun y => decide (seq < y.seq) }
    let s := { s with streams := s.streams.map fun x => if x.named core dev scope then keep x else x }
    (got.foldl (applyRemote t) s).moveStreams

/-- The first address of a flit. -/
def Flit.addr : Flit → Nat
  | .write cs => (cs.head?.map fun c => c.1).getD 0
  | .aop a _ _ _ _ => a

/-- The bound partition and the vchannel whose channel a flit's address lies in: it waits at that service port (09_memory R142). -/
def State.flitPort (s : State) (f : Flit) : Option (Nat × Nat) :=
  s.parts.findSome? fun e =>
    if e.2.isBound then (((List.range e.2.channels).filter fun v => decide (e.2.channel v = f.addr / 2 ^ 32)).head?).map fun v => (e.1, v) else none

/-- A flit taken over: it joins the queue of its service port, or is performed at once where no partition is bound to its channel.
(DEDUCED: notes/assumptions/98.md) -/
def takeFlit (core dev scope seq : Nat) (f : Flit) (s : State) : State :=
  match s.flitPort f with
  | some (vf, vch) => s.onPart vf fun p => p.ask vch (.flit core dev scope seq f)
  | none => performFlit core dev scope seq f s

/-- UNTIMED_FLIT_RECEIVED (13_ordering R212): the flit expected is performed once and acknowledged; any other is discarded.
(DEDUCED: notes/assumptions/59.md) -/
def execUntimedFlitReceived (dev srcCore scope seq : Nat) (s : State) : Host.Outcome State Fault Refusal :=
  .next (match s.flits with
    | [] => s
    | f :: fs =>
      let s := { s with flits := fs }
      let same (t : Stream) : Bool := t.incoming && decide (t.core = srcCore ∧ t.dev = dev ∧ t.scope = scope)
      let next := ((s.streams.filter same).head?.map fun t => t.seq).getD 0
      if seq = next then
        takeFlit srcCore dev scope seq f
          { s with streams := (s.streams.filter fun t => !same t) ++ [(⟨srcCore, 0, 0, dev, scope, true, next + 1, [], 0⟩ : Stream)] }
      else s)

/-! ### Timed lines that are late (18_fabric_host R277; 02_time R30) -/

/-- Timed lines of the running task whose landing PT is here and which have yet to arrive (18_fabric_host R277).
(DEDUCED: notes/assumptions/68.md) -/
def State.overdueLines (s : State) (vf : Nat) : List (Nat × Input) :=
  let p := s.part vf
  s.inbox.filter fun e => match e.2 with
    | .timedLine w l => decide (w = vf ∧ s.tabor < e.1 ∧ l.late = 0 ∧ p.t0 ≤ l.land ∧ l.land ≤ p.pt) && p.task.isSome
    | _ => false

/-- They are known to be late, by the Tabor cycles until they arrive. -/
def missLines (vf : Nat) (s : State) : State :=
  let late := s.overdueLines vf
  { s with inbox := s.inbox.filter fun e => !late.contains e }.onPart vf fun p =>
    { p with inbound := p.inbound ++ late.filterMap fun (e : Nat × Input) => match e.2 with
      | .timedLine _ l => if p.inbound.contains l then none else some { l with late := e.1 - s.tabor }
      | _ => none }

/-- The lines due at a core that have not arrived. (DEDUCED: notes/assumptions/68.md) -/
def Part.lateLines (p : Part) (v : Nat) : List InLine := p.inbound.filter fun l => decide (l.core = v ∧ l.land ≤ p.pt ∧ l.late ≠ 0)

def linkDetail (port late : Nat) : Nat := port % 32 + min late 0xFFFF * 2 ^ 16

/-- A link-timing fault: the receiving core, or none for a loss not repaid. (DEDUCED: notes/assumptions/68.md) -/
def linkFault (p : Part) (v port late : Nat) : FRec :=
  { deadlineFault p 0x52 (linkDetail port late) with
    vcore := v, baddr := if (p.core v).cond = .running then (p.core v).nextAddr else 0 }

/-- LINK_TIMING_FAULT (18_fabric_host R277; 02_time R30): the late lines' landings are suppressed; and a loss beyond 48 cycles. -/
def execLinkTimingFault (vf core : Nat) (s : State) : Host.Outcome State Fault Refusal :=
  let p := s.part vf
  let late := p.lateLines core
  let owed := if 48 < p.owed then [linkFault p core 0 p.owed] else []
  .next (raiseAll vf (late.map (fun l => linkFault p core l.port l.late) ++ owed)
    (s.onPart vf fun q => { q with
      inbound := q.inbound.filter fun l => !late.contains l
      debts := if owed.isEmpty then q.debts else [] }))

end Sys2Proof.Machine
end

