-- ==== Sys2Proof/Machine/Shake.lean ====
section
/-! DEFINITION. SHAKE256, which the manual names and does not define (17_partitions R266; 19_belfry R282, R283, R290).
(PRESUMED: notes/assumptions/99.md) -/

namespace Sys2Proof.Machine

/-- The 25 lanes of the sponge's state, lane x + 5·y, each a number below 2^64. -/
abbrev Lanes64 := List Nat

/-- A lane; zero beyond the state. -/
def lane64 (a : Lanes64) (i : Nat) : Nat := a.getD i 0

/-- A lane turned left by a number of bits. -/
def turnLane (v n : Nat) : Nat :=
  let high := v <<< (n % 64)
  high % 2 ^ 64 + high >>> 64

/-- The parity of column x of the five rows. -/
def columnParity (a : Lanes64) (x : Nat) : Nat :=
  (List.range 5).foldl (fun acc y => acc ^^^ lane64 a (x % 5 + 5 * y)) 0

/-- Every lane takes in the parity of the column before its own and that of the column after it, turned by one bit. -/
def takeParities (a : Lanes64) : Lanes64 :=
  let both := (List.range 5).map fun x => columnParity a (x + 4) ^^^ turnLane (columnParity a (x + 1)) 1
  (List.range 25).zipWith (fun i v => v ^^^ lane64 both (i % 5)) a

/-- Where the lane at (x, y) goes: to (y, 2·x + 3·y). -/
def laneGoesTo (i : Nat) : Nat :=
  let x := i % 5
  let y := i / 5
  y + 5 * ((2 * x + 3 * y) % 5)

/-- The lanes moved: a walk from lane (1, 0) over the other 24, the n-th lane of it turned by the n-th triangular number. -/
def walkLanes (a : Lanes64) : Lanes64 :=
  ((List.range 24).foldl
    (fun (w : Nat × Lanes64) n =>
      let next := laneGoesTo w.1
      (next, w.2.set next (turnLane (lane64 a w.1) ((n + 1) * (n + 2) / 2))))
    (1, a)).2

/-- Within each row, a lane takes in the lane two after it where the lane after it is clear. -/
def takeRow (a : Lanes64) : Lanes64 :=
  (List.range 25).zipWith
    (fun i v =>
      let after := fun d => lane64 a (i - i % 5 + (i + d) % 5)
      v ^^^ (after 2 - (after 1 &&& after 2)))
    a

/-- The shift register of the round constants, x⁸ + x⁶ + x⁵ + x⁴ + 1. -/
def shiftBits (r : Nat) : Nat := if r < 128 then 2 * r else (2 * r) ^^^ 0x171

/-- The next seven bits of the shift register as a round's constant, at bits 0, 1, 3, 7, 15, 31 and 63, and the register
after them. -/
def roundConstant (r : Nat) : Nat × Nat :=
  (List.range 7).foldl (fun c j => (c.1 + c.2 % 2 * 2 ^ (2 ^ j - 1), shiftBits c.2)) (0, r)

/-- One round, with the shift register of the constants. -/
def keccakRound (w : Lanes64 × Nat) : Lanes64 × Nat :=
  let c := roundConstant w.2
  ((takeRow (walkLanes (takeParities w.1))).modifyHead (· ^^^ c.1), c.2)

/-- The 24 rounds. -/
def keccak (a : Lanes64) : Lanes64 := (Nat.repeat keccakRound 24 (a, 1)).1

/-- Bytes of a block of SHAKE256. -/
def shakeRate : Nat := 136

/-- The 17 lanes of a block. -/
def blockLanes (bs : List Byte) : Lanes64 := (List.range 17).map fun i => leNat ((bs.drop (8 * i)).take 8)

/-- A block absorbed. -/
def absorb (a : Lanes64) (bs : List Byte) : Lanes64 := keccak ((List.range 25).map fun i => lane64 a i ^^^ lane64 (blockLanes bs) i)

/-- The last, padded block of data of fewer bytes than a block. -/
def padBlock (bs : List Byte) : List Byte :=
  let n := shakeRate - bs.length
  bs ++ leBytes n (0x1F + 0x80 * 2 ^ (8 * (n - 1)))

/-- Every block absorbed, with fuel. -/
def absorbAll : Nat → Lanes64 → List Byte → Lanes64
  | 0, a, _ => a
  | n + 1, a, bs => if bs.length < shakeRate then absorb a (padBlock bs) else absorbAll n (absorb a (bs.take shakeRate)) (bs.drop shakeRate)

/-- Bytes squeezed out, with fuel. -/
def squeeze : Nat → Lanes64 → Nat → List Byte
  | 0, _, _ => []
  | n + 1, a, k =>
    let out := ((a.take 17).map (leBytes 8)).flatten
    if k ≤ shakeRate then out.take k else out ++ squeeze n (keccak a) (k - shakeRate)

/-- SHAKE256 of data, `bits` bits of it, as a number. -/
def shake256 (data : List Byte) (bits : Nat) : Nat :=
  leNat (squeeze (bits / 8 / shakeRate + 1) (absorbAll (data.length / shakeRate + 1) (List.replicate 25 0) data) (bits / 8)) % 2 ^ bits

end Sys2Proof.Machine
end

