-- ==== Sys2Proof/Machine/Xts.lean ====
section
/-! DEFINITION. XTS-AES-256, which the manual names by its standard and does not define (17_partitions R266).
(PRESUMED: notes/assumptions/123.md) -/

namespace Sys2Proof.Machine

/-! ### AES with a key of 256 bits: bytes are numbers, a block is 16 of them, column by column -/

/-- The substitution of bytes, 32 entries to a number, entry 0 lowest. -/
def byteBoxes : List Nat :=
  [0xc072a49cafa2d4adf04759fa7dc982ca76abd7fe2b670130c56f6bf27b777c63,
   0x75b227ebe28012079a059618c323c7041531d871f1e5a534ccf73f362693fdb7,
   0xcf584c4a39becb6a5bb1fc20ed00d153842fe329b3d63b52a05a6e1b1a2c8309,
   0xd2f3ff1021dab6bcf5389d928f40a351a89f3c507f02f94585334d43fbaaefd0,
   0xdb0b5ede14b8ee4688902a22dc4f816073195d643d7ea7c41744975fec130ccd,
   0x08ae7a65eaf4566ca94ed58d6d37c8e779e4959162acd3c25c2406490a3a32e0,
   0x9e1dc186b95735610ef6034866b53e708a8bbd4b1f74dde8c6b4a61c2e2578ba,
   0x16bb54b00f2d99416842e6bf0d89a18cdf2855cee9871e9b948ed9691198f8e1]

def subByte (b : Nat) : Nat := byteBoxes.getD (b / 32) 0 / 2 ^ (8 * (b % 32)) % 256

/-- Bytes added in the field of 256 elements, and a byte doubled in it. -/
def addBytes (a b : List Nat) : List Nat := a.zipWith (· ^^^ ·) b
def doubleByte (b : Nat) : Nat := if b < 128 then 2 * b else (2 * b) ^^^ 0x11B

/-- The round constant of the n-th pass of the key schedule: 1 doubled n − 1 times. -/
def passConstant : Nat → Nat
  | 0 => 0
  | 1 => 1
  | n + 2 => doubleByte (passConstant (n + 1))

/-- Word `i` of the key schedule, from the word eight before it and the word before it. -/
def scheduleWord (i : Nat) (eighth last : List Nat) : List Nat :=
  let mixed :=
    if i % 8 = 0 then addBytes ((last.drop 1 ++ last.take 1).map subByte) [passConstant (i / 8), 0, 0, 0]
    else if i % 8 = 4 then last.map subByte
    else last
  addBytes eighth mixed

/-- `n` more words of a key schedule. -/
def schedule : Nat → List (List Nat) → List (List Nat)
  | 0, ws => ws
  | n + 1, ws => schedule n (ws ++ [scheduleWord ws.length (ws.getD (ws.length - 8) []) (ws.getLastD [])])

/-- The 15 round keys of a key of 32 bytes. -/
def roundKeys (key : List Nat) : List (List Nat) :=
  let ws := schedule 52 ((List.range 8).map fun i => (key.drop (4 * i)).take 4)
  (List.range 15).map fun r => ((ws.drop (4 * r)).take 4).flatten

/-- Row r of a block turned left by r columns. -/
def turnRows (b : List Nat) : List Nat := (List.range 16).map fun i => b.getD ((4 * (i % 4) + i) % 16) 0

/-- Every column mixed: each byte becomes twice itself, three times the next, and the two after that. -/
def mixColumns (b : List Nat) : List Nat :=
  (List.range 16).map fun i =>
    let at_ (j : Nat) : Nat := b.getD (i / 4 * 4 + (i + j) % 4) 0
    doubleByte (at_ 0) ^^^ doubleByte (at_ 1) ^^^ at_ 1 ^^^ at_ 2 ^^^ at_ 3

/-- A round, the last without the mixing of columns. -/
def aesRound (last : Bool) (b key : List Nat) : List Nat :=
  let t := turnRows (b.map subByte)
  addBytes (if last then t else mixColumns t) key

/-- A block enciphered under round keys. -/
def aesBlock (keys : List (List Nat)) (b : List Nat) : List Nat :=
  aesRound true (((keys.drop 1).take 13).foldl (aesRound false) (addBytes b (keys.headD []))) (keys.getLastD [])

/-! ### XTS -/

/-- The 16 bytes of a number, and the number of 16 bytes, the lowest first. -/
def bytesOf (v : Nat) : List Nat := (leBytes 16 v).map BitVec.toNat
def numberOf (bs : List Nat) : Nat := leNat (bs.map (BitVec.ofNat 8))

/-- The next tweak: one doubled in the field of 2 ^ 128 elements. -/
def nextTweak (t : Nat) : Nat := if t < 2 ^ 127 then 2 * t else (2 * t % 2 ^ 128) ^^^ 0x87

/-- Blocks of a data unit, each enciphered between two additions of its tweak. -/
def xtsBlocks (keys : List (List Nat)) : Nat → Nat → List Byte → List Byte
  | 0, _, _ => []
  | n + 1, t, bs =>
    let tw := bytesOf t
    let out := addBytes (aesBlock keys (addBytes ((bs.take 16).map BitVec.toNat) tw)) tw
    out.map (BitVec.ofNat 8) ++ xtsBlocks keys n (nextTweak t) (bs.drop 16)

/-- XTS-AES-256 of a data unit of whole blocks: the key's low 256 bits encipher the data and its high 256 bits the tweak, which is the unit's
number (17_partitions R266). -/
def xtsEncrypt (key unit : Nat) (bs : List Byte) : List Byte :=
  let kb := (leBytes 64 key).map BitVec.toNat
  xtsBlocks (roundKeys (kb.take 32)) (bs.length / 16) (numberOf (aesBlock (roundKeys (kb.drop 32)) (bytesOf unit))) bs

end Sys2Proof.Machine
end

