-- ==== Sys2Proof/Machine/Preempt.lean ====
section
/-! DEFINITION. Pre-emption, contexts, resume, re-shaping and cold contexts (08_loops R120, R121; 16_faults R249 to R256; 17_partitions R258 to
R269). -/

namespace Sys2Proof.Machine

/-! ### Requests and the clamp (16_faults R249, R250) -/

/-- PREEMPTION_REQUEST (16_faults R249; 17_partitions R264): the Belfry ends the slice. `stopPt` is the forced stop that it names for a task
that is not clampable; an idle partition is unbound at once. -/
def execPreemptionRequest (vf stopPt : Nat) (s : State) : Host.Outcome State Fault Refusal :=
  .next (if (s.part vf).isBound && (s.part vf).isIdle && !s.belfryDown then unbindIdle vf s else requestPreempt vf stopPt s)

/-- CLAMP is due. -/
def Part.clampDue (p : Part) : Bool :=
  match p.preempt with
  | some r => !p.clampOn && (match r.clampAt with
    | some b => decide (b ≤ p.pt)
    | none => false)
  | none => false

/-- CLAMP_EFFECT (16_faults R249). -/
def execClampEffect (vf : Nat) (s : State) : Host.Outcome State Fault Refusal :=
  .next (s.onPart vf fun p => if p.clampDue then { p with clampOn := true } else p)

/-! ### The freeze (16_faults R251, R252) -/

/-- The freeze of a pre-emption: the stop PT is this PT. A park may come without a request: a core that kept its clamp record over a resume
parks again (08_loops R121). -/
def freeze (vf : Nat) (parked : Bool) (s : State) : State :=
  (s.onPart vf fun p =>
    { p.stopBy .preempt with
      preempt := some { p.preempt.getD ⟨none, none, 0, false, none⟩ with parked := parked, frozen := some s.tabor } }).announce vf

/-- A task runs, no pre-emption has frozen it, and no fault is being handled. -/
def Part.freezable (p : Part) : Bool :=
  p.task.isSome && !p.stops.any Stop.isFault && p.failing.isNone && p.preempt.all fun r => r.frozen.isNone

/-- Such a task under a pre-emption. -/
def Part.preemptible (p : Part) : Bool := p.freezable && p.preempt.isSome

/-- Every core of every device has parked or ended, under CLAMP or with a core parked by a clamp record that it kept, and nothing is pending
(08_loops R121; 16_faults R251). -/
def Part.parkedOut (p : Part) : Bool :=
  let cs := List.range p.taskCores
  p.freezable && cs.all (fun v => decide (p.condOf v ≠ .running)) && (p.clampOn || cs.any fun v => decide (p.condOf v = .parked)) && p.quiet

/-- PARK_FREEZE (16_faults R251). (DEDUCED: notes/assumptions/41.md) -/
def execParkFreeze (vf : Nat) (s : State) : Host.Outcome State Fault Refusal :=
  .next (if (s.part vf).parkedOut then freeze vf true s else s)

/-- The park deadline of the running task. -/
def Part.parkDeadline (p : Part) : Option Nat := p.task.bind fun t => t.clampable

/-- The PT cycles since B and the Tabor cycles of barrier waits since B have come to the deadline (16_faults R251). -/
def Part.deadlineReached (p : Part) : Bool :=
  p.preemptible && p.clampOn && (match p.preempt, p.parkDeadline with
    | some r, some d => decide (d ≤ (p.pt - r.clampAt.getD p.pt) + r.count)
    | _, _ => false)

/-- PARK_DEADLINE (16_faults R251): a freeze whose condition is first met at the deadline is a park. (DEDUCED: notes/assumptions/41.md) -/
def execParkDeadline (vf : Nat) (s : State) : Host.Outcome State Fault Refusal :=
  .next (if (s.part vf).deadlineReached then freeze vf (s.part vf).parkedOut s else s)

/-- The forced stop is due: at the PT named, or at T0 if the task starts there or later, before its first bundles issue (16_faults R252). -/
def Part.forcedDue (p : Part) : Bool :=
  p.preemptible && (match p.preempt with
    | some r => (match r.forcedAt with
      | some f => decide (f ≤ p.pt)
      | none => false)
    | none => false)

/-- FORCED_STOP (16_faults R252): every core stands at its bundle boundary, and what is in flight keeps its remaining latency. -/
def execForcedStop (vf : Nat) (s : State) : Host.Outcome State Fault Refusal :=
  .next (if (s.part vf).forcedDue then freeze vf false s else s)

/-! ### Saving (16_faults R254; 17_partitions R264, R265) -/

/-- The freeze has come and every command is complete or cancelled. -/
def Part.savable (p : Part) : Bool :=
  p.isBound && p.drained && !p.stops.any Stop.isFault && p.failing.isNone && (match p.preempt with
    | some r => r.frozen.isSome
    | none => false)

/-- The barriers with members on other devices at which the partition, itself a member there, has not arrived: one of its cores here has neither
arrived nor an arrival on its way. R222 does not say when a partition that is a remote member counts as arrived
(DESIGN CHOICE: notes/assumptions/124.md). -/
def Part.awaited (p : Part) : List Nat :=
  (p.remotes.map fun r => r.1).eraseDups.filter fun b => !p.members.all (p.barrier b).has

/-- The proxy absence tokens of a partition: none for a barrier at which it has arrived (14_determinism R222). -/
def tokens (vf : Nat) (withdrawn : Bool) (s : State) : State :=
  (s.part vf).awaited.foldl (fun s b => s.emit (.token vf b withdrawn)) s

/-- CONTEXT_SAVE (16_faults R254): the context is what the partition holds; the partition is unbound, and its holds end. -/
def execContextSave (vf : Nat) (s : State) : Host.Outcome State Fault Refusal :=
  .next (if (s.part vf).savable then
    armResume vf ((unbind vf (tokens vf false s)).onPart vf fun p => { p with pres := if p.pcmd = 1 ∧ p.pres = 0 then 1 else p.pres })
    else s)

/-! ### Resources (17_partitions R258 to R261, R265) -/

/-- Physical cores and channels in hard partitions, and the numbers of the hard partitions in use. -/
def State.usedCores (s : State) : List Nat :=
  (s.parts.map fun e => if e.2.isBound then e.2.coreTable.map fun c => c.2 else []).flatten

def State.usedChannels (s : State) : List Nat :=
  (s.parts.map fun e => if e.2.isBound then e.2.chanTable.map fun c => c.2 else []).flatten

def State.usedHard (s : State) : List Nat :=
  s.parts.filterMap fun e => match e.2.resid with
    | .bound h => if e.2.live then some h else none
    | _ => none

/-- Numbers below `n` that a list does not hold. -/
def freeBelow (n : Nat) (used : List Nat) : List Nat := (List.range n).filter fun i => !used.contains i

/-- The virtual cores of a partition that need a core of this device. -/
def Part.localCores (p : Part) : List Nat := if p.multi then keys p.coreTable else List.range p.cores

/-- A hard partition of a partition's shape, of at least 4 cores, is free. (DEDUCED: notes/assumptions/52.md) -/
def State.hasRoom (s : State) (cores channels : Nat) : Bool :=
  decide (4 ≤ cores ∧ cores ≤ (freeBelow 512 s.usedCores).length ∧ channels ≤ (freeBelow 128 s.usedChannels).length)
  && !(freeBelow 40 s.usedHard).isEmpty

/-- The rows and T1 bytes of a whole channel, by place within it. -/
def wholeChannel (m : Mem) (ch : Nat) : Mem := rowsOf m ch 0 65536

/-- A switched-out partition's data in a channel is copied into its context area; the channel is no longer its own (17_partitions R265). -/
def Part.copyOut (p : Part) (s : State) (ch : Nat) : Part :=
  if p.isBound then p
  else
    { p with
      outChans := (p.chanTable.filter fun e => decide (e.2 = ch)).foldl
        (fun t e => tput t e.1 (wholeChannel s.dram ch, wholeChannel s.t1 ch)) p.outChans
      chanTable := p.chanTable.filter fun e => decide (e.2 ≠ ch) }

/-- A CHANNEL PASSES to a partition (17_partitions R261, R265): another partition's rows are copied out, and the channel is zeroed if it was
last another tenant's (09_memory R138). (DEDUCED: notes/assumptions/69.md) (DEDUCED: notes/assumptions/89.md) -/
def passChannel (vf ch : Nat) (s : State) : State :=
  let tenant := (s.part vf).tenant
  let zero := tget tenant s.chanTenant ch != tenant
  { s with
    parts := s.parts.map fun (e : Nat × Part) => (e.1, if e.1 = vf then e.2 else e.2.copyOut s ch)
    dram := if zero then eraseRows s.dram ch 0 65536 else s.dram
    t1 := if zero then eraseRows s.t1 ch 0 65536 else s.t1
    dramBad := if zero then s.dramBad.filter fun r => decide (r % 2 ^ 40 / 2 ^ 20 ≠ ch) else s.dramBad
    chanTenant := tput s.chanTenant ch tenant }

/-- CHANNEL_REASSIGNMENT (17_partitions R265): before a channel passes to a partition. -/
def execChannelReassignment (ch vf : Nat) (s : State) : Host.Outcome State Fault Refusal :=
  .next (if s.usedChannels.contains ch then s else passChannel vf ch s)

/-- The contents that a partition keeps of a channel take the place of whatever stands in the channel bound to a vchannel: each row keeps its
number, which is free there, and the page tables name it as before (17_partitions R265). (DESIGN CHOICE: notes/assumptions/126.md) -/
def copyBack (vf : Nat) (s : State) (e : Nat × Nat) : State :=
  match tfind (s.part vf).outChans e.1 with
  | none => s
  | some m =>
    { s with
      dram := placeRows (eraseRows s.dram e.2 0 65536) e.2 0 m.1
      t1 := placeRows (eraseRows s.t1 e.2 0 65536) e.2 0 m.2 }.onPart vf fun p => { p with outChans := tdel p.outChans e.1 }

/-- BINDING (17_partitions R260): free cores and a free hard partition; each vchannel keeps its channel while that is free, and has another
otherwise. (DEDUCED: notes/assumptions/52.md) -/
def bind (vf : Nat) (s : State) : State :=
  let p := s.part vf
  let cs := p.localCores.zip (freeBelow 512 s.usedCores)
  let used := s.usedChannels
  let kept := p.chanTable.filter fun e => !used.contains e.2
  let lost := (List.range p.channels).filter fun v => !kept.any fun e => decide (e.1 = v)
  let fresh := lost.zip (freeBelow 128 (used ++ kept.map fun e => e.2))
  let s := s.setPart vf { p with chanTable := kept }
  let s := fresh.foldl (fun s e => passChannel vf e.2 s) s
  let s := s.onPart vf fun p =>
    { p with
      resid := .bound ((freeBelow 40 s.usedHard).headD 0)
      coreTable := cs
      chanTable := fresh.foldl (fun t e => tput t e.1 e.2) p.chanTable }
  fitChannels vf (fresh.foldl (copyBack vf) s)

/-! ### Resume (16_faults R255, R256; 08_loops R121; 10_translation R154) -/

/-- A handle translated again on the partition's channels. -/
def Part.retranslate (p : Part) (h : Handle) : Handle :=
  match h.st with
  | .invalid => h
  | _ =>
    match p.pageAt (h.vch * 65536 + h.vrow) with
    | none => h.lost
    | some g => if g.resident then g.handle else h.lost

/-- A held XLT translated again. (DEDUCED: notes/assumptions/36.md) -/
def Pend.retranslate (p : Part) (e : Pend) : Pend :=
  match e.eff with
  | .xlt h a val =>
    (match val.st with
     | .invalid => e
     | _ =>
       match p.pageAt (a / 65536) with
       | none => { e with eff := .xlt h a (missHandle (a / 65536)) }
       | some g => { e with eff := .xlt h a (if g.resident then g.handle else missHandle (a / 65536)) })
  | _ => e

/-- A parked core restarts: at its resume address with its sticky state, or at its clamp record's resume label, with the saved kI and kN in the
registers that the record names and every sticky op NOP (08_loops R121; 16_faults R250, R251). A loop body or a transfer under way at a bundle
that parked with a record is forgotten: the manual does not say whether it survives (DEDUCED: notes/assumptions/20.md). -/
def Core.restart (c : Core) : Core :=
  if c.cond = .parked then
    match c.clamp with
    | none => { c with cond := .running, reported := false, next := c.parkAt, rep := 0 }
    | some r =>
      { (c.put (.k r.ki) r.savedKi.toNat).put (.k r.kn) r.savedKn.toNat with
        cond := .running, reported := false, next := r.res, rep := 0, clamp := none, sticky := [], loop := none, pending := none }
  else c

/-- The saved kI of the clamp records differ between cores, those of other devices as reported (16_faults R251). -/
def Part.clampsDiffer (p : Part) : Bool :=
  match (p.coreOf.filterMap fun e => e.2.clamp.map fun r => r.savedKi) ++ p.awayKi.map fun e => e.2 with
  | [] => false
  | x :: r => r.any fun y => decide (y ≠ x)

/-- PT is released at a resume: a barrier wait is entered again (14_determinism R223), and a device of several stays for its turn, or for those
that stand at its PT (02_time R28). A wait for a restarted core fails on one device (DEDUCED: notes/assumptions/129.md). -/
def Part.released (p : Part) : Part :=
  if p.waiting then p.stopBy .barrier else if p.alone then p.resumed else p.stopBy .align

/-- The context restored on its hard partition: handles translated, parked cores restarted, CLAMP clear, PT released. Marks of uncorrectable
errors come with it (16_faults R254). (DESIGN CHOICE: notes/assumptions/119.md) -/
def Part.restored (p : Part) : Part :=
  let q := { p with
    clampOn := false, preempt := none, preemptTold := false, resumeAt := none
    away := p.away.filter fun e => decide (e.2 = Cond.ended), awayKi := []
    forceAlways := p.forceAlways || p.clampsDiffer
    coreOf := p.coreOf.map fun (e : Nat × Core) =>
      (e.1, { e.2 with
        hregs := e.2.hregs.map fun (h : Nat × Handle) => (h.1, p.retranslate h.2)
        pend := e.2.pend.map (Pend.retranslate p) }.restart) }
  q.released

/-- The barriers that a resumed partition finds full complete at once (14_determinism R223). -/
def completeFull (vf : Nat) (s : State) : State := (List.range 16).foldl (fun s b => completeNow vf b s) s

/-- The instruction store of a running core, loaded again from the registered image: errors that stood in it are gone (16_faults R255). -/
def Core.reload (c : Core) (m : Image) (v : Nat) : Core :=
  match sectionOf m v with
  | none => c
  | some x =>
    if c.cond = .running then { c with store := codeTable (x.code.take c.limit), bad := c.bad.filter fun e => decide (e.1 ≠ 3) } else c

/-- Step 2 of a resume, for the task's image. -/
def reloadStores (vf : Nat) (s : State) : State :=
  match (s.part vf).task.bind fun t => tfind s.images t.image with
  | none => s
  | some m => s.onPart vf fun p => { p with coreOf := p.coreOf.map fun (e : Nat × Core) => (e.1, e.2.reload m e.1) }

/-- The FSEND lines that the partition holds are sent again (21_ref_e_m R321). -/
def resendLines (vf : Nat) (s : State) : State :=
  ((s.part vf).coreOf.flatMap fun c => c.2.pend).foldl (fun s e =>
    match e.eff with
    | .sent port core dst land val => sendTimed vf port core dst land val.toNat s
    | _ => s) s

/-- The partition may be resumed. -/
def State.resumable (s : State) (vf : Nat) : Bool :=
  let p := s.part vf
  p.live && decide (p.resid = .switchedOut) && !s.belfryDown && s.hasRoom p.localCores.length p.channels

/-- RESUME (16_faults R255): binding, the stores, the rest of the context, the snapshot with the lines held for other devices; then PT is
released at the saved PT. -/
def execResume (vf : Nat) (s : State) : Host.Outcome State Fault Refusal :=
  .next (if s.resumable vf then
    let s := resendLines vf ((reloadStores vf ((bind vf s).onPart vf Part.restored)))
    completeFull vf (tokens vf true (s.onPart vf fun p => p.setPolicy s.holdLevel))
    else s)

/-! ### Commands of the management block (17_partitions R262, R263, R268, R269) -/

/-- The Belfry is paging the context. -/
def Part.isPaging (p : Part) : Bool := decide (p.status = 5 ∨ p.status = 6)

/-- A PCMD write is looked at: RESULT is not 0, or the context is being paged. (DESIGN CHOICE: notes/assumptions/42.md) -/
def Part.takesCommand (p : Part) : Bool := p.live && (decide (p.pres ≠ 0) || p.isPaging)

/-- The command is accepted: PCMD reads it, with 10 bits of argument, and RESULT is pending (00_scope R7; 17_partitions R262).
(DESIGN CHOICE: notes/assumptions/42.md) -/
def Part.acceptCommand (p : Part) (cmd arg : Nat) : Part := { p with pcmd := cmd, parg := arg % 2 ^ 10, pres := 0 }

/-- A command that the partition's STATE does not allow: busy while the context is paged, which is no acceptance and leaves PCMD, else wrong
state (17_partitions R262, R263). (DESIGN CHOICE: notes/assumptions/42.md) -/
def Part.refuseCommand (p : Part) (cmd arg : Nat) : Part :=
  if p.isPaging then { p with pres := 2 } else { p.acceptCommand cmd arg with pres := 4 }

/-- END_SLICE (17_partitions R263, R264, R268). PCMD.ARG, which R262 gives a meaning for a re-shape alone, reads 0 after it
(DESIGN CHOICE: notes/assumptions/42.md). -/
def execEndSlice (vf : Nat) (s : State) : Host.Outcome State Fault Refusal :=
  let p := s.part vf
  .next (if !p.takesCommand then s
    else
      match p.status with
      | 0 => endSliceIdle vf (s.setPart vf (p.acceptCommand 1 0))
      | 1 => endSliceRunning vf (s.setPart vf (p.acceptCommand 1 0))
      | 2 => s.setPart vf { p.acceptCommand 1 0 with endAfter := true }
      | _ => s.setPart vf (p.refuseCommand 1 0))

/-- The conditions of a re-shape (17_partitions R269). -/
def Part.reshapable (p : Part) (m : Nat) : Bool :=
  (match p.preempt with
    | some r => r.parked
    | none => false)
  && (p.coreOf.all fun e => decide (e.2.cond ≠ .running) && e.2.clamp.isNone)
  && (p.barriers.all fun e => e.2.arrived.isEmpty && e.2.waits.isEmpty)
  && !p.multi && decide (4 ≤ m ∧ m ≤ p.cores)

/-- A shadow without the entries of cores that are gone. -/
def Core.forget (c : Core) (m : Nat) : Core := { c with shadow := c.shadow.filter fun e => decide (e.2.1 < m) }

/-- LAUNCHes sent by cores that are gone and not yet read: core 0 holds them, and no engine command is left before them (15_tasks R231;
17_partitions R269). -/
def Part.leftLaunches (p : Part) (m : Nat) : List (Nat × Nat × Nat × Nat) :=
  (p.coreOf.filter fun e => decide (m ≤ e.1)).flatMap fun e => e.2.launches.map fun l => (0, l.2)

/-- The re-shaped context: cores 0 to m − 1 kept, k13 and the slew budget lowered (17_partitions R269). -/
def Part.reshaped (p : Part) (m : Nat) : Part :=
  { p with
    cores := m
    task := p.task.map fun t => { t with cores := min t.cores m, budget := min t.budget (4 * m) }
    coreOf := (p.coreOf.filter fun e => decide (e.1 < m)).map fun (e : Nat × Core) =>
      (e.1, { e.2.forget m with
        kregs := tmod 0 e.2.kregs 13 fun k => BitVec.ofNat 64 (min k.toNat m)
        launches := if e.1 = 0 then e.2.launches ++ p.leftLaunches m else e.2.launches }) }

/-- RESHAPE (17_partitions R262, R263, R269). STATE decides before the range of ARG: R262 and R263 do not order the two refusals
(DESIGN CHOICE: notes/assumptions/42.md). -/
def execReshape (vf m : Nat) (s : State) : Host.Outcome State Fault Refusal :=
  .next (s.onPart vf fun p =>
    if !p.takesCommand then p
    else if p.status ≠ 3 then p.refuseCommand 2 m
    else if p.reshapable m then { (p.acceptCommand 2 m).reshaped m with pres := 1 }
    else { p.acceptCommand 2 m with pres := 3 })

/-! ### Cold contexts (17_partitions R266, R267) -/

/-- The bytes of a paged context, with its T0 rows and its queue: the manual says what it holds and not its layout. FREE VALUE.
(DESIGN CHOICE: notes/assumptions/3.md) -/
opaque contextBytes : Part → List Byte

/-- Bytes in blocks of 4,096, the last filled with zeros. -/
def diskBlocks (bs : List Byte) : List (List Byte) :=
  (List.range ((bs.length + 4095) / 4096)).map fun i =>
    let b := (bs.drop (4096 * i)).take 4096
    b ++ List.replicate (4096 - b.length) 0

/-- The ciphertext of a context whose blocks begin at a logical block of the tenant's namespace (17_partitions R266). -/
def cipherOf (key lba : Nat) (bs : List Byte) : List Byte :=
  ((diskBlocks bs).zipIdx.map fun e => xtsEncrypt key (lba + e.2) e.1).flatten

/-- The digest that the Belfry keeps of a paged context; where in the namespace it puts it is its own choice (17_partitions R266). -/
def State.pagedDigest (s : State) (p : Part) : Nat :=
  shake256 (cipherOf (tget ⟨0, []⟩ s.tenants p.tenant).key (Config.choose s.oracle) (contextBytes p)) 256

/-- The context and the rows leave the package. -/
def pageAway (vf : Nat) (s : State) : State :=
  let p := s.part vf
  let q := p.chanTable.foldl (fun q e => q.copyOut s e.2) p
  { s with oracle := s.oracle + 1 }.setPart vf { q with resid := .cold, digest := some (s.pagedDigest q), pres := 1, resumeAt := none }

/-- What the Belfry does with the switched-out partition is done. -/
def Part.pagingDone (p : Part) (tabor : Nat) : Bool :=
  match p.resumeAt with
  | some t => decide (t ≤ tabor)
  | none => false

/-- PAGE_OUT (17_partitions R263, R266): a write of command 3 starts it; when it is done the context is cold, and a queue write that came
meanwhile starts its restore (R268). Without feature 4 it is refused. PCMD.ARG reads 0 after it (DESIGN CHOICE: notes/assumptions/42.md). -/
def execPageOut (vf : Nat) (s : State) : Host.Outcome State Fault Refusal :=
  let p := s.part vf
  .next (match p.resid with
    | .pagingOut =>
      if p.pagingDone s.tabor then
        let s := (pageAway vf s).onPart vf fun q => { q with wantRestore := false }
        if p.wantRestore then beginRestore vf s else s
      else if p.takesCommand then s.setPart vf (p.refuseCommand 3 0)
      else s
    | _ =>
      if !p.takesCommand then s
      else if p.status ≠ 3 then s.setPart vf (p.refuseCommand 3 0)
      else if !p.feature 4 then s.setPart vf { p.acceptCommand 3 0 with pres := 3 }
      else
        let d := s.drawDelay
        d.2.setPart vf { p.acceptCommand 3 0 with resid := .pagingOut, resumeAt := some (s.tabor + d.1) })

/-- COLD_RESTORE (17_partitions R267): it starts with a queue write; when the context is read, its digest is checked. -/
def execColdRestore (vf : Nat) (s : State) : Host.Outcome State Fault Refusal :=
  let p := s.part vf
  .next (match p.resid with
    | .pagingIn =>
      if !p.pagingDone s.tabor then s
      else
      let t := { s with oracle := s.oracle + 1 }
      if Config.driveIntact s.oracle then
        armResume vf (t.setPart vf { p with resid := .switchedOut, digest := none })
      else t.setPart vf { p with resid := .cold, pres := 5, corrupt := true, resumeAt := none }
    | _ => beginRestore vf s)

end Sys2Proof.Machine
end

