-- ==== Sys2Proof/Machine/HostEvents.lean ====
section
/-! DEFINITION. The host's registers: features, the energy meter, the power cap and plain register writes (12_power R191 to R193; 17_partitions
R262; 18_fabric_host R279, R280; 19_belfry R288). -/

namespace Sys2Proof.Machine

/-- The host's accesses to a virtual function are served: boot has ended (18_fabric_host R279; 19_belfry R282). -/
def State.serves (s : State) (vf : Nat) : Bool := decide (s.bstat = 7 ∧ vf < 128)

/-- A register of the management block of a virtual function to which no partition is bound: there is no such block, and what a read returns is
free (17_partitions R262; 18_fabric_host R279). (DESIGN CHOICE: notes/assumptions/80.md) -/
def strayWord (vf off : Nat) : Nat := leNat ((List.range 4).map fun i => Config.strayByte (4096 * vf + off + i))

/-- The feature bits that the driver accepts, FACC0 to FACC7 as one number (18_fabric_host R279). -/
def Part.accepted (p : Part) : Nat := ((List.range 8).map fun i => (tget 0 p.facc i).toNat * 2 ^ (32 * i)).foldl (· + ·) 0

/-- FSUP: bits 0 to 5 (18_fabric_host R280). -/
def supported : Nat := 0x3F

/-- FEATURE_COMMIT (18_fabric_host R280). -/
def execFeatureCommit (vf : Nat) (s : State) : Host.Outcome State Fault Refusal :=
  .next (if s.serves vf then
    s.onPart vf fun p =>
      if p.accepted % 2 = 1 ∧ p.accepted ≤ supported then
        { p with factOk := true, featuresNext := some p.accepted }.applyFeatures
      else { p with factOk := false }
    else s)

/-- EMLO_READ (12_power R192). -/
def execEmloRead (vf : Nat) (s : State) : Host.Outcome State Fault Refusal :=
  .next (if !s.serves vf then s
    else if !(s.part vf).live then s.emit (.mmioRead vf (strayWord vf 0x40))
    else
    (s.onPart vf fun p => { p with meterHold := some (p.meter / 2 ^ 32) }).emit (.mmioRead vf ((s.part vf).meter % 2 ^ 32)))

/-- EMHI_READ (12_power R192). -/
def execEmhiRead (vf : Nat) (s : State) : Host.Outcome State Fault Refusal :=
  .next (if !s.serves vf then s
    else if !(s.part vf).live then s.emit (.mmioRead vf (strayWord vf 0x44))
    else
    (s.onPart vf fun p => { p with meterHold := none }).emit
      (.mmioRead vf ((s.part vf).meterHold.getD ((s.part vf).meter / 2 ^ 32))))

/-- ENERGY_METER_CLEAR (12_power R192): a half that waits for a read of EMHI stays. (DESIGN CHOICE: notes/assumptions/120.md) -/
def execEnergyMeterClear (vf : Nat) (s : State) : Host.Outcome State Fault Refusal :=
  .next (if s.serves vf && (s.part vf).live then s.onPart vf fun p => { p with meter := 0, meterSat := false } else s)

/-- The meter after a charge: it holds 2^64 − 1 once a count would pass it. (DEDUCED: notes/assumptions/79.md) -/
def Part.charged (p : Part) (amount : Nat) : Part :=
  if p.meterSat then p
  else if p.meter + amount < 2 ^ 64 then { p with meter := p.meter + amount }
  else { p with meter := 2 ^ 64 - 1, meterSat := true }

/-- ENERGY_METER_CHARGE (12_power R193): how much is drawn is no matter of this model; the amount comes from outside.
(DEDUCED: notes/assumptions/79.md) -/
def execEnergyMeterCharge (vf amount : Nat) (s : State) : Host.Outcome State Fault Refusal :=
  .next (if (s.part vf).live then s.onPart vf fun p => p.charged amount else s)

/-- PCAP_WRITE (19_belfry R288): 12 bits, 500 to 3,000 W. -/
def execPcapWrite (val : Nat) (s : State) : Host.Outcome State Fault Refusal :=
  let w := val % 2 ^ 12
  .next (if decide (s.bstat = 7) && decide (500 ≤ w ∧ w ≤ 3000) then { s with pcap := w } else s)

/-- One half of a 64-bit register replaced. (DEDUCED: notes/assumptions/64.md) -/
def setHalf (old val : Nat) (high : Bool) : Nat :=
  if high then old % 2 ^ 32 + val % 2 ^ 32 * 2 ^ 32 else old / 2 ^ 32 % 2 ^ 32 * 2 ^ 32 + val % 2 ^ 32

/-- A mailbox, changed. -/
def State.onMail (s : State) (pf : Nat) (f : Mailbox → Mailbox) : State := { s with mail := tmod Mailbox.fresh s.mail pf f }

/-- MMIO_WRITE (18_fabric_host R279; 19_belfry R288): FACC0 to FACC7 of a virtual function, MBADDR of a physical function (numbers 128 and
129). Registers that are read-only or have events of their own take nothing here. (DEDUCED: notes/assumptions/64.md) -/
def execMmioWrite (fn off val : Nat) (s : State) : Host.Outcome State Fault Refusal :=
  .next (if fn < 128 then
      (if s.serves fn && decide (0x220 ≤ off ∧ off < 0x240 ∧ off % 4 = 0) then
        s.onPart fn fun p => { p with facc := tput p.facc ((off - 0x220) / 4) (BitVec.ofNat 32 val) }
      else s)
    else if s.bstat ≠ 7 ∨ 129 < fn then s
    else if off = 0x010 then s.onMail (fn - 128) fun m => { m with addr := setHalf m.addr val false }
    else if off = 0x014 then s.onMail (fn - 128) fun m => { m with addr := setHalf m.addr val true }
    else s)

/-! ### What the host reads (16_faults R242; 17_partitions R262; 18_fabric_host R279; 19_belfry R288) -/

/-- THE FAULT RECORD's 256 bits (16_faults R242). -/
def FRec.image (f : FRec) : Nat :=
  f.code % 2 ^ 8 + f.vcore % 2 ^ 9 * 2 ^ 16 + f.slot % 2 ^ 3 * 2 ^ 25 + f.cls % 2 ^ 2 * 2 ^ 28 + (if f.more then 2 ^ 30 else 0)
  + imod f.baddr (2 ^ 32) * 2 ^ 32 + f.pt % 2 ^ 64 * 2 ^ 64 + f.stoppt % 2 ^ 64 * 2 ^ 128 + f.detail % 2 ^ 64 * 2 ^ 192

/-- FREC0 to FREC7. -/
def FRec.frec (f : FRec) (i : Nat) : Nat := f.image / 2 ^ (32 * i) % 2 ^ 32

/-- PINFO (17_partitions R262). -/
def Part.pinfo (p : Part) : Nat :=
  (match p.resid with
    | .bound h => h
    | _ => 63) + p.tenant * 2 ^ 8 + p.cores * 2 ^ 16

/-- PSTAT. -/
def Part.pstat (p : Part) : Nat := p.status + p.channels * 2 ^ 8 + (if p.qfrozen then 2 ^ 16 else 0)

/-- A register of a virtual function, by its offset; EMLO and EMHI have events of their own. The fault record is given through the function
while feature 2 is in force (18_fabric_host R280). -/
def Part.hostRead (p : Part) (off : Nat) : Nat :=
  if off = 0x00 then p.pinfo
  else if off = 0x04 then p.pstat
  else if off = 0x08 then p.pcmd + p.parg * 2 ^ 4
  else if off = 0x0C then p.pres
  else if off = 0x48 then (if p.meterSat then 1 else 0)
  else if 0x80 ≤ off ∧ off < 0xA0 then (if p.feature 2 then p.frec.frec ((off - 0x80) / 4) else 0)
  else if off = 0x200 then supported
  else if 0x220 ≤ off ∧ off < 0x240 then (tget 0 p.facc ((off - 0x220) / 4)).toNat
  else if off = 0x240 then (if p.factOk then 2 else 0)
  else 0

/-- A register of a physical function, by its offset. -/
def State.hostRead (s : State) (pf off : Nat) : Nat :=
  let m := tget Mailbox.fresh s.mail pf
  if off = 0x000 then s.bstat
  else if off = 0x004 then s.lcs + (if s.lcsErr then 4 else 0)
  else if off = 0x008 then s.pcap
  else if off = 0x010 then m.addr % 2 ^ 32
  else if off = 0x014 then m.addr / 2 ^ 32 % 2 ^ 32
  else if off = 0x018 then (if m.go then 1 else 0)
  else if off = 0x01C then m.status
  else 0

/-- The host reads an aligned word of a function's registers: the value goes out. A virtual function has its own registers whether or not a
partition is bound to it (18_fabric_host R279). (DESIGN CHOICE: notes/assumptions/80.md) -/
def hostRead (fn off : Nat) (s : State) : State :=
  let a := off / 4 * 4
  if fn < 128 then
    (if s.serves fn then s.emit (.mmioRead fn (if (s.part fn).live || decide (0x100 ≤ a) then (s.part fn).hostRead a else strayWord fn a)) else s)
  else if fn < 130 then s.emit (.mmioRead fn (s.hostRead (fn - 128) a))
  else s

end Sys2Proof.Machine
end

