-- ==== Sys2Proof/Machine/Belfry.lean ====
section
/-! DEFINITION. Boot, wipe, the management mailbox, life cycle, attestation and debug control (16_faults R246; 17_partitions R258 to R261;
19_belfry R281 to R291). -/

namespace Sys2Proof.Machine

/-! ### Reset, boot and power (19_belfry R282 to R286) -/

/-- A measurement register extended with data (19_belfry R283). -/
def extend (m : Nat) (x : List Byte) : Nat := shake256 (leBytes 64 m ++ leBytes 64 (shake256 x 512)) 512

/-- THE WIPE (19_belfry R286): everything goes but what is no part of the package, the fuses, and what the environment will still do. -/
def wipe (s : State) : State :=
  { State.reset with
    powered := s.powered, booting := s.booting, lcs := s.lcs, seeds := s.seeds, minVersion := s.minVersion, deviceId := s.deviceId
    fwKey := s.fwKey, lcKey := s.lcKey, temp := s.temp, power := s.power, unreached := s.unreached
    host := s.host, remote := s.remote, outbox := s.outbox, oracle := s.oracle
    inbox := s.inbox.map fun e => (e.1 - s.tabor, e.2) }

/-- The measurements after boot, from zero: ROM, firmware image, kernel configuration, life-cycle state byte (19_belfry R283). -/
def measure (image : List Byte) (lcs : Nat) : Table Nat :=
  [(0, extend 0 Config.romBytes), (1, extend 0 image), (2, extend 0 Config.kernelConfig), (3, extend 0 (leBytes 1 lcs))]

/-- The device id that the Belfry assigns before the first link training (18_fabric_host R271). (DESIGN CHOICE: notes/assumptions/12.md) -/
def assignedId (s : State) : Nat := if s.deviceId = 0 then Config.choose s.oracle % 2 ^ 24 else s.deviceId

/-- A port trained at package start, or left down (18_fabric_host R272). -/
def trainAtBoot (n : Nat) (s : State) (port : Nat) : State :=
  match Config.training n port with
  | none => s
  | some (dom, cls) => trainPort port dom (if dom = 0 then 0 else [600, 1800, 6000].getD (cls % 3) 600) s

/-- The Belfry kernel runs, and the links are open (19_belfry R282 steps 4 and 5): the image stands in the locked SRAM, the Belfry's cores are
in the kernel's mode, the measurements are made and the ports are trained. (DESIGN CHOICE: notes/assumptions/4.md) -/
def startKernel (n : Nat) (image : List Byte) (s : State) : State :=
  (List.range 32).foldl (trainAtBoot n)
    { s with
      bstat := 7, meas := measure image s.lcs, deviceId := assignedId s, sram := cells 0 (image.take Config.sramBytes)
      belfry := s.belfry.map fun b => { b with mode := .supervisor } }

/-- BOOT (19_belfry R282): the firmware is read; its signature is checked under the key whose digest is fused, and its version; then the kernel
starts. -/
def boot (s : State) : State :=
  let t := { s with booting := false, powered := true, oracle := s.oracle + 1 }
  match Config.firmware s.oracle with
  | none => { t with bstat := 2 }
  | some (version, image, signature) =>
    if Config.verify s.fwKey image signature = true ∧ s.minVersion ≤ version then startKernel s.oracle image t else { t with bstat := 3 }

/-- PACKAGE_RESET (19_belfry R282). -/
def execPackageReset (s : State) : Host.Outcome State Fault Refusal := .next (boot (wipe { s with powered := true }))

/-- POWER_LOSS (19_belfry R286): the wipe is run again at the next reset. -/
def execPowerLoss (s : State) : Host.Outcome State Fault Refusal := .next { wipe s with powered := false, booting := true }

/-! ### The mailbox (19_belfry R289) -/

/-- A number of `n` bytes of a command block. The block is found by MBADDR as it reads when the command is carried out, although it may have been
written since GO: R289 does not say when the address counts (DESIGN CHOICE: notes/assumptions/128.md). -/
def State.blockField (s : State) (pf off n : Nat) : Nat := leNat (memRead s.host ((tget Mailbox.fresh s.mail pf).addr / 64 * 64 + off) n)

def State.mailCode (s : State) (pf : Nat) : Nat := s.blockField pf 0 4
def State.paramLength (s : State) (pf : Nat) : Nat := s.blockField pf 4 4
def State.replyAddr (s : State) (pf : Nat) : Nat := s.blockField pf 8 8
def State.replyRoom (s : State) (pf : Nat) : Nat := s.blockField pf 16 4

/-- Parameter bits, numbered from byte 64 of the block. -/
def State.param (s : State) (pf lo w : Nat) : Nat := s.blockField pf (64 + lo / 8) ((lo % 8 + w + 7) / 8) / 2 ^ (lo % 8) % 2 ^ w

/-- The block is legal as a block: reserved bytes zero, the response aligned, and at least `n` parameter bytes. -/
def State.blockLegal (s : State) (pf n : Nat) : Bool :=
  decide (s.blockField pf 20 44 = 0 ∧ s.replyAddr pf % 64 = 0 ∧ n ≤ s.paramLength pf ∧ s.paramLength pf ≤ 65472)

/-- A command completes: STATUS, GO cleared, vector 0. It clears LCS.ERR (19_belfry R288; notes/assumptions/5.md). -/
def mailDone (pf status : Nat) (s : State) : State :=
  (({ s with mailQueue := s.mailQueue.erase pf, lcsErr := false, oracle := s.oracle + 1 }).onMail pf fun m => { m with status := status, go := false }).emit (.msixPf pf 0)

/-- The response: a dword with the number of data bytes, and the data. -/
def respond (pf n data : Nat) (s : State) : State :=
  { s with host := memWrite s.host (s.replyAddr pf) (leBytes 8 n ++ leBytes n data) }

/-- What a command comes to: a refusal by STATUS, or its effect and the bytes and value of its response. -/
inductive Reply where
  | refuse (status : Nat)
  | done (s : State) (bytes data : Nat)

/-- A MAILBOX COMMAND of a code, with `n` parameter bytes (19_belfry R289): a block that cannot be read, or carries another code, is not its
concern; a refused command changes nothing. (DEDUCED: notes/assumptions/54.md) -/
def mailCommand (pf code n : Nat) (f : State → Reply) (s : State) : State :=
  if s.mailQueue.head? = some pf ∧ s.mailCode pf = code then
    if s.blockLegal pf n then
      match f s with
      | .refuse st => mailDone pf st s
      | .done t bytes data =>
        if bytes = 0 then mailDone pf 1 t
        else if s.replyRoom pf < 8 + bytes then mailDone pf 8 s
        else mailDone pf 1 (respond pf bytes data t)
    else mailDone pf 3 s
  else s

/-- MAILBOX_UNKNOWN_CODE (19_belfry R289): 9 when the block cannot be read or answered, 2 for a code that is no command. -/
def execMailboxUnknownCode (pf : Nat) (s : State) : Host.Outcome State Fault Refusal :=
  .next (if s.mailQueue.head? = some pf then
    if Config.busError s.oracle then mailDone pf 9 s
    else if s.mailCode pf = 0 ∨ 13 < s.mailCode pf then mailDone pf 2 s
    else s
    else s)

/-! ### Images and tenants (19_belfry R290) -/

/-- The smallest number from 1 to `n` that is no key of a table. -/
def freeNumber {α : Type} (n : Nat) (t : Table α) : Option Nat := (((List.range n).map (· + 1)).filter fun i => (tfind t i).isNone).head?

/-- A number that no image has, the smallest: which of the free numbers an image gets is left open (DESIGN CHOICE: notes/assumptions/106.md). -/
def State.freeImage (s : State) : Nat := (freeNumber (s.images.length + 1) s.images).getD 1

/-- The attributes and sections of an image are within the limits of 05_assembly R83. Data that overlap, or an entry beyond its section's code, make
no image malformed here, and of data that overlap the later win. (DESIGN CHOICE: notes/assumptions/57.md)
(DEDUCED: notes/assumptions/85.md) -/
def imageLegal (m : Image) : Bool :=
  decide (1 ≤ m.cores ∧ m.cores ≤ 512 ∧ m.vchannels ≤ 128 ∧ m.stage ≤ 255 ∧ 1 ≤ m.budget ∧ m.budget ≤ 4 * m.cores
    ∧ m.watchdog < 2 ^ 63 ∧ m.latencyClass ≤ 3)
  && (match m.clampable with
    | some d => decide (1024 ≤ d ∧ d < 2 ^ 32)
    | none => true)
  && (List.range m.cores).all (fun v => decide ((m.sections.filter fun x => decide (x.first ≤ v ∧ v ≤ x.last)).length = 1))
  && m.sections.all (fun x => decide (x.first ≤ x.last ∧ x.last < m.cores ∧ x.code.length ≤ Config.storeWords ∧ x.entry < Config.storeWords
      ∧ x.fmt.toNat < 4) && x.data.all fun d => decide (d.1 < 2 ^ 20))
  && decide (m.service.length ≤ 128) && m.service.all (fun w => decide (w < 65536))
  && m.timed.all fun d => decide (d.vch < m.vchannels ∧ d.bank < 16 ∧ d.row < 65536 ∧ d.off + d.bytes.length ≤ 4096)

/-- The partitions of a tenant. -/
def State.partsOf (s : State) (tenant : Nat) : List Part := (s.parts.filter fun e => e.2.live && decide (e.2.tenant = tenant)).map fun e => e.2

/-- The core count of an image, or its vchannel count, is beyond every partition of a tenant (15_tasks R226). -/
def State.beyondAll (s : State) (tenant : Nat) (m : Image) : Bool :=
  ((s.partsOf tenant).all fun p => decide (p.cores < m.cores)) || ((s.partsOf tenant).all fun p => decide (p.channels < m.vchannels))

def doRegisterImage (pf : Nat) (s : State) : Reply :=
  let tenant := s.param pf 96 8
  if (tfind s.tenants tenant).isNone then .refuse 3
  else
    match Config.parseImage (memRead s.host (s.param pf 0 64) (s.param pf 64 32)) with
    | none => .refuse 3
    | some m =>
      if !imageLegal m then .refuse 3
      else if Config.imageStoreFull s.oracle || s.beyondAll tenant m then .refuse 6
      else
        let n := s.freeImage
        .done { s with images := tput s.images n m, imageTenant := tput s.imageTenant n tenant } 4 n

/-- REGISTER_IMAGE (19_belfry R290, command 1). -/
def execRegisterImage (pf : Nat) (s : State) : Host.Outcome State Fault Refusal := .next (mailCommand pf 1 13 (doRegisterImage pf) s)

def doUnregisterImage (pf : Nat) (s : State) : Reply :=
  let n := s.param pf 0 32
  if (tfind s.images n).isNone then .refuse 3
  else if s.parts.any fun e => e.2.pendingNodes.any fun x => decide (x.image = n) then .refuse 4
  else .done { s with images := tdel s.images n, imageTenant := tdel s.imageTenant n } 0 0

/-- UNREGISTER_IMAGE (command 2). -/
def execUnregisterImage (pf : Nat) (s : State) : Host.Outcome State Fault Refusal := .next (mailCommand pf 2 4 (doUnregisterImage pf) s)

def doCreateTenant (s : State) : Reply :=
  match freeNumber 255 s.tenants with
  | none => .refuse 6
  | some n => .done { s with tenants := tput s.tenants n ⟨Config.entropy s.oracle % 2 ^ 512, []⟩, oracle := s.oracle + 1 } 1 n

/-- CREATE_TENANT (command 3): its key of 512 bits comes from the entropy source (17_partitions R266). It gets the least number that is free
(DESIGN CHOICE: notes/assumptions/106.md). -/
def execCreateTenant (pf : Nat) (s : State) : Host.Outcome State Fault Refusal := .next (mailCommand pf 3 0 doCreateTenant s)

def doDeleteTenant (pf : Nat) (s : State) : Reply :=
  let n := s.param pf 0 8
  if (tfind s.tenants n).isNone then .refuse 3
  else if (s.imageTenant.any fun e => decide (e.2 = n)) || !(s.partsOf n).isEmpty then .refuse 4
  else .done { s with tenants := tdel s.tenants n, chanTenant := s.chanTenant.map fun e => (e.1, if e.2 = n then 0 else e.2) } 0 0

/-- DELETE_TENANT (command 4): what it left in channels is nobody's, so the next partition there has it zeroed (17_partitions R261). -/
def execDeleteTenant (pf : Nat) (s : State) : Host.Outcome State Fault Refusal := .next (mailCommand pf 4 1 (doDeleteTenant pf) s)

/-! ### Logical partitions (17_partitions R258 to R261; 19_belfry R290) -/

/-- The legal pages of a list, each clear of those kept before it. -/
def legalPages (channels : Nat) (l : List Page) : List Page :=
  l.foldl (fun kept g => if pageLegal channels g && !kept.any g.clashes then kept ++ [g] else kept) []

/-- The frames of a list that no timed page and no earlier frame uses. -/
def legalFrames (channels : Nat) (pages : List Page) (l : List (Nat × Nat)) : List (Nat × Nat) :=
  l.foldl (fun kept f =>
    let n := pageUnits f.2
    if decide (f.2 ≤ 2 ∧ f.1 / 65536 < channels ∧ f.1 % n = 0)
        && !(pages.any fun g => decide (g.tier = 0) && g.resident && runsMeet f.1 n g.phys (pageUnits g.size))
        && !(kept.any fun k => runsMeet f.1 n k.1 (pageUnits k.2)) then kept ++ [f]
    else kept) []

/-- What a virtual function holds without a partition: the features that its driver has accepted (18_fabric_host R279, R280). -/
def Part.functionOnly (p : Part) : Part :=
  { Part.fresh with facc := p.facc, factOk := p.factOk, features := p.features, featuresNext := p.featuresNext }

/-- A new partition, not yet bound, with as many service banks as its T1 pages need (09_memory R132; 17_partitions R259, R262).
(DEDUCED: notes/assumptions/82.md) (DESIGN CHOICE: notes/assumptions/111.md) -/
def newPart (s : State) (vf tenant cores channels group cls : Nat) : Part :=
  let pages := legalPages channels (Config.pageTable s.oracle)
  { (s.part vf).functionOnly with
    live := true, tenant := tenant, cores := cores, channels := channels, group := group, cls := cls, pages := pages
    service := (List.range channels).map fun v => (v, widenMask (nearUnits pages v) 16 0)
    freeFrames := legalFrames channels pages (Config.freeFrames s.oracle)
    coreTable := if cls = 0 then [] else (List.range cores).filterMap fun v => if (Config.localCores s.oracle).contains v then some (v, 0) else none
    stops := if s.fatal % 2 = 1 then [.rail] else [] }

/-- The tenant's first free queue number names the partition (21_ref_e_m R325). -/
def addQueue (tenant vf : Nat) (s : State) : State :=
  { s with tenants := tmod ⟨0, []⟩ s.tenants tenant fun t =>
      match ((List.range 40).filter fun q => (tfind t.queues q).isNone).head? with
      | some q => { t with queues := tput t.queues q vf }
      | none => t }

/-- Command 5: refused for a value out of range, a virtual function in use, or for want of room. The bits of its last byte that the table names
nowhere, 103:98, count as reserved (DEDUCED: notes/assumptions/54.md). -/
def doCreatePartition (pf : Nat) (s : State) : Reply :=
  let tenant := s.param pf 0 8
  let n := s.param pf 8 10
  let c := s.param pf 18 8
  let vf := s.param pf 26 7
  let group := s.param pf 64 32
  let cls := s.param pf 96 2
  if (tfind s.tenants tenant).isNone ∨ n < 4 ∨ 512 < n ∨ 128 < c ∨ s.param pf 33 31 ≠ 0 ∨ s.param pf 98 6 ≠ 0
      ∨ decide (group = 0) ≠ decide (cls = 0) then .refuse 3
  else if (s.part vf).live then .refuse 4
  else
    let p := newPart s vf tenant n c group cls
    if s.hasRoom p.localCores.length c then
      let s := bind vf ({ s with oracle := s.oracle + 1 }.setPart vf p)
      .done (addQueue tenant vf (s.onPart vf fun p => p.setPolicy s.holdLevel)) 0 0
    else .refuse 6

/-- CREATE_LOGICAL_PARTITION (command 5): PT starts at 0. -/
def execCreateLogicalPartition (pf : Nat) (s : State) : Host.Outcome State Fault Refusal :=
  .next (mailCommand pf 5 13 (doCreatePartition pf) s)

/-- The partition's queue numbers are free again. -/
def dropQueue (vf : Nat) (s : State) : State :=
  { s with tenants := s.tenants.map fun (e : Nat × Tenant) => (e.1, { e.2 with queues := e.2.queues.filter fun q => decide (q.2 ≠ vf) }) }

/-- A partition may be deleted: idle, switched out or cold, with no node pending, in the queue or of a saved task (15_tasks R230); a context that
cannot be read goes with its nodes (17_partitions R267). (DEDUCED: notes/assumptions/53.md) -/
def Part.deletable (p : Part) : Bool :=
  p.live && (p.status == 0 || p.status == 3 || p.status == 4) && (p.pendingNodes.isEmpty || (p.status == 4 && p.corrupt))

/-- Command 6 (19_belfry R290): the binding is released and the partition goes, and with it every LAUNCH of its cores that has not been read (15_tasks R231).
(DESIGN CHOICE: notes/assumptions/117.md). Bit 7, which the table does not name, counts as reserved (DEDUCED: notes/assumptions/54.md). -/
def doDeletePartition (pf : Nat) (s : State) : Reply :=
  let vf := s.param pf 0 7
  if s.param pf 7 1 ≠ 0 then .refuse 3
  else if (s.part vf).deletable then
    let s := unbind vf s
    .done (dropQueue vf { s with parts := tput s.parts vf (s.part vf).functionOnly }) 0 0
  else .refuse 4

/-- DELETE_LOGICAL_PARTITION (command 6). -/
def execDeleteLogicalPartition (pf : Nat) (s : State) : Host.Outcome State Fault Refusal :=
  .next (mailCommand pf 6 1 (doDeletePartition pf) s)

/-! ### Life cycle (19_belfry R285) -/

def doNonce (s : State) : Reply :=
  let n := Config.entropy s.oracle % 2 ^ 256
  .done { s with nonce := some n, oracle := s.oracle + 1 } 32 n

/-- LIFE_CYCLE_NONCE (command 7). -/
def execLifeCycleNonce (pf : Nat) (s : State) : Host.Outcome State Fault Refusal := .next (mailCommand pf 7 0 doNonce s)

/-- The changes allowed: 0 MANUFACTURE, 1 PROVISIONED, 2 DEPLOYED, 3 RMA. -/
def lcsAllows (a b : Nat) : Bool :=
  match a, b with
  | 0, 1 => true
  | 0, 3 => true
  | 1, 2 => true
  | 1, 3 => true
  | 2, 1 => true
  | 2, 3 => true
  | _, _ => false

/-- Every partition is idle or switched out, and no cold context exists. -/
def State.quietForChange (s : State) : Bool := s.parts.all fun e => !e.2.live || decide (e.2.status = 0 ∨ e.2.status = 3)

/-- The message that the manufacturer's life-cycle key signs: device id, current state, target state, nonce. -/
def changeMessage (s : State) (target nonce : Nat) : List Byte :=
  leBytes 3 s.deviceId ++ leBytes 1 s.lcs ++ leBytes 1 target ++ leBytes 32 nonce

/-- The signature of a change verifies under the nonce in force. -/
def changeSigned (pf target : Nat) (s : State) : Bool :=
  match s.nonce with
  | some n => Config.verify s.lcKey (changeMessage s target n) (s.blockField pf 65 29792)
  | none => false

/-- Why a change is refused. (DEDUCED: notes/assumptions/54.md) -/
def changeRefusal (pf target : Nat) (s : State) : Option Nat :=
  if 3 < target then some 3
  else if !lcsAllows s.lcs target then some 7
  else if !s.quietForChange then some 4
  else if !changeSigned pf target s then some 5
  else none

/-- The fuses after a change: the seeds are drawn at the first transition into PROVISIONED (19_belfry R284). -/
def burn (target : Nat) (s : State) : State :=
  { s with
    lcs := target
    seeds := if target = 1 ∧ s.seeds.isNone then some (Config.entropy s.oracle % 2 ^ 384) else s.seeds
    oracle := s.oracle + 1 }

/-- LIFE_CYCLE_CHANGE (19_belfry R285; command 8): a nonce serves one command, whatever its outcome; a refusal sets LCS.ERR; a change
resets the package, so that STATUS reads 0 and no vector fires, although R289 says that a command which is carried out sets the one and fires
the other (DESIGN CHOICE: notes/assumptions/127.md). -/
def execLifeCycleChange (pf : Nat) (s : State) : Host.Outcome State Fault Refusal :=
  let target := s.param pf 0 8
  .next (if s.mailQueue.head? = some pf ∧ s.mailCode pf = 8 then
    match if s.blockLegal pf 29793 then changeRefusal pf target s else some 3 with
    | some st => { mailDone pf st { s with nonce := none } with lcsErr := true }
    | none => boot (wipe (burn target s))
    else s)

/-! ### Attestation (19_belfry R284) -/

/-- The part attests: not in MANUFACTURE or RMA, and it holds seeds. -/
def State.attests (s : State) : Bool := decide (s.lcs = 1 ∨ s.lcs = 2) && s.seeds.isSome

/-- The measurements M0 to M3. -/
def State.measured (s : State) : List Nat := (List.range 4).map fun i => tget 0 s.meas i

def doReport (pf : Nat) (s : State) : Reply :=
  if s.attests then
    let r := Config.report (s.blockField pf 64 32) s.deviceId s.lcs s.measured % 2 ^ (8 * 2112)
    .done s (2112 + 17088) (r + Config.sign (s.seeds.getD 0) (leBytes 2112 r) % 2 ^ (8 * 17088) * 2 ^ (8 * 2112))
  else .refuse 7

/-- ATTESTATION_REPORT (command 9). -/
def execAttestationReport (pf : Nat) (s : State) : Host.Outcome State Fault Refusal := .next (mailCommand pf 9 32 (doReport pf) s)

def doKey (s : State) : Reply :=
  if s.attests then
    let k := Config.publicKey (s.seeds.getD 0) % 2 ^ 256
    .done s (32 + 29792) (k + Config.manufacturerSignature k % 2 ^ (8 * 29792) * 2 ^ 256)
  else .refuse 7

/-- ATTESTATION_KEY (command 10). -/
def execAttestationKey (pf : Nat) (s : State) : Host.Outcome State Fault Refusal := .next (mailCommand pf 10 0 doKey s)

/-! ### Debug breaks (19_belfry R291) -/

/-- The partition is stopped by a debug break. -/
def Part.atBreak (p : Part) : Bool := p.stops.any Stop.isFault && decide (p.frec.code = 0x72)

/-- The release of a break: the bundle that broke issues without breaking again. A break whose handler has not run yet is reported first. -/
def releaseBreak (vf : Nat) (s : State) : State :=
  if (s.part vf).atBreak then
    afterRelease vf (release vf (if (s.part vf).handlerAt.isSome then reportBreak vf s else s))
  else s

def doDebugEnable (pf : Nat) (s : State) : Reply :=
  let vf := s.param pf 0 7
  if !(s.part vf).live || !(s.part vf).feature 5 then .refuse 4
  else if s.param pf 7 1 = 1 then .done (s.onPart vf fun p => { p with debug := true, breakMask := BitVec.ofNat 64 (2 ^ 64 - 1) }) 0 0
  else .done (releaseBreak vf (s.onPart vf fun p => { p with debug := false })) 0 0

/-- DEBUG_ENABLE (command 11). -/
def execDebugEnable (pf : Nat) (s : State) : Host.Outcome State Fault Refusal := .next (mailCommand pf 11 1 (doDebugEnable pf) s)

def doSetMask (pf : Nat) (s : State) : Reply :=
  let vf := s.param pf 0 7
  if s.param pf 7 57 ≠ 0 then .refuse 3
  else if !((s.part vf).live && (s.part vf).breaks) then .refuse 4
  else .done (s.onPart vf fun p => { p with breakMask := BitVec.ofNat 64 (s.param pf 64 64) }) 0 0

/-- SET_BREAK_MASK (command 12). -/
def execSetBreakMask (pf : Nat) (s : State) : Host.Outcome State Fault Refusal := .next (mailCommand pf 12 16 (doSetMask pf) s)

/-- Command 13. Bit 7, which the table does not name, counts as reserved (DEDUCED: notes/assumptions/54.md). -/
def doDebugRelease (pf : Nat) (s : State) : Reply :=
  let vf := s.param pf 0 7
  if s.param pf 7 1 ≠ 0 then .refuse 3
  else if (s.part vf).atBreak then .done (releaseBreak vf s) 0 0
  else .refuse 4

/-- DEBUG_RELEASE (command 13). -/
def execDebugRelease (pf : Nat) (s : State) : Host.Outcome State Fault Refusal := .next (mailCommand pf 13 1 (doDebugRelease pf) s)

end Sys2Proof.Machine
end

