-- ==== Sys2Proof/Machine/Control.lean ====
section
/-! DEFINITION. The events of control flow: header breaks, transfers that take effect, and the end of a loop pass (04_encoding R53, R54;
08_loops R114 to R120; 03_core R45). -/

namespace Sys2Proof.Machine

/-! ### Bundle headers (04_encoding R53, R54) -/

def headerRep (h : Nat) : Nat := h / 2 ^ 7 % 64
def headerClr (h : Nat) : Bool := decide (h / 2 ^ 13 % 2 = 1)
def headerBrk (h : Nat) : Bool := decide (h / 2 ^ 14 % 2 = 1)
def headerReserved (h : Nat) : Bool := decide (h / 2 ^ 15 ≠ 0)

/-- A core's next bundle stops it for the debugger: its first issue, with BRK set, breaks enabled and none taken here yet. -/
def headerBreaks (p : Part) (c : Core) : Bool := p.breaks && decide (c.rep = 0) && !c.broke && headerBrk (c.word c.next)

/-- HEADER_BREAK (04_encoding R54). -/
def execHeaderBreak (vf core : Nat) (s : State) : Host.Outcome State Fault Refusal :=
  .next (if headerBreaks (s.part vf) (s.core vf core) then breakAt vf core 7 s else s)

/-! ### Transfers (03_core R45) -/

/-- The bundle at the pending target is the next one, once both delay bundles have issued. -/
def Core.transferred (c : Core) : Core :=
  match c.pending with
  | some (t, 0) => { c with next := t, pending := none }
  | _ => c

/-- TRANSFER_TAKES_EFFECT (03_core R45). -/
def execTransferTakesEffect (vf core : Nat) (s : State) : Host.Outcome State Fault Refusal :=
  .next (s.onCore vf core Core.transferred)

/-! ### Loop passes (08_loops R117, R120) -/

/-- A k register as it is readable in a cycle: the last write due by then, or what it holds. -/
def Core.kAt (c : Core) (cycle r : Nat) : Nat :=
  let writes := c.pend.filter fun e => decide (e.due ≤ cycle) && (match e.eff with
    | .reg (.k n) _ => decide (n = r)
    | _ => false)
  match writes.foldl (fun (m : Option Pend) e => match m with
      | none => some e
      | some b => if e.before b then m else some e) none with
  | some e => (match e.eff with
      | .reg _ n => n
      | _ => (c.k r).toNat)
  | none => (c.k r).toNat

/-- A write of a k register that a loop makes for the next cycle; it comes after the writes of the bundle's slots. -/
def Core.loopWrite (c : Core) (pt r n : Nat) : Core := c.sched ⟨pt + 1, pt, 7, c.cur, .reg (.k r) n⟩

/-- The register, kI or kN, whose read at the end of a pass meets an uncorrectable error (16_faults R241). -/
def Core.passError (c : Core) (l : Loop) : Option Nat := ([l.ki, l.kn].filter fun r => c.bad.contains (4, regMark 1 r)).head?

/-- THE END OF A PASS (08_loops R117): kI + 1 is readable in the next cycle; the clamp is applied if it is in effect; the test reads what is
readable in the next cycle; the loop repeats or exits. -/
def Core.passEnd (c : Core) (pt : Nat) (clampOn : Bool) (l : Loop) : Core :=
  let ki := ((c.k l.ki).toNat + 1) % 2 ^ 64
  let kn := c.kAt (pt + 1) l.kn
  let lim := ki + l.stages - 1
  let c := c.loopWrite pt l.ki ki
  let clamps := clampOn && l.cl && decide (lim < kn)
  let c := if clamps then
      { c.loopWrite pt l.kn lim with clamp := some ⟨l.res, BitVec.ofNat 64 lim, BitVec.ofNat 64 kn, l.ki, l.kn⟩ }
    else c
  if lim < kn ∧ clamps = false then { c with next := l.start, loop := some { l with done := 0 } }
  else { c with next := l.after, loop := none }

/-- A pass that ends: an error met by the loop's reads takes the place of its test, and the fault comes in the next cycle (16_faults R241).
(DEDUCED: notes/assumptions/22.md) -/
def Core.endPass (c : Core) (pt : Nat) (clampOn : Bool) (l : Loop) : Core :=
  match c.passError l with
  | some r => { c.sched ⟨pt + 1, pt, 0, c.cur, .readError 4 r⟩ with loop := none }
  | none => c.passEnd pt clampOn l

/-- LOOP_PASS_END (08_loops R117). -/
def execLoopPassEnd (vf core : Nat) (s : State) : Host.Outcome State Fault Refusal :=
  .next (s.onCore vf core fun c =>
    match c.loop with
    | some l => if l.body ≤ l.done then c.endPass (s.part vf).pt (s.part vf).clampOn l else c
    | none => c)

end Sys2Proof.Machine
end

