-- ==== Sys2Proof/Machine/Dram.lean ====
section
/-! DEFINITION. The DRAM events: the end of a refresh, the refresh deadline, the refresh keeper and the maintenance cycle (02_time R31;
09_memory R133, R137, R138). The service window is among the engines' events. -/

namespace Sys2Proof.Machine

/-- A bank that has finished its refresh (20_ref_a_d R312). -/
def Bank.refreshed (k : Bank) (pt : Nat) : Bank :=
  match k.st with
  | .refreshing till => if till ≤ pt then { k with st := .idle } else k
  | _ => k

/-- REFRESH_DONE (20_ref_a_d R312). -/
def execRefreshDone (vf vch bank : Nat) (s : State) : Host.Outcome State Fault Refusal :=
  .next (s.onPart vf fun p => p.setBank vch bank ((p.bank vch bank).refreshed p.pt))

/-- A program bank's deadline has passed: no DREF for 2,048 cycles since its last one or since T0 (09_memory R137). -/
def Part.overdue (p : Part) (vch b : Nat) : Bool :=
  decide (((p.bank vch b).ref.getD p.t0) + Config.refreshCycles + 1 ≤ p.pt)

/-- The banks of the task's vchannels whose deadline has passed, by vchannel and then bank. -/
def Part.overdueBanks (p : Part) : List (Nat × Nat) :=
  ((List.range p.vchannels).map fun v => ((p.programBanks v).filter fun b => p.overdue v b).map fun b => (v, b)).flatten

/-- REFRESH_DEADLINE (09_memory R137): one fault of the stop for each bank. -/
def execRefreshDeadline (vf : Nat) (s : State) : Host.Outcome State Fault Refusal :=
  .next (raiseAll vf ((s.part vf).overdueBanks.map fun b => deadlineFault (s.part vf) 0x33 (bankDetail b.1 b.2)) s)

/-- The keeper between tasks: every bank is precharged and refreshed; every row keeps its contents (09_memory R138). -/
def Part.kept (p : Part) : Part := if p.task.isNone then { p with banks := [], chans := [] } else p

/-- REFRESH_KEEPER (09_memory R138). While PT is stopped in a task its precharges, refreshes and reopenings leave every state that the rules
judge as it stands. -/
def execRefreshKeeper (vf : Nat) (s : State) : Host.Outcome State Fault Refusal := .next (s.onPart vf Part.kept)

/-- MAINTENANCE_CYCLE (02_time R31): scrubbing corrects single-bit errors, and no value changes. -/
def execMaintenanceCycle (vf : Nat) (s : State) : Host.Outcome State Fault Refusal := .next (s.onPart vf fun p => p)

end Sys2Proof.Machine
end

