-- ==== Sys2Proof/Machine/Flags.lean ====
section
/-! DEFINITION. Conditions, carries and predicate logic: every computation of a one-bit result (04_encoding R61; 20_ref_a_d R294, R303;
22_ref_n_t R342, R349; 06_numbers R90). -/

namespace Sys2Proof.Machine

/-- A condition code on integers (04_encoding R61): UN is false. -/
def condInt (cond : Nat) (a b : Int) : Bool :=
  match cond with
  | 0 => decide (a = b)
  | 1 => decide (a ≠ b)
  | 2 => decide (a < b)
  | 3 => decide (a ≤ b)
  | 4 => decide (b < a)
  | 5 => decide (b ≤ a)
  | _ => false

/-- CMP's condition on two dwords, as i64 or as n64 (20_ref_a_d R303). -/
def cmpCond (cond nat : Nat) (a b : DWord) : Bool :=
  if nat = 1 then condInt cond a.toNat b.toNat else condInt cond a.toInt b.toInt

/-- ADC's exact sum (20_ref_a_d R294). -/
def adcSum (a b : DWord) (c : Bool) : Nat := a.toNat + b.toNat + (if c then 1 else 0)

/-- ADC's carry out: the exact sum reaches 2^64. -/
def adcCarry (a b : DWord) (c : Bool) : Bool := decide (2 ^ 64 ≤ adcSum a b c)

/-- SBB's exact difference (22_ref_n_t R349). -/
def sbbDiff (a b : DWord) (c : Bool) : Int := (a.toNat : Int) - b.toNat - (if c then 1 else 0)

/-- SBB's borrow out: the exact difference is negative. -/
def sbbBorrow (a b : DWord) (c : Bool) : Bool := decide (sbbDiff a b c < 0)

/-- PLOG's truth table: bit 2·pa + pb (22_ref_n_t R342). -/
def plogBit (tt : Nat) (pa pb : Bool) : Bool :=
  decide (tt / 2 ^ ((if pa then 2 else 0) + (if pb then 1 else 0)) % 2 = 1)

end Sys2Proof.Machine
end

