-- ==== Sys2Proof/Machine/SOps.lean ====
section
/-! DEFINITION. The S ops: scalar arithmetic, predicates and scratchpad accesses (20_ref_a_d R293 to R297, R302, R303, R309; 21_ref_e_m R326,
R328, R330, R338; 22_ref_n_t R340, R342, R343, R348 to R350, R353, R354; 23_ref_v_y R383; 03_core R49). -/

namespace Sys2Proof.Machine

/-! ### What the ops compute -/

/-- MUL, low half (21_ref_e_m R338). -/
def sMul (a b : DWord) : DWord := a * b

/-- SHL: the count is the low six bits (22_ref_n_t R348). -/
def sShl (a b : DWord) : DWord := a <<< (b.toNat % 64)

def sShr (a b : DWord) : DWord := a >>> (b.toNat % 64)

def sSar (a b : DWord) : DWord := a.sshiftRight (b.toNat % 64)

/-- MULH: the high half of the exact product (21_ref_e_m R330). -/
def sMulh (nat : Nat) (a b : DWord) : DWord :=
  if nat = 1 then BitVec.ofNat 64 (a.toNat * b.toNat / 2 ^ 64) else BitVec.ofInt 64 (a.toInt * b.toInt / 2 ^ 64)

/-- DIV: truncated toward zero; all ones for a zero divisor (20_ref_a_d R309). The most negative number divided by −1 keeps its low 64
bits. -/
def sDiv (nat : Nat) (a b : DWord) : DWord :=
  if b = 0 then BitVec.ofNat 64 (2 ^ 64 - 1)
  else if nat = 1 then BitVec.ofNat 64 (a.toNat / b.toNat)
  else BitVec.ofInt 64 (a.toInt.tdiv b.toInt)

/-- MIN and MAX (21_ref_e_m R330). -/
def sLess (nat : Nat) (a b : DWord) : Bool := if nat = 1 then decide (a.toNat < b.toNat) else decide (a.toInt < b.toInt)

def sMin (nat : Nat) (a b : DWord) : DWord := if sLess nat b a then b else a

def sMax (nat : Nat) (a b : DWord) : DWord := if sLess nat a b then b else a

/-- CLZ (20_ref_a_d R302). -/
def sClz (a : DWord) : Nat := if a = 0 then 64 else 63 - Nat.log2 a.toNat

/-- LIH: the immediate above the old low half (21_ref_e_m R328). -/
def sLih (old : DWord) (imm : Nat) : Nat := imm * 2 ^ 32 + old.toNat % 2 ^ 32

/-- An op of the mould of 20_ref_a_d R293 in its register form. -/
def sReg (i : Instr) (g : Guard) (lat d a b : Nat) (f : DWord → DWord → DWord) (s : State) : Host.Outcome State Fault Refusal :=
  issueReg i g lat (.s d) (fun c => (f (c.s a) (c.s b)).toNat) s

/-- An op of the mould of 20_ref_a_d R293 in its immediate form. -/
def sImm (i : Instr) (g : Guard) (lat d a imm : Nat) (f : DWord → DWord → DWord) (s : State) : Host.Outcome State Fault Refusal :=
  issueReg i g lat (.s d) (fun c => (f (c.s a) (imm32 imm)).toNat) s

/-! ### The mould -/

/-- ADD (20_ref_a_d R295). -/
def execAdd (g : Guard) (d a b : Nat) (s : State) : Host.Outcome State Fault Refusal := sReg (.add g d a b) g 1 d a b (· + ·) s

def execAddImm (g : Guard) (d a imm : Nat) (s : State) : Host.Outcome State Fault Refusal :=
  sImm (.addImm g d a imm) g 1 d a imm (· + ·) s

/-- ADDI: a 7-bit signed immediate (20_ref_a_d R296). -/
def execAddi (g : Guard) (d a imm : Nat) (s : State) : Host.Outcome State Fault Refusal :=
  issueReg (.addi g d a imm) g 1 (.s d) (fun c => (c.s a + BitVec.ofInt 64 (signed 7 imm)).toNat) s

/-- SUB (22_ref_n_t R354). -/
def execSub (g : Guard) (d a b : Nat) (s : State) : Host.Outcome State Fault Refusal := sReg (.sub g d a b) g 1 d a b (· - ·) s

def execSubImm (g : Guard) (d a imm : Nat) (s : State) : Host.Outcome State Fault Refusal :=
  sImm (.subImm g d a imm) g 1 d a imm (· - ·) s

/-- ADC: sum and carry out (20_ref_a_d R294). -/
def execAdc (g : Guard) (d a b ci co : Nat) (s : State) : Host.Outcome State Fault Refusal :=
  issueResults (.adc g d a b ci co) g (fun c =>
    [ (1, .reg (.s d) (adcSum (c.s a) (c.s b) (c.p ci) % 2 ^ 64))
    , (1, .reg (.p co) (adcCarry (c.s a) (c.s b) (c.p ci)).toNat) ]) s

/-- SBB: difference and borrow out (22_ref_n_t R349). -/
def execSbb (g : Guard) (d a b ci co : Nat) (s : State) : Host.Outcome State Fault Refusal :=
  issueResults (.sbb g d a b ci co) g (fun c =>
    [ (1, .reg (.s d) (imod (sbbDiff (c.s a) (c.s b) (c.p ci)) (2 ^ 64)))
    , (1, .reg (.p co) (sbbBorrow (c.s a) (c.s b) (c.p ci)).toNat) ]) s

/-- MUL (21_ref_e_m R338). -/
def execMul (g : Guard) (d a b : Nat) (s : State) : Host.Outcome State Fault Refusal := sReg (.mul g d a b) g 3 d a b sMul s

def execMulImm (g : Guard) (d a imm : Nat) (s : State) : Host.Outcome State Fault Refusal :=
  sImm (.mulImm g d a imm) g 3 d a imm sMul s

/-- MULH (21_ref_e_m R330). -/
def execMulh (g : Guard) (d a b nat : Nat) (s : State) : Host.Outcome State Fault Refusal :=
  sReg (.mulh g d a b nat) g 3 d a b (sMulh nat) s

/-- DIV (20_ref_a_d R309). -/
def execDiv (g : Guard) (d a b nat : Nat) (s : State) : Host.Outcome State Fault Refusal :=
  sReg (.div g d a b nat) g 18 d a b (sDiv nat) s

/-- AND (20_ref_a_d R297). -/
def execAndOp (g : Guard) (d a b : Nat) (s : State) : Host.Outcome State Fault Refusal := sReg (.andOp g d a b) g 1 d a b (· &&& ·) s

def execAndImm (g : Guard) (d a imm : Nat) (s : State) : Host.Outcome State Fault Refusal :=
  sImm (.andImm g d a imm) g 1 d a imm (· &&& ·) s

/-- OR (22_ref_n_t R340). -/
def execOrOp (g : Guard) (d a b : Nat) (s : State) : Host.Outcome State Fault Refusal := sReg (.orOp g d a b) g 1 d a b (· ||| ·) s

def execOrImm (g : Guard) (d a imm : Nat) (s : State) : Host.Outcome State Fault Refusal :=
  sImm (.orImm g d a imm) g 1 d a imm (· ||| ·) s

/-- XOR (23_ref_v_y R383). -/
def execXorOp (g : Guard) (d a b : Nat) (s : State) : Host.Outcome State Fault Refusal := sReg (.xorOp g d a b) g 1 d a b (· ^^^ ·) s

def execXorImm (g : Guard) (d a imm : Nat) (s : State) : Host.Outcome State Fault Refusal :=
  sImm (.xorImm g d a imm) g 1 d a imm (· ^^^ ·) s

/-- SHL (22_ref_n_t R348). -/
def execShl (g : Guard) (d a b : Nat) (s : State) : Host.Outcome State Fault Refusal := sReg (.shl g d a b) g 1 d a b sShl s

def execShlImm (g : Guard) (d a imm : Nat) (s : State) : Host.Outcome State Fault Refusal :=
  sImm (.shlImm g d a imm) g 1 d a imm sShl s

/-- SHR (22_ref_n_t R348). -/
def execShr (g : Guard) (d a b : Nat) (s : State) : Host.Outcome State Fault Refusal := sReg (.shr g d a b) g 1 d a b sShr s

def execShrImm (g : Guard) (d a imm : Nat) (s : State) : Host.Outcome State Fault Refusal :=
  sImm (.shrImm g d a imm) g 1 d a imm sShr s

/-- SAR (22_ref_n_t R348). -/
def execSar (g : Guard) (d a b : Nat) (s : State) : Host.Outcome State Fault Refusal := sReg (.sar g d a b) g 1 d a b sSar s

def execSarImm (g : Guard) (d a imm : Nat) (s : State) : Host.Outcome State Fault Refusal :=
  sImm (.sarImm g d a imm) g 1 d a imm sSar s

/-- MIN (21_ref_e_m R330). -/
def execMinOp (g : Guard) (d a b nat : Nat) (s : State) : Host.Outcome State Fault Refusal :=
  sReg (.minOp g d a b nat) g 1 d a b (sMin nat) s

/-- MAX (21_ref_e_m R330). -/
def execMaxOp (g : Guard) (d a b nat : Nat) (s : State) : Host.Outcome State Fault Refusal :=
  sReg (.maxOp g d a b nat) g 1 d a b (sMax nat) s

/-! ### Bits, constants and selection -/

/-- CLZ (20_ref_a_d R302). -/
def execClz (g : Guard) (d a : Nat) (s : State) : Host.Outcome State Fault Refusal :=
  issueReg (.clz g d a) g 1 (.s d) (fun c => sClz (c.s a)) s

/-- POPC (22_ref_n_t R343). -/
def execPopc (g : Guard) (d a : Nat) (s : State) : Host.Outcome State Fault Refusal :=
  issueReg (.popc g d a) g 1 (.s d) (fun c => popcount 64 (c.s a).toNat) s

/-- LI (21_ref_e_m R328). -/
def execLi (g : Guard) (d imm : Nat) (s : State) : Host.Outcome State Fault Refusal :=
  issueReg (.li g d imm) g 1 (.s d) (fun _ => (imm32 imm).toNat) s

/-- LIH (21_ref_e_m R328). -/
def execLih (g : Guard) (d imm : Nat) (s : State) : Host.Outcome State Fault Refusal :=
  issueReg (.lih g d imm) g 1 (.s d) (fun c => sLih (c.s d) imm) s

/-- SEL (22_ref_n_t R350). -/
def execSel (g : Guard) (d a b p : Nat) (s : State) : Host.Outcome State Fault Refusal :=
  issueReg (.sel g d a b p) g 1 (.s d) (fun c => (if c.p p then c.s a else c.s b).toNat) s

/-- CMP (20_ref_a_d R303). -/
def execCmp (g : Guard) (d a b nat cond isImm imm : Nat) (s : State) : Host.Outcome State Fault Refusal :=
  issueReg (.cmp g d a b nat cond isImm imm) g 1 (.p d) (fun c => (cmpCond cond nat (c.s a) (cmpOperand isImm imm (c.s b))).toNat) s

/-- PLOG (22_ref_n_t R342). -/
def execPlog (g : Guard) (pd pa pb tt : Nat) (s : State) : Host.Outcome State Fault Refusal :=
  issueReg (.plog g pd pa pb tt) g 1 (.p pd) (fun c => (plogBit tt (c.p pa) (c.p pb)).toNat) s

/-! ### Scratchpad accesses -/

/-- LDS: the bank is read at issue+1, the register written at issue+4 (21_ref_e_m R326). -/
def execLds (g : Guard) (d a nat size off : Nat) (s : State) : Host.Outcome State Fault Refusal :=
  issueResults (.lds g d a nat size off) g (fun c => [(1, .lds d (scalarAddr (c.s a) size off) size (decide (nat = 1)))]) s

/-- STS: the data is read at issue, the bank written at issue+2 (22_ref_n_t R353). -/
def execSts (g : Guard) (d a size off : Nat) (s : State) : Host.Outcome State Fault Refusal :=
  issueResults (.sts g d a size off) g (fun c =>
    [(2, .storeBytes (scalarAddr (c.s a) size off) (leBytes (2 ^ size) (c.s d).toNat))]) s

/-- What an XCP from S carries: the low 20 bits to an address register, the dword to lane 0 of v or w (03_core R49). -/
def xcpScalar (f : Nat) (v : DWord) : Nat := if f = 7 then v.toNat % 2 ^ 20 else v.toNat

/-- XCP from S (03_core R49). -/
def execXcpS (g : Guard) (f d r u : Nat) (s : State) : Host.Outcome State Fault Refusal :=
  issueReg (.xcpS g f d r u) g (if f = 2 ∨ f = 3 then 3 else 2) (xcpDst f d u) (fun c => xcpScalar f (c.s r)) s

end Sys2Proof.Machine
end

