-- ==== Sys2Proof/Machine/Lanes.lean ====
section
/-! DEFINITION. What the V ops compute on whole registers, lane by lane (06_numbers R85 to R98; 07_vector R100 to R111; 23_ref_v_y R357 to
R377). A register is the natural number its 2,048 bits hold. -/

namespace Sys2Proof.Machine

/-- Lane width of an element type (07_vector R100). -/
def laneBits (t : Nat) : Nat :=
  match t with
  | 0 | 4 => 8
  | 1 | 5 | 8 | 9 => 16
  | 3 | 7 => 64
  | _ => 32

/-- Lane count of an element type. -/
def lanes (t : Nat) : Nat := 2048 / laneBits t

/-- Lane `i` of width `w`. -/
def lane (w x i : Nat) : Nat := x / 2 ^ (w * i) % 2 ^ w

/-- The register whose lanes, from lane 0 up, are a list; the rest zero. -/
def ofLanes (w : Nat) : List Nat → Nat
  | [] => 0
  | l :: ls => l + 2 ^ w * ofLanes w ls

/-- The register whose lane `i` of type `t` is `f i`, for every lane. -/
def mapLanes (t : Nat) (f : Nat → Nat) : Nat := ofLanes (laneBits t) ((List.range (lanes t)).map f)

/-- The modifiers of a long V op (04_encoding R64). -/
structure Mods where
  na : Nat
  aa : Nat
  nb : Nat
  ab : Nat
  nc : Nat
  ac : Nat
  clp : Nat
  sc : Nat
  rm : Nat
  rmo : Nat
deriving DecidableEq, Repr

/-- Every modifier at its default: a short V op. -/
def Mods.none : Mods := ⟨0, 0, 0, 0, 0, 0, 0, 0, 0, 0⟩

/-- The modifiers of an op that has no C source. -/
def Mods.two (na aa nb ab clp sc rm rmo : Nat) : Mods := ⟨na, aa, nb, ab, 0, 0, clp, sc, rm, rmo⟩

/-- The modifiers of an op that has one source. -/
def Mods.one (na aa clp sc rm rmo : Nat) : Mods := ⟨na, aa, 0, 0, 0, 0, clp, sc, rm, rmo⟩

/-- The rounding mode of an op (06_numbers R89). -/
def Mods.mode (m : Mods) (fmt : Nat) : Nat := if m.rmo = 1 then m.rm else fmt % 4

/-- The result scale (04_encoding R64). -/
def Mods.scale (m : Mods) : Int := signed 4 m.sc

/-- A lane of an integer or natural type after the absolute value and the negation: an exact value (23_ref_v_y R359). -/
def srcInt (t v ab ng : Nat) : Int :=
  let x : Int := if t < 4 then signed (laneBits t) v else (v : Nat)
  let y : Int := if ab = 1 then x.natAbs else x
  if ng = 1 then -y else y

/-- A lane of a floating type after the absolute value and the negation. -/
def srcFloat (t v ab ng : Nat) : FVal :=
  let x := fdecode t v
  let y := if ab = 1 then x.abs else x
  if ng = 1 then y.neg else y

/-- An exact integer reduced to a type: wrap, or clamp with CLP = 1 (06_numbers R85). -/
def reduce (t clp : Nat) (x : Int) : Nat :=
  let w := laneBits t
  let lo : Int := if t < 4 then -(2 ^ (w - 1) : Nat) else 0
  let hi : Int := if t < 4 then (2 ^ (w - 1) : Nat) - 1 else (2 ^ w : Nat) - 1
  imod (if clp = 1 then max lo (min hi x) else x) (2 ^ w)

/-- The element-wise arithmetic ops (07_vector R104). -/
inductive Arith where
  | add
  | sub
  | mul
  | min
  | max
deriving DecidableEq, Repr

def Arith.int : Arith → Int → Int → Int
  | .add, a, b => a + b
  | .sub, a, b => a - b
  | .mul, a, b => a * b
  | .min, a, b => if b < a then b else a
  | .max, a, b => if a < b then b else a

def Arith.float (mode : Nat) : Arith → FVal → FVal → FVal
  | .add, a, b => fadd mode a b
  | .sub, a, b => fadd mode a b.neg
  | .mul, a, b => fmul a b
  | .min, a, b => fpick false a b
  | .max, a, b => fpick true a b

/-- VADD, VSUB, VMUL, VMIN, VMAX (23_ref_v_y R360). -/
def vArith (op : Arith) (t : Nat) (m : Mods) (fmt a b : Nat) : Nat :=
  let w := laneBits t
  mapLanes t fun i =>
    if t < 8 then reduce t m.clp (op.int (srcInt t (lane w a i) m.aa m.na) (srcInt t (lane w b i) m.ab m.nb))
    else ffinish t (m.mode fmt) m.clp m.scale
      (op.float (m.mode fmt) (srcFloat t (lane w a i) m.aa m.na) (srcFloat t (lane w b i) m.ab m.nb))

/-- VFMA: the exact product and sum, reduced once (23_ref_v_y R367). -/
def vFma (t : Nat) (m : Mods) (fmt a b c : Nat) : Nat :=
  let w := laneBits t
  mapLanes t fun i =>
    if t < 8 then
      reduce t m.clp (srcInt t (lane w a i) m.aa m.na * srcInt t (lane w b i) m.ab m.nb + srcInt t (lane w c i) m.ac m.nc)
    else ffinish t (m.mode fmt) m.clp m.scale
      (fadd (m.mode fmt) (fmul (srcFloat t (lane w a i) m.aa m.na) (srcFloat t (lane w b i) m.ab m.nb))
        (srcFloat t (lane w c i) m.ac m.nc))

/-- VAND, VOR, VXOR (23_ref_v_y R361). -/
def vAnd (a b : Line) : Line := a &&& b
def vOr (a b : Line) : Line := a ||| b
def vXor (a b : Line) : Line := a ^^^ b

/-- VSHL: a count of the lane width or more gives 0 (07_vector R105). -/
def vShl (t a b : Nat) : Nat :=
  let w := laneBits t
  mapLanes t fun i => if w ≤ lane w b i then 0 else lane w a i * 2 ^ lane w b i % 2 ^ w

def vShr (t a b : Nat) : Nat :=
  let w := laneBits t
  mapLanes t fun i => if w ≤ lane w b i then 0 else lane w a i / 2 ^ lane w b i

/-- VSAR: copies of the lane's highest bit, whatever T is (07_vector R105). -/
def vSar (t a b : Nat) : Nat :=
  let w := laneBits t
  mapLanes t fun i => imod (signed w (lane w a i) / (2 ^ min w (lane w b i) : Nat)) (2 ^ w)

/-- VCMP: all ones or all zeros (23_ref_v_y R364). -/
def vCmp (t cond : Nat) (m : Mods) (a b : Nat) : Nat :=
  let w := laneBits t
  mapLanes t fun i =>
    let r :=
      if t < 8 then condInt cond (srcInt t (lane w a i) m.aa m.na) (srcInt t (lane w b i) m.ab m.nb)
      else condFloat cond (srcFloat t (lane w a i) m.aa m.na) (srcFloat t (lane w b i) m.ab m.nb)
    if r then 2 ^ w - 1 else 0

/-- VSEL: A's lane where C's lane is not zero, else B's (23_ref_v_y R377). -/
def vSel (t a b c : Nat) : Nat :=
  let w := laneBits t
  mapLanes t fun i => if lane w c i ≠ 0 then lane w a i else lane w b i

/-- The four functions (06_numbers R93). -/
inductive Func where
  | rcp
  | rsq
  | exp
  | log
deriving DecidableEq, Repr

def Func.apply : Func → FVal → FVal
  | .rcp => frcp
  | .rsq => frsq
  | .exp => fexp2
  | .log => flog2

/-- VRCP, VRSQ, VEXP, VLOG (23_ref_v_y R366). -/
def vFunc (f : Func) (t : Nat) (m : Mods) (fmt a : Nat) : Nat :=
  mapLanes t fun i =>
    ffunction t (m.mode fmt) m.clp m.scale (decide (f = .rcp)) (f.apply (srcFloat t (lane (laneBits t) a i) m.aa m.na))

/-- One level of a reduction tree: neighbours combined, in order (06_numbers R94). -/
def pairUp {α : Type} (f : α → α → α) : List α → List α
  | a :: b :: r => f a b :: pairUp f r
  | r => r

/-- `n` levels of a reduction tree. -/
def tree {α : Type} (f : α → α → α) : Nat → List α → List α
  | 0, r => r
  | n + 1, r => tree f n (pairUp f r)

/-- Levels of the tree over the lanes of a type. -/
def treeLevels (t : Nat) : Nat := Nat.log2 (lanes t)

/-- The values of all lanes after modifiers. -/
def floatLanes (t : Nat) (m : Mods) (a : Nat) : List FVal :=
  (List.range (lanes t)).map fun i => srcFloat t (lane (laneBits t) a i) m.aa m.na

def intLanes (t : Nat) (m : Mods) (a : Nat) : List Int :=
  (List.range (lanes t)).map fun i => srcInt t (lane (laneBits t) a i) m.aa m.na

/-- The exact sum of the last level of VSUM's tree, whose earlier levels round (06_numbers R94). -/
def sumTop (mode : Nat) : List FVal → FVal
  | [a, b] => fadd mode a b
  | [a] => a
  | _ => .nan

/-- VSUM (06_numbers R94; 23_ref_v_y R374): lane 0; the other lanes zero. -/
def vSum (t : Nat) (m : Mods) (fmt a : Nat) : Nat :=
  if t < 8 then reduce t m.clp ((intLanes t m a).foldl (· + ·) 0)
  else
    let mode := m.mode fmt
    ffinish t mode m.clp m.scale
      (sumTop mode (tree (fun x y => fdecode t (fround t mode (fadd mode x y))) (treeLevels t - 1) (floatLanes t m a)))

/-- VRMAX (06_numbers R94; 23_ref_v_y R374): lane 0; the other lanes zero. -/
def vRmax (t : Nat) (m : Mods) (a : Nat) : Nat :=
  if t < 8 then reduce t 0 ((tree (Arith.int .max) (treeLevels t) (intLanes t m a)).headD 0)
  else fround t 0 ((tree (fpick true) (treeLevels t) (floatLanes t m a)).headD .nan)

/-- VPERM: the low log2 N bits of B's lane choose the lane of A (23_ref_v_y R372). -/
def vPerm (t a b : Nat) : Nat :=
  let w := laneBits t
  mapLanes t fun i => lane w a (lane w b i % lanes t)

/-- VBCAST (23_ref_v_y R363). -/
def vBcast (t j a : Nat) : Nat := mapLanes t fun _ => lane (laneBits t) a j

/-- VIOTA (23_ref_v_y R368). -/
def vIota (t : Nat) : Nat :=
  mapLanes t fun i => if t < 8 then i % 2 ^ laneBits t else fround t 0 (.fin false i 0)

/-- VLI: low bits for narrow lanes; sign-extended for i64, zero-extended for n64 (04_encoding R66). -/
def vLi (t imm : Nat) : Nat :=
  mapLanes t fun _ => if t = 3 then imod (signed 32 imm) (2 ^ 64) else imm % 2 ^ laneBits t

/-- VPOPC (23_ref_v_y R373). -/
def vPopc (t a : Nat) : Nat := mapLanes t fun i => popcount (laneBits t) (lane (laneBits t) a i)

/-! ### Conversions (06_numbers R91, R92; 07_vector R109) -/

/-- A floating value rounded to an integer in a mode, then saturated to an integer or natural type (06_numbers R91). -/
def toInteger (dc mode : Nat) (x : FVal) : Nat :=
  let w := laneBits dc
  let lo : Int := if dc < 4 then -(2 ^ (w - 1) : Nat) else 0
  let hi : Int := if dc < 4 then (2 ^ (w - 1) : Nat) - 1 else (2 ^ w : Nat) - 1
  match x with
  | .nan => 0
  | .inf neg => imod (if neg then lo else hi) (2 ^ w)
  | .fin neg m e =>
    let k : Int := roundAt mode neg m e 0
    reduce dc 1 (if neg then -k else k)

/-- One lane of VCVT. -/
def cvtLane (t dc : Nat) (m : Mods) (fmt v : Nat) : Nat :=
  let mode := m.mode fmt
  if t < 8 then
    let x := srcInt t v m.aa m.na
    if dc < 8 then reduce dc m.clp x
    else ffinish dc mode m.clp m.scale (.fin (decide (x < 0)) x.natAbs 0)
  else
    let x := srcFloat t v m.aa m.na
    if dc < 8 then toInteger dc mode (x.scale m.scale) else ffinish dc mode m.clp m.scale x

/-- VCVT between lane types: destination lanes at or above the source's lane count are zero (07_vector R109). -/
def vCvt (t dc : Nat) (m : Mods) (fmt a : Nat) : Nat :=
  mapLanes dc fun i => if i < lanes t then cvtLane t dc m fmt (lane (laneBits t) a i) else 0

/-- The source lanes of a block conversion. -/
def blockSource (t : Nat) (m : Mods) (a : Nat) : List FVal :=
  (List.range 32).map fun i => srcFloat t (lane (laneBits t) a i) m.aa m.na

def FVal.finite : FVal → Bool
  | .fin _ _ _ => true
  | _ => false

/-- floor(log2 |x|) of a finite non-zero value. -/
def FVal.exponent : FVal → Option Int
  | .fin _ m e => if m = 0 then none else some ((Nat.log2 m : Int) + e)
  | _ => none

/-- The largest exponent among finite non-zero values. -/
def maxExponent : List FVal → Option Int
  | [] => none
  | x :: r =>
    match x.exponent, maxExponent r with
    | none, b => b
    | some a, none => some a
    | some a, some b => some (max a b)

/-- A mantissa of a block: RNE, clamped to `mb` bits (06_numbers R96). -/
def blockMantissa (mb : Nat) (u : Int) : FVal → Int
  | .fin neg m e =>
    let k : Int := roundAt 0 neg m e u
    max (-(2 ^ (mb - 1) : Nat)) (min ((2 ^ (mb - 1) : Nat) - 1) (if neg then -k else k))
  | _ => 0

/-- A bkm block of 32 values, or none if one of them is Inf or NaN (06_numbers R96). -/
def toBlock (mb : Nat) (xs : List FVal) : Option Nat :=
  if xs.all FVal.finite then
    match maxExponent xs with
    | none => some 0
    | some em =>
      let e : Int := max 0 (127 + em - ((mb : Int) - 2))
      some (e.toNat + 256 * ofLanes mb (xs.map fun x => imod (blockMantissa mb (e - 127) x) (2 ^ mb)))
  else none

/-! ### The Peal generator (06_numbers R98) -/

/-- A 32-bit word rotated left. -/
def rotl (v n : Nat) : Nat := v * 2 ^ n % 2 ^ 32 + v / 2 ^ (32 - n)

/-- The four words of the generator's state. -/
structure Peal where
  x0 : Nat
  x1 : Nat
  x2 : Nat
  x3 : Nat
deriving DecidableEq, Repr

/-- Steps a and c: x0 gains x1; x3 takes x0 and rotates. -/
def Peal.left (s : Peal) (n : Nat) : Peal :=
  let x0 := (s.x0 + s.x1) % 2 ^ 32
  { s with x0 := x0, x3 := rotl (s.x3 ^^^ x0) n }

/-- Steps b and d: x2 gains x3; x1 takes x2 and rotates. -/
def Peal.right (s : Peal) (n : Nat) : Peal :=
  let x2 := (s.x2 + s.x3) % 2 ^ 32
  { s with x2 := x2, x1 := rotl (s.x1 ^^^ x2) n }

/-- One round. -/
def Peal.round (k0 k1 r : Nat) (s : Peal) : Peal :=
  let t := (((s.left 16).right 12).left 8).right 7
  { t with x0 := (t.x0 + k0 + r) % 2 ^ 32, x1 := t.x1 ^^^ k1 }

/-- The draw of a key and a counter. -/
def peal (k0 k1 c0 c1 c2 c3 : Nat) : Nat :=
  let s : Peal := ⟨c0 ^^^ k0, c1 ^^^ k1, (c2 + k0) % 2 ^ 32, (c3 + k1) % 2 ^ 32⟩
  let t := Peal.round k0 k1 3 (Peal.round k0 k1 2 (Peal.round k0 k1 1 (Peal.round k0 k1 0 s)))
  (t.x1 ^^^ t.x3) * 2 ^ 32 + (t.x0 ^^^ t.x2)

/-- VRNG (07_vector R111). -/
def vRng (a b : Nat) : Nat :=
  mapLanes 7 fun i =>
    peal (lane 32 b 0) (lane 32 b 1) (lane 64 a i % 2 ^ 32) (lane 64 a i / 2 ^ 32) (lane 32 b 2) (lane 32 b 3)

end Sys2Proof.Machine
end

