-- ==== Sys2Proof/Machine/VOps.lean ====
section
/-! DEFINITION. The V ops, in VA on the v file and in VB on the w file (07_vector R101 to R113; 23_ref_v_y R357 to R377; 03_core R49, R50). -/

namespace Sys2Proof.Machine

/-- A vector register of a slot's file. -/
def Core.vr (c : Core) (slot r : Nat) : Line := if slot = 3 then c.w r else c.v r

def Core.vn (c : Core) (slot r : Nat) : Nat := (c.vr slot r).toNat

/-- A destination in a slot's file. -/
def vDst (slot r : Nat) : Dst := if slot = 3 then .w r else .v r

/-- The rounding mode register as a number (06_numbers R88). -/
def Core.rm (c : Core) : Nat := c.fmt.toNat

/-- A V op that writes one register of its slot's file. -/
def vReg (i : Instr) (g : Guard) (lat d : Nat) (f : Nat → Core → Nat) (s : State) : Host.Outcome State Fault Refusal :=
  issueReg i g lat (vDst s.cursor.slot d) (f s.cursor.slot) s

/-- Latency of VADD and VSUB (07_vector R112). -/
def latAdd (t : Nat) : Nat := if t < 8 then 2 else 3

/-- Latency of VMUL (07_vector R112). -/
def latMul (t : Nat) : Nat := if t < 8 then 3 else 5

/-- An element-wise arithmetic op (23_ref_v_y R360). -/
def vArithOp (i : Instr) (g : Guard) (lat : Nat) (op : Arith) (d a b t : Nat) (m : Mods) (s : State) : Host.Outcome State Fault Refusal :=
  vReg i g lat d (fun sl c => vArith op t m c.rm (c.vn sl a) (c.vn sl b)) s

/-- A function op (23_ref_v_y R366). -/
def vFuncOp (i : Instr) (g : Guard) (f : Func) (d a t : Nat) (m : Mods) (s : State) : Host.Outcome State Fault Refusal :=
  vReg i g 8 d (fun sl c => vFunc f t m c.rm (c.vn sl a)) s

/-- A reduction to the sum (23_ref_v_y R374). -/
def vSumOp (i : Instr) (g : Guard) (d a t : Nat) (m : Mods) (s : State) : Host.Outcome State Fault Refusal :=
  vReg i g 7 d (fun sl c => vSum t m c.rm (c.vn sl a)) s

/-- A reduction to the maximum (23_ref_v_y R374). -/
def vRmaxOp (i : Instr) (g : Guard) (d a t : Nat) (m : Mods) (s : State) : Host.Outcome State Fault Refusal :=
  vReg i g 5 d (fun sl c => vRmax t m (c.vn sl a)) s

/-- The line step of VLD and VST, 12 bits (03_core R43; 04_encoding R66). -/
def vStep (step : Nat) (st : Sticky) : Sticky := st.stepped 4096 (signed 12 step) 512 0

/-- VLD: the bank is read at issue+1 and the register written at issue+5 (07_vector R103). -/
def vLoad (i : Instr) (g : Guard) (r ar off step : Nat) (s : State) : Host.Outcome State Fault Refusal :=
  issueOp i g (vStep step) (fun s => s.onHere fun c =>
    c.issue s.here.pt s.cursor.slot [(1, .vld (decide (s.cursor.slot = 3)) r (c.vline s.cursor.slot ar off (c.slot s.cursor.slot)))]) s

/-- VST: the register is read at issue and the line written at issue+3 (07_vector R103). -/
def vStore (i : Instr) (g : Guard) (r ar off step : Nat) (s : State) : Host.Outcome State Fault Refusal :=
  issueOp i g (vStep step) (fun s => s.onHere fun c =>
    c.issue s.here.pt s.cursor.slot [(3, .storeLine (c.vline s.cursor.slot ar off (c.slot s.cursor.slot)) (c.vr s.cursor.slot r))]) s

/-- The result of a block conversion: its bytes, or the format fault of an infinity or NaN (06_numbers R96). -/
def blockEffect (isW : Bool) (d mb : Nat) (xs : List FVal) : Eff :=
  match toBlock mb xs with
  | some v => .vcvtBlock isW d v none
  | none => .vcvtBlock isW d 0 (some ⟨0x42, 0⟩)

/-- What VCVT puts in flight (23_ref_v_y R365). -/
def cvtEffect (slot d a t dc : Nat) (m : Mods) (c : Core) : Eff :=
  if 16 ≤ dc then blockEffect (decide (slot = 3)) d (dc - 14) (blockSource t m (c.vn slot a))
  else .reg (vDst slot d) (vCvt t dc m c.rm (c.vn slot a))

/-! ### Element-wise arithmetic -/

/-- VADD (23_ref_v_y R360). -/
def execVadd (g : Guard) (d a b t : Nat) (s : State) : Host.Outcome State Fault Refusal :=
  vArithOp (.vadd g d a b t) g (latAdd t) .add d a b t Mods.none s

/-- VADD with a modifier word. -/
def execVaddLong (g : Guard) (d a b t na aa nb ab clp sc rm rmo : Nat) (s : State) : Host.Outcome State Fault Refusal :=
  vArithOp (.vaddLong g d a b t na aa nb ab clp sc rm rmo) g (latAdd t) .add d a b t (Mods.two na aa nb ab clp sc rm rmo) s

/-- VSUB (23_ref_v_y R360). -/
def execVsub (g : Guard) (d a b t : Nat) (s : State) : Host.Outcome State Fault Refusal :=
  vArithOp (.vsub g d a b t) g (latAdd t) .sub d a b t Mods.none s

/-- VSUB with a modifier word. -/
def execVsubLong (g : Guard) (d a b t na aa nb ab clp sc rm rmo : Nat) (s : State) : Host.Outcome State Fault Refusal :=
  vArithOp (.vsubLong g d a b t na aa nb ab clp sc rm rmo) g (latAdd t) .sub d a b t (Mods.two na aa nb ab clp sc rm rmo) s

/-- VMUL (23_ref_v_y R360). -/
def execVmul (g : Guard) (d a b t : Nat) (s : State) : Host.Outcome State Fault Refusal :=
  vArithOp (.vmul g d a b t) g (latMul t) .mul d a b t Mods.none s

/-- VMUL with a modifier word. -/
def execVmulLong (g : Guard) (d a b t na aa nb ab clp sc rm rmo : Nat) (s : State) : Host.Outcome State Fault Refusal :=
  vArithOp (.vmulLong g d a b t na aa nb ab clp sc rm rmo) g (latMul t) .mul d a b t (Mods.two na aa nb ab clp sc rm rmo) s

/-- VMIN (23_ref_v_y R360). -/
def execVmin (g : Guard) (d a b t : Nat) (s : State) : Host.Outcome State Fault Refusal :=
  vArithOp (.vmin g d a b t) g 2 .min d a b t Mods.none s

/-- VMIN with a modifier word. -/
def execVminLong (g : Guard) (d a b t na aa nb ab clp sc rm rmo : Nat) (s : State) : Host.Outcome State Fault Refusal :=
  vArithOp (.vminLong g d a b t na aa nb ab clp sc rm rmo) g 2 .min d a b t (Mods.two na aa nb ab clp sc rm rmo) s

/-- VMAX (23_ref_v_y R360). -/
def execVmax (g : Guard) (d a b t : Nat) (s : State) : Host.Outcome State Fault Refusal :=
  vArithOp (.vmax g d a b t) g 2 .max d a b t Mods.none s

/-- VMAX with a modifier word. -/
def execVmaxLong (g : Guard) (d a b t na aa nb ab clp sc rm rmo : Nat) (s : State) : Host.Outcome State Fault Refusal :=
  vArithOp (.vmaxLong g d a b t na aa nb ab clp sc rm rmo) g 2 .max d a b t (Mods.two na aa nb ab clp sc rm rmo) s

/-- VFMA (23_ref_v_y R367). -/
def execVfma (g : Guard) (d a b t c na aa nb ab nc ac clp sc rm rmo : Nat) (s : State) : Host.Outcome State Fault Refusal :=
  vReg (.vfma g d a b t c na aa nb ab nc ac clp sc rm rmo) g 5 d (fun sl k =>
    vFma t ⟨na, aa, nb, ab, nc, ac, clp, sc, rm, rmo⟩ k.rm (k.vn sl a) (k.vn sl b) (k.vn sl c)) s

/-! ### Bits, shifts, comparisons and selection -/

/-- VAND (23_ref_v_y R361). -/
def execVand (g : Guard) (d a b t : Nat) (s : State) : Host.Outcome State Fault Refusal :=
  vReg (.vand g d a b t) g 2 d (fun sl c => (vAnd (c.vr sl a) (c.vr sl b)).toNat) s

/-- VOR (23_ref_v_y R361). -/
def execVor (g : Guard) (d a b t : Nat) (s : State) : Host.Outcome State Fault Refusal :=
  vReg (.vor g d a b t) g 2 d (fun sl c => (vOr (c.vr sl a) (c.vr sl b)).toNat) s

/-- VXOR (23_ref_v_y R361). -/
def execVxor (g : Guard) (d a b t : Nat) (s : State) : Host.Outcome State Fault Refusal :=
  vReg (.vxor g d a b t) g 2 d (fun sl c => (vXor (c.vr sl a) (c.vr sl b)).toNat) s

/-- VSHL (23_ref_v_y R376). -/
def execVshl (g : Guard) (d a b t : Nat) (s : State) : Host.Outcome State Fault Refusal :=
  vReg (.vshl g d a b t) g 2 d (fun sl c => vShl t (c.vn sl a) (c.vn sl b)) s

/-- VSHR (23_ref_v_y R376). -/
def execVshr (g : Guard) (d a b t : Nat) (s : State) : Host.Outcome State Fault Refusal :=
  vReg (.vshr g d a b t) g 2 d (fun sl c => vShr t (c.vn sl a) (c.vn sl b)) s

/-- VSAR (23_ref_v_y R376). -/
def execVsar (g : Guard) (d a b t : Nat) (s : State) : Host.Outcome State Fault Refusal :=
  vReg (.vsar g d a b t) g 2 d (fun sl c => vSar t (c.vn sl a) (c.vn sl b)) s

/-- VCMP (23_ref_v_y R364). -/
def execVcmp (g : Guard) (d a b t na aa nb ab cond : Nat) (s : State) : Host.Outcome State Fault Refusal :=
  vReg (.vcmp g d a b t na aa nb ab cond) g 2 d (fun sl c =>
    vCmp t cond (Mods.two na aa nb ab 0 0 0 0) (c.vn sl a) (c.vn sl b)) s

/-- VSEL (23_ref_v_y R377). -/
def execVsel (g : Guard) (d a b t m : Nat) (s : State) : Host.Outcome State Fault Refusal :=
  vReg (.vsel g d a b t m) g 2 d (fun sl c => vSel t (c.vn sl a) (c.vn sl b) (c.vn sl m)) s

/-! ### Conversions, functions and reductions -/

/-- VCVT (23_ref_v_y R365). -/
def execVcvt (g : Guard) (d a t na aa clp sc rm rmo dc : Nat) (s : State) : Host.Outcome State Fault Refusal :=
  issueResults (.vcvt g d a t na aa clp sc rm rmo dc) g (fun c =>
    [(3, cvtEffect s.cursor.slot d a t dc (Mods.one na aa clp sc rm rmo) c)]) s

/-- VRCP (23_ref_v_y R366). -/
def execVrcp (g : Guard) (d a t : Nat) (s : State) : Host.Outcome State Fault Refusal :=
  vFuncOp (.vrcp g d a t) g .rcp d a t Mods.none s

/-- VRCP with a modifier word. -/
def execVrcpLong (g : Guard) (d a t na aa clp sc rm rmo : Nat) (s : State) : Host.Outcome State Fault Refusal :=
  vFuncOp (.vrcpLong g d a t na aa clp sc rm rmo) g .rcp d a t (Mods.one na aa clp sc rm rmo) s

/-- VRSQ (23_ref_v_y R366). -/
def execVrsq (g : Guard) (d a t : Nat) (s : State) : Host.Outcome State Fault Refusal :=
  vFuncOp (.vrsq g d a t) g .rsq d a t Mods.none s

/-- VRSQ with a modifier word. -/
def execVrsqLong (g : Guard) (d a t na aa clp sc rm rmo : Nat) (s : State) : Host.Outcome State Fault Refusal :=
  vFuncOp (.vrsqLong g d a t na aa clp sc rm rmo) g .rsq d a t (Mods.one na aa clp sc rm rmo) s

/-- VEXP (23_ref_v_y R366). -/
def execVexp (g : Guard) (d a t : Nat) (s : State) : Host.Outcome State Fault Refusal :=
  vFuncOp (.vexp g d a t) g .exp d a t Mods.none s

/-- VEXP with a modifier word. -/
def execVexpLong (g : Guard) (d a t na aa clp sc rm rmo : Nat) (s : State) : Host.Outcome State Fault Refusal :=
  vFuncOp (.vexpLong g d a t na aa clp sc rm rmo) g .exp d a t (Mods.one na aa clp sc rm rmo) s

/-- VLOG (23_ref_v_y R366). -/
def execVlog (g : Guard) (d a t : Nat) (s : State) : Host.Outcome State Fault Refusal :=
  vFuncOp (.vlog g d a t) g .log d a t Mods.none s

/-- VLOG with a modifier word. -/
def execVlogLong (g : Guard) (d a t na aa clp sc rm rmo : Nat) (s : State) : Host.Outcome State Fault Refusal :=
  vFuncOp (.vlogLong g d a t na aa clp sc rm rmo) g .log d a t (Mods.one na aa clp sc rm rmo) s

/-- VSUM (23_ref_v_y R374). -/
def execVsum (g : Guard) (d a t : Nat) (s : State) : Host.Outcome State Fault Refusal :=
  vSumOp (.vsum g d a t) g d a t Mods.none s

/-- VSUM with a modifier word. -/
def execVsumLong (g : Guard) (d a t na aa clp sc rm rmo : Nat) (s : State) : Host.Outcome State Fault Refusal :=
  vSumOp (.vsumLong g d a t na aa clp sc rm rmo) g d a t (Mods.one na aa clp sc rm rmo) s

/-- VRMAX (23_ref_v_y R374). -/
def execVrmax (g : Guard) (d a t : Nat) (s : State) : Host.Outcome State Fault Refusal :=
  vRmaxOp (.vrmax g d a t) g d a t Mods.none s

/-- VRMAX with a modifier word. -/
def execVrmaxLong (g : Guard) (d a t na aa : Nat) (s : State) : Host.Outcome State Fault Refusal :=
  vRmaxOp (.vrmaxLong g d a t na aa) g d a t (Mods.one na aa 0 0 0 0) s

/-! ### Moving and making lanes -/

/-- VPERM (23_ref_v_y R372). -/
def execVperm (g : Guard) (d a b t : Nat) (s : State) : Host.Outcome State Fault Refusal :=
  vReg (.vperm g d a b t) g 4 d (fun sl c => vPerm t (c.vn sl a) (c.vn sl b)) s

/-- VBCAST of lane 0 (23_ref_v_y R363). -/
def execVbcast (g : Guard) (d a t : Nat) (s : State) : Host.Outcome State Fault Refusal :=
  vReg (.vbcast g d a t) g 2 d (fun sl c => vBcast t 0 (c.vn sl a)) s

/-- VBCAST of a named lane (23_ref_v_y R363). -/
def execVbcastLong (g : Guard) (d a t j : Nat) (s : State) : Host.Outcome State Fault Refusal :=
  vReg (.vbcastLong g d a t j) g 2 d (fun sl c => vBcast t j (c.vn sl a)) s

/-- VIOTA (23_ref_v_y R368). -/
def execViota (g : Guard) (d t : Nat) (s : State) : Host.Outcome State Fault Refusal :=
  vReg (.viota g d t) g 1 d (fun _ _ => vIota t) s

/-- VLI (23_ref_v_y R371). -/
def execVli (g : Guard) (d t imm : Nat) (s : State) : Host.Outcome State Fault Refusal :=
  vReg (.vli g d t imm) g 1 d (fun _ _ => vLi t imm) s

/-- VRNG (07_vector R111). -/
def execVrng (g : Guard) (d a b t : Nat) (s : State) : Host.Outcome State Fault Refusal :=
  vReg (.vrng g d a b t) g 6 d (fun sl c => vRng (c.vn sl a) (c.vn sl b)) s

/-- VPOPC (23_ref_v_y R373). -/
def execVpopc (g : Guard) (d a t : Nat) (s : State) : Host.Outcome State Fault Refusal :=
  vReg (.vpopc g d a t) g 3 d (fun sl c => vPopc t (c.vn sl a)) s

/-- VANY (23_ref_v_y R362). -/
def execVany (g : Guard) (pd a : Nat) (s : State) : Host.Outcome State Fault Refusal :=
  issueReg (.vany g pd a) g 3 (.p pd) (fun c => (decide (c.vr s.cursor.slot a ≠ 0)).toNat) s

/-! ### Lines of the scratchpad -/

/-- VLD without a step (23_ref_v_y R369). -/
def execVld (g : Guard) (r ar off : Nat) (s : State) : Host.Outcome State Fault Refusal :=
  vLoad (.vld g r ar off) g r ar off 0 s

/-- VLD with a step (23_ref_v_y R369). -/
def execVldLong (g : Guard) (r ar off step : Nat) (s : State) : Host.Outcome State Fault Refusal :=
  vLoad (.vldLong g r ar off step) g r ar off step s

/-- VST without a step (23_ref_v_y R369). -/
def execVst (g : Guard) (r ar off : Nat) (s : State) : Host.Outcome State Fault Refusal :=
  vStore (.vst g r ar off) g r ar off 0 s

/-- VST with a step (23_ref_v_y R369). -/
def execVstLong (g : Guard) (r ar off step : Nat) (s : State) : Host.Outcome State Fault Refusal :=
  vStore (.vstLong g r ar off step) g r ar off step s

/-! ### Copies to other files -/

/-- What an XCP from V to another file puts in flight: a whole register into the other vector file at issue+3, or a packed image into z at
issue+6 (03_core R49, R50). -/
def xcpVector (slot f d r : Nat) (c : Core) : List (Nat × Eff) :=
  if f = 4 then [(6, .zres d (xcpPacked c.g.toNat (c.vn slot r)))]
  else [(3, .reg (if f = 3 then .w d else .v d) (c.vn slot r))]

/-- XCP from V to a vector file or z (03_core R49, R50). -/
def execXcpV (g : Guard) (f d r u : Nat) (s : State) : Host.Outcome State Fault Refusal :=
  issueResults (.xcpV g f d r u) g (xcpVector s.cursor.slot f d r) s

/-- XCP of a 64-bit lane to an s register (03_core R49). -/
def execXcpVLane (g : Guard) (f d r u j : Nat) (s : State) : Host.Outcome State Fault Refusal :=
  issueReg (.xcpVLane g f d r u j) g 4 (.s d) (fun c => lane 64 (c.vn s.cursor.slot r) j) s

end Sys2Proof.Machine
end

