-- ==== Sys2Proof/Machine/Dispatch.lean ====
section
/-! DEFINITION. The dispatch: one arm per constructor, each one call of the instruction's meaning. -/

namespace Sys2Proof.Machine

def exec (i : Instr) (s : State) : Host.Outcome State Fault Refusal :=
  match i with
  | .nop g => Sys2Proof.Machine.execNop g s
  | .br g off => Sys2Proof.Machine.execBr g off s
  | .brk g ka => Sys2Proof.Machine.execBrk g ka s
  | .call g off => Sys2Proof.Machine.execCall g off s
  | .ret g => Sys2Proof.Machine.execRet g s
  | .loop g kn ki body stages cl res => Sys2Proof.Machine.execLoop g kn ki body stages cl res s
  | .yieldOp g => Sys2Proof.Machine.execYieldOp g s
  | .endOp g => Sys2Proof.Machine.execEndOp g s
  | .trap g code => Sys2Proof.Machine.execTrap g code s
  | .wake g dom mode => Sys2Proof.Machine.execWake g dom mode s
  | .sleep g dom mode => Sys2Proof.Machine.execSleep g dom mode s
  | .wstat g kd dom => Sys2Proof.Machine.execWstat g kd dom s
  | .leave g mask => Sys2Proof.Machine.execLeave g mask s
  | .xlt g hd ka => Sys2Proof.Machine.execXlt g hd ka s
  | .hinv g hd => Sys2Proof.Machine.execHinv g hd s
  | .setfmt g ka => Sys2Proof.Machine.execSetfmt g ka s
  | .setfmtLong g val => Sys2Proof.Machine.execSetfmtLong g val s
  | .bara g bar => Sys2Proof.Machine.execBara g bar s
  | .barw g bar => Sys2Proof.Machine.execBarw g bar s
  | .barwTimeout g bar beats => Sys2Proof.Machine.execBarwTimeout g bar beats s
  | .phase g => Sys2Proof.Machine.execPhase g s
  | .launch g kq kn => Sys2Proof.Machine.execLaunch g kq kn s
  | .fence g scope kind => Sys2Proof.Machine.execFence g scope kind s
  | .tabr g kd clk => Sys2Proof.Machine.execTabr g kd clk s
  | .kli g kd imm => Sys2Proof.Machine.execKli g kd imm s
  | .kcp g kd ka => Sys2Proof.Machine.execKcp g kd ka s
  | .xcpK g f d r u => Sys2Proof.Machine.execXcpK g f d r u s
  | .add g d a b => Sys2Proof.Machine.execAdd g d a b s
  | .addImm g d a imm => Sys2Proof.Machine.execAddImm g d a imm s
  | .addi g d a imm => Sys2Proof.Machine.execAddi g d a imm s
  | .sub g d a b => Sys2Proof.Machine.execSub g d a b s
  | .subImm g d a imm => Sys2Proof.Machine.execSubImm g d a imm s
  | .adc g d a b ci co => Sys2Proof.Machine.execAdc g d a b ci co s
  | .sbb g d a b ci co => Sys2Proof.Machine.execSbb g d a b ci co s
  | .mul g d a b => Sys2Proof.Machine.execMul g d a b s
  | .mulImm g d a imm => Sys2Proof.Machine.execMulImm g d a imm s
  | .mulh g d a b nat => Sys2Proof.Machine.execMulh g d a b nat s
  | .div g d a b nat => Sys2Proof.Machine.execDiv g d a b nat s
  | .andOp g d a b => Sys2Proof.Machine.execAndOp g d a b s
  | .andImm g d a imm => Sys2Proof.Machine.execAndImm g d a imm s
  | .orOp g d a b => Sys2Proof.Machine.execOrOp g d a b s
  | .orImm g d a imm => Sys2Proof.Machine.execOrImm g d a imm s
  | .xorOp g d a b => Sys2Proof.Machine.execXorOp g d a b s
  | .xorImm g d a imm => Sys2Proof.Machine.execXorImm g d a imm s
  | .shl g d a b => Sys2Proof.Machine.execShl g d a b s
  | .shlImm g d a imm => Sys2Proof.Machine.execShlImm g d a imm s
  | .shr g d a b => Sys2Proof.Machine.execShr g d a b s
  | .shrImm g d a imm => Sys2Proof.Machine.execShrImm g d a imm s
  | .sar g d a b => Sys2Proof.Machine.execSar g d a b s
  | .sarImm g d a imm => Sys2Proof.Machine.execSarImm g d a imm s
  | .minOp g d a b nat => Sys2Proof.Machine.execMinOp g d a b nat s
  | .maxOp g d a b nat => Sys2Proof.Machine.execMaxOp g d a b nat s
  | .clz g d a => Sys2Proof.Machine.execClz g d a s
  | .popc g d a => Sys2Proof.Machine.execPopc g d a s
  | .li g d imm => Sys2Proof.Machine.execLi g d imm s
  | .lih g d imm => Sys2Proof.Machine.execLih g d imm s
  | .sel g d a b p => Sys2Proof.Machine.execSel g d a b p s
  | .cmp g d a b nat cond isImm imm => Sys2Proof.Machine.execCmp g d a b nat cond isImm imm s
  | .plog g pd pa pb tt => Sys2Proof.Machine.execPlog g pd pa pb tt s
  | .lds g d a nat size off => Sys2Proof.Machine.execLds g d a nat size off s
  | .sts g d a size off => Sys2Proof.Machine.execSts g d a size off s
  | .xcpS g f d r u => Sys2Proof.Machine.execXcpS g f d r u s
  | .vadd g d a b t => Sys2Proof.Machine.execVadd g d a b t s
  | .vaddLong g d a b t na aa nb ab clp sc rm rmo => Sys2Proof.Machine.execVaddLong g d a b t na aa nb ab clp sc rm rmo s
  | .vsub g d a b t => Sys2Proof.Machine.execVsub g d a b t s
  | .vsubLong g d a b t na aa nb ab clp sc rm rmo => Sys2Proof.Machine.execVsubLong g d a b t na aa nb ab clp sc rm rmo s
  | .vmul g d a b t => Sys2Proof.Machine.execVmul g d a b t s
  | .vmulLong g d a b t na aa nb ab clp sc rm rmo => Sys2Proof.Machine.execVmulLong g d a b t na aa nb ab clp sc rm rmo s
  | .vfma g d a b t c na aa nb ab nc ac clp sc rm rmo => Sys2Proof.Machine.execVfma g d a b t c na aa nb ab nc ac clp sc rm rmo s
  | .vmin g d a b t => Sys2Proof.Machine.execVmin g d a b t s
  | .vminLong g d a b t na aa nb ab clp sc rm rmo => Sys2Proof.Machine.execVminLong g d a b t na aa nb ab clp sc rm rmo s
  | .vmax g d a b t => Sys2Proof.Machine.execVmax g d a b t s
  | .vmaxLong g d a b t na aa nb ab clp sc rm rmo => Sys2Proof.Machine.execVmaxLong g d a b t na aa nb ab clp sc rm rmo s
  | .vand g d a b t => Sys2Proof.Machine.execVand g d a b t s
  | .vor g d a b t => Sys2Proof.Machine.execVor g d a b t s
  | .vxor g d a b t => Sys2Proof.Machine.execVxor g d a b t s
  | .vshl g d a b t => Sys2Proof.Machine.execVshl g d a b t s
  | .vshr g d a b t => Sys2Proof.Machine.execVshr g d a b t s
  | .vsar g d a b t => Sys2Proof.Machine.execVsar g d a b t s
  | .vcmp g d a b t na aa nb ab cond => Sys2Proof.Machine.execVcmp g d a b t na aa nb ab cond s
  | .vsel g d a b t c => Sys2Proof.Machine.execVsel g d a b t c s
  | .vcvt g d a t na aa clp sc rm rmo dc => Sys2Proof.Machine.execVcvt g d a t na aa clp sc rm rmo dc s
  | .vrcp g d a t => Sys2Proof.Machine.execVrcp g d a t s
  | .vrcpLong g d a t na aa clp sc rm rmo => Sys2Proof.Machine.execVrcpLong g d a t na aa clp sc rm rmo s
  | .vrsq g d a t => Sys2Proof.Machine.execVrsq g d a t s
  | .vrsqLong g d a t na aa clp sc rm rmo => Sys2Proof.Machine.execVrsqLong g d a t na aa clp sc rm rmo s
  | .vexp g d a t => Sys2Proof.Machine.execVexp g d a t s
  | .vexpLong g d a t na aa clp sc rm rmo => Sys2Proof.Machine.execVexpLong g d a t na aa clp sc rm rmo s
  | .vlog g d a t => Sys2Proof.Machine.execVlog g d a t s
  | .vlogLong g d a t na aa clp sc rm rmo => Sys2Proof.Machine.execVlogLong g d a t na aa clp sc rm rmo s
  | .vsum g d a t => Sys2Proof.Machine.execVsum g d a t s
  | .vsumLong g d a t na aa clp sc rm rmo => Sys2Proof.Machine.execVsumLong g d a t na aa clp sc rm rmo s
  | .vrmax g d a t => Sys2Proof.Machine.execVrmax g d a t s
  | .vrmaxLong g d a t na aa => Sys2Proof.Machine.execVrmaxLong g d a t na aa s
  | .vperm g d a b t => Sys2Proof.Machine.execVperm g d a b t s
  | .vbcast g d a t => Sys2Proof.Machine.execVbcast g d a t s
  | .vbcastLong g d a t lane => Sys2Proof.Machine.execVbcastLong g d a t lane s
  | .viota g d t => Sys2Proof.Machine.execViota g d t s
  | .vli g d t imm => Sys2Proof.Machine.execVli g d t imm s
  | .vld g r ar off => Sys2Proof.Machine.execVld g r ar off s
  | .vldLong g r ar off step => Sys2Proof.Machine.execVldLong g r ar off step s
  | .vst g r ar off => Sys2Proof.Machine.execVst g r ar off s
  | .vstLong g r ar off step => Sys2Proof.Machine.execVstLong g r ar off step s
  | .vrng g d a b t => Sys2Proof.Machine.execVrng g d a b t s
  | .vpopc g d a t => Sys2Proof.Machine.execVpopc g d a t s
  | .vany g pd a => Sys2Proof.Machine.execVany g pd a s
  | .xcpV g f d r u => Sys2Proof.Machine.execXcpV g f d r u s
  | .xcpVLane g f d r u lane => Sys2Proof.Machine.execXcpVLane g f d r u lane s
  | .mgw g gw => Sys2Proof.Machine.execMgw g gw s
  | .mgreq g ma mb n => Sys2Proof.Machine.execMgreq g ma mb n s
  | .mpack g z im off n rev str start step => Sys2Proof.Machine.execMpack g z im off n rev str start step s
  | .mldb g lane entry im => Sys2Proof.Machine.execMldb g lane entry im s
  | .mldbLong g lane entry im off lstep estep => Sys2Proof.Machine.execMldbLong g lane entry im off lstep estep s
  | .mmul g q z e => Sys2Proof.Machine.execMmul g q z e s
  | .mmac g q z e => Sys2Proof.Machine.execMmac g q z e s
  | .mclr g q => Sys2Proof.Machine.execMclr g q s
  | .mext g q im first count wide off => Sys2Proof.Machine.execMext g q im first count wide off s
  | .mcvt g q im first count off => Sys2Proof.Machine.execMcvt g q im first count off s
  | .mshr g q k => Sys2Proof.Machine.execMshr g q k s
  | .mneg g q => Sys2Proof.Machine.execMneg g q s
  | .mldq g q im => Sys2Proof.Machine.execMldq g q im s
  | .mldqLong g q im off => Sys2Proof.Machine.execMldqLong g q im off s
  | .mstq g q im => Sys2Proof.Machine.execMstq g q im s
  | .mstqLong g q im off => Sys2Proof.Machine.execMstqLong g q im off s
  | .xcpM g f d r u => Sys2Proof.Machine.execXcpM g f d r u s
  | .cpy g sstep dstep src dst cnt => Sys2Proof.Machine.execCpy g sstep dstep src dst cnt s
  | .cpyx g core sstep dstep src dst cnt => Sys2Proof.Machine.execCpyx g core sstep dstep src dst cnt s
  | .dact g vch bank h row => Sys2Proof.Machine.execDact g vch bank h row s
  | .drd g vch bank col line step => Sys2Proof.Machine.execDrd g vch bank col line step s
  | .dwr g vch bank col line step => Sys2Proof.Machine.execDwr g vch bank col line step s
  | .dpre g vch bank all => Sys2Proof.Machine.execDpre g vch bank all s
  | .dref g vch bank => Sys2Proof.Machine.execDref g vch bank s
  | .rld g r line idx => Sys2Proof.Machine.execRld g r line idx s
  | .rset g r fld val => Sys2Proof.Machine.execRset g r fld val s
  | .enq g rs rd scope acq rel kind off => Sys2Proof.Machine.execEnq g rs rd scope acq rel kind off s
  | .aop g r fn size scope acq rel opl resl foff => Sys2Proof.Machine.execAop g r fn size scope acq rel opl resl foff s
  | .fsend g r line cnt port => Sys2Proof.Machine.execFsend g r line cnt port s
  | .fput g rs rd scope rel flag => Sys2Proof.Machine.execFput g rs rd scope rel flag s
  | .xcpC g f d r u => Sys2Proof.Machine.execXcpC g f d r u s
  | .headerBreak vf core => Sys2Proof.Machine.execHeaderBreak vf core s
  | .transferTakesEffect vf core => Sys2Proof.Machine.execTransferTakesEffect vf core s
  | .loopPassEnd vf core => Sys2Proof.Machine.execLoopPassEnd vf core s
  | .registerResult vf core => Sys2Proof.Machine.execRegisterResult vf core s
  | .scratchpadTouch vf core => Sys2Proof.Machine.execScratchpadTouch vf core s
  | .drdLanding vf core => Sys2Proof.Machine.execDrdLanding vf core s
  | .cpyxArrival vf core => Sys2Proof.Machine.execCpyxArrival vf core s
  | .fsendLanding vf core => Sys2Proof.Machine.execFsendLanding vf core s
  | .linkTimingFault vf core => Sys2Proof.Machine.execLinkTimingFault vf core s
  | .xltResult vf core => Sys2Proof.Machine.execXltResult vf core s
  | .mpackResult vf core => Sys2Proof.Machine.execMpackResult vf core s
  | .mldbEntryWrite vf core => Sys2Proof.Machine.execMldbEntryWrite vf core s
  | .multiplyResult vf core => Sys2Proof.Machine.execMultiplyResult vf core s
  | .accumulatorResult vf core => Sys2Proof.Machine.execAccumulatorResult vf core s
  | .mextWrite vf core => Sys2Proof.Machine.execMextWrite vf core s
  | .mldqResult vf core => Sys2Proof.Machine.execMldqResult vf core s
  | .vcvtBlockResult vf core => Sys2Proof.Machine.execVcvtBlockResult vf core s
  | .enqStartCheck vf core => Sys2Proof.Machine.execEnqStartCheck vf core s
  | .enqReadPhase vf core => Sys2Proof.Machine.execEnqReadPhase vf core s
  | .untimedScratchAccess vf core cmd => Sys2Proof.Machine.execUntimedScratchAccess vf core cmd s
  | .enginePiece vf core cmd => Sys2Proof.Machine.execEnginePiece vf core cmd s
  | .engineWalk vf core cmd => Sys2Proof.Machine.execEngineWalk vf core cmd s
  | .aopPerform vf core cmd => Sys2Proof.Machine.execAopPerform vf core cmd s
  | .flagWordWrite vf core cmd => Sys2Proof.Machine.execFlagWordWrite vf core cmd s
  | .streamReplay vf core dev scope seq => Sys2Proof.Machine.execStreamReplay vf core dev scope seq s
  | .portDown port => Sys2Proof.Machine.execPortDown port s
  | .destinationUnreachable vf core cmd => Sys2Proof.Machine.execDestinationUnreachable vf core cmd s
  | .refreshDone vf vch bank => Sys2Proof.Machine.execRefreshDone vf vch bank s
  | .refreshDeadline vf => Sys2Proof.Machine.execRefreshDeadline vf s
  | .refreshKeeper vf => Sys2Proof.Machine.execRefreshKeeper vf s
  | .serviceWindow vf vch => Sys2Proof.Machine.execServiceWindow vf vch s
  | .wakeStart vf core dom => Sys2Proof.Machine.execWakeStart vf core dom s
  | .domainReady vf core dom => Sys2Proof.Machine.execDomainReady vf core dom s
  | .noticeLapse vf core => Sys2Proof.Machine.execNoticeLapse vf core s
  | .barrierArrival vf bar member => Sys2Proof.Machine.execBarrierArrival vf bar member s
  | .barrierTimeout vf bar => Sys2Proof.Machine.execBarrierTimeout vf bar s
  | .absenceToken vf bar member => Sys2Proof.Machine.execAbsenceToken vf bar member s
  | .watchdog vf => Sys2Proof.Machine.execWatchdog vf s
  | .holdRequest vf n => Sys2Proof.Machine.execHoldRequest vf n s
  | .holdStart vf => Sys2Proof.Machine.execHoldStart vf s
  | .holdEnd vf => Sys2Proof.Machine.execHoldEnd vf s
  | .stopNotice vf dev pt => Sys2Proof.Machine.execStopNotice vf dev pt s
  | .alignmentFlitSend vf => Sys2Proof.Machine.execAlignmentFlitSend vf s
  | .alignmentFlitArrival vf => Sys2Proof.Machine.execAlignmentFlitArrival vf s
  | .droopStretch cycles lost => Sys2Proof.Machine.execDroopStretch cycles lost s
  | .stretchNotice vf lost => Sys2Proof.Machine.execStretchNotice vf lost s
  | .alignmentPause vf => Sys2Proof.Machine.execAlignmentPause vf s
  | .railError => Sys2Proof.Machine.execRailError s
  | .faultHandler vf => Sys2Proof.Machine.execFaultHandler vf s
  | .belfryPanic => Sys2Proof.Machine.execBelfryPanic s
  | .pageMove vf page unmap prow => Sys2Proof.Machine.execPageMove vf page unmap prow s
  | .taskDispatch vf => Sys2Proof.Machine.execTaskDispatch vf s
  | .taskStart vf => Sys2Proof.Machine.execTaskStart vf s
  | .taskCompletion vf => Sys2Proof.Machine.execTaskCompletion vf s
  | .launchNodeRead vf core => Sys2Proof.Machine.execLaunchNodeRead vf core s
  | .preemptionRequest vf stopPt => Sys2Proof.Machine.execPreemptionRequest vf stopPt s
  | .clampEffect vf => Sys2Proof.Machine.execClampEffect vf s
  | .parkFreeze vf => Sys2Proof.Machine.execParkFreeze vf s
  | .parkDeadline vf => Sys2Proof.Machine.execParkDeadline vf s
  | .forcedStop vf => Sys2Proof.Machine.execForcedStop vf s
  | .drainTimeout vf => Sys2Proof.Machine.execDrainTimeout vf s
  | .contextSave vf => Sys2Proof.Machine.execContextSave vf s
  | .resume vf => Sys2Proof.Machine.execResume vf s
  | .channelReassignment ch vf => Sys2Proof.Machine.execChannelReassignment ch vf s
  | .endSlice vf => Sys2Proof.Machine.execEndSlice vf s
  | .reshape vf m => Sys2Proof.Machine.execReshape vf m s
  | .pageOut vf => Sys2Proof.Machine.execPageOut vf s
  | .coldRestore vf => Sys2Proof.Machine.execColdRestore vf s
  | .qsubWrite vf addr => Sys2Proof.Machine.execQsubWrite vf addr s
  | .featureCommit vf => Sys2Proof.Machine.execFeatureCommit vf s
  | .emloRead vf => Sys2Proof.Machine.execEmloRead vf s
  | .emhiRead vf => Sys2Proof.Machine.execEmhiRead vf s
  | .energyMeterClear vf => Sys2Proof.Machine.execEnergyMeterClear vf s
  | .pcapWrite val => Sys2Proof.Machine.execPcapWrite val s
  | .mmioWrite fn off val => Sys2Proof.Machine.execMmioWrite fn off val s
  | .registerImage pf => Sys2Proof.Machine.execRegisterImage pf s
  | .unregisterImage pf => Sys2Proof.Machine.execUnregisterImage pf s
  | .createTenant pf => Sys2Proof.Machine.execCreateTenant pf s
  | .deleteTenant pf => Sys2Proof.Machine.execDeleteTenant pf s
  | .createLogicalPartition pf => Sys2Proof.Machine.execCreateLogicalPartition pf s
  | .deleteLogicalPartition pf => Sys2Proof.Machine.execDeleteLogicalPartition pf s
  | .lifeCycleNonce pf => Sys2Proof.Machine.execLifeCycleNonce pf s
  | .lifeCycleChange pf => Sys2Proof.Machine.execLifeCycleChange pf s
  | .attestationReport pf => Sys2Proof.Machine.execAttestationReport pf s
  | .attestationKey pf => Sys2Proof.Machine.execAttestationKey pf s
  | .debugEnable pf => Sys2Proof.Machine.execDebugEnable pf s
  | .setBreakMask pf => Sys2Proof.Machine.execSetBreakMask pf s
  | .debugRelease pf => Sys2Proof.Machine.execDebugRelease pf s
  | .packageReset => Sys2Proof.Machine.execPackageReset s
  | .portTraining port dom cls => Sys2Proof.Machine.execPortTraining port dom cls s
  | .syncFlit dom val => Sys2Proof.Machine.execSyncFlit dom val s
  | .thermalSample temp power => Sys2Proof.Machine.execThermalSample temp power s
  | .maintenanceCycle vf => Sys2Proof.Machine.execMaintenanceCycle vf s
  | .energyMeterCharge vf amount => Sys2Proof.Machine.execEnergyMeterCharge vf amount s
  | .powerLoss => Sys2Proof.Machine.execPowerLoss s
  | .absenceTokenWithdrawn vf bar member => Sys2Proof.Machine.execAbsenceTokenWithdrawn vf bar member s
  | .untimedFlitReceived dev srcCore scope seq => Sys2Proof.Machine.execUntimedFlitReceived dev srcCore scope seq s
  | .alignmentPauseEnd vf => Sys2Proof.Machine.execAlignmentPauseEnd vf s
  | .mailboxUnknownCode pf => Sys2Proof.Machine.execMailboxUnknownCode pf s

end Sys2Proof.Machine
end

