-- ==== Sys2Proof/Machine/Sequence.lean ====
section
/-! DEFINITION. What the package does next: which op or event runs, in the order of wall time, of the partitions, and of the parts of a PT cycle
(02_time R14 to R18; 03_core R34 to R47; 16_faults R239, R240). Every step of the machine is one op, one event, or one quiet move that
only passes from one part of a cycle to the next. -/

namespace Sys2Proof.Machine

/-- The next move: an op or an event of the table, in a state; or a change of state that is neither. -/
inductive Move where
  | run (i : Instr) (s : State)
  | quiet (s : State)
deriving DecidableEq, Repr

/-! ### A bundle about to issue (03_core R40 to R42; 04_encoding R53, R72) -/

/-- A core's issue in a cycle: the bundle's address, words and header; whether it is the bundle's first; the slots that issue and what. -/
structure Plan where
  core : Nat
  addr : Int
  len : Nat
  header : Nat
  first : Bool
  ops : List (Nat × Sticky)
deriving DecidableEq, Repr

/-- The slots that an issue leaves to their sticky ops: never K, and none under CLR (R40, R41). -/
def Core.absentOps (c : Core) (header : Nat) : List (Nat × Sticky) :=
  if headerClr header then []
  else ([1, 2, 3, 4, 5, 6].filter fun sl => !headerHas header sl && decide ((c.slot sl).word ≠ 0)).map fun sl => (sl, c.slot sl)

/-- Ops in slot order. -/
def bySlot (l : List (Nat × Sticky)) : List (Nat × Sticky) := (List.range 7).flatMap fun sl => l.filter fun e => decide (e.1 = sl)

/-- What a running core issues next. (DEDUCED: notes/assumptions/75.md) -/
def planOf (p : Part) (v : Nat) : Plan :=
  let c := p.core v
  if c.rep = 0 then
    let h := c.word c.next
    let ops := c.presentOps h 7 (c.next + 1)
    ⟨v, c.next, c.bundleLength c.next, h, true, bySlot (ops ++ c.absentOps h)⟩
  else
    ⟨v, c.cur, 0, c.header.toNat, false, ((List.range 7).filter fun sl => decide ((c.slot sl).word ≠ 0)).map fun sl => (sl, c.slot sl)⟩

/-! ### Checks 1 to 3, on the bundle (03_core R46, R47; 04_encoding R55, R56; 08_loops R116, R118) -/

/-- The lowest word outside the image among `n` bundles from an address on (16_faults R241). (DEDUCED: notes/assumptions/15.md) -/
def Core.pastLimit (c : Core) : Nat → Int → Option Int
  | 0, _ => none
  | n + 1, a =>
    let l := c.bundleLength a
    if a < 0 then some a
    else if (c.limit : Int) < a + l then some (max a c.limit)
    else c.pastLimit n (a + l)

/-- The K op that a plan holds. -/
def Plan.kOp (pl : Plan) : Option Sticky := (pl.ops.filter fun e => decide (e.1 = 0)).head?.map fun e => e.2

/-- The opcode of a K op: 0 without one. -/
def Plan.kCode (pl : Plan) : Nat :=
  match pl.kOp with
  | some st => bits st.word.toNat 25 6
  | none => 0

/-- BR, CALL, RET, LOOP, YIELD and END in the K map (04_encoding R60). (DEDUCED: notes/assumptions/14.md) -/
def isTransferCode (opc : Nat) : Bool := opc == 1 || (3 ≤ opc && opc ≤ 7 : Bool)

/-- The K op's condition (03_core R39). -/
def Plan.kHolds (pl : Plan) (c : Core) : Bool :=
  match pl.kOp with
  | some st => c.holds (guardOf st.word.toNat)
  | none => false

/-- The fetch of the bundle itself: 0x03, then 0x60. -/
def fetchBad (c : Core) (pl : Plan) : Option Bad :=
  if pl.first then
    match c.pastLimit 1 pl.addr with
    | some a => some ⟨1, 0x03, imod a (2 ^ 32)⟩
    | none =>
      (((List.range pl.len).filter fun (i : Nat) => c.bad.contains (3, (pl.addr + i).toNat)).head?).map fun i =>
        ⟨1, 0x60, 3 + (pl.addr + i).toNat * 2 ^ 16⟩
  else none

/-- A LOOP with a true condition decodes the headers of its body (08_loops R116). The body is measured by LOOP's opcode and BODY field alone and
among the fetch checks: a K word with that opcode whose encoding is illegal, or whose bundle has a bad header or placement, gives 0x03 if its
body passes the limit; the manual names no place for this check among the others (DEDUCED: notes/assumptions/15.md). -/
def bodyBad (c : Core) (pl : Plan) : Option Bad :=
  if pl.first && decide (pl.kCode = 5) && pl.kHolds c then
    match c.pastLimit (((pl.kOp.map fun st => bits st.word.toNat 4 7)).getD 0) (pl.addr + pl.len) with
    | some a => some ⟨1, 0x03, imod a (2 ^ 32)⟩
    | none => none
  else none

/-- Reserved header bits; the placement of transfers, whatever the op's predicate reads: 0 REP, 1 a delay bundle, 2 a loop body.
(DEDUCED: notes/assumptions/14.md) -/
def headerBad (c : Core) (pl : Plan) : Option Bad :=
  if headerReserved pl.header then some ⟨2, 0x02, pl.header⟩
  else if isTransferCode pl.kCode then
    if headerRep pl.header ≠ 0 then some ⟨3, 0x63, 0⟩
    else if c.pending.isSome then some ⟨3, 0x63, 1⟩
    else if c.loop.isSome then some ⟨3, 0x63, 2⟩
    else none
  else none

/-- The bundle does not issue and its core parks there: an END or a LOOP with CL = 1, whatever its condition, while the core holds a clamp
record (08_loops R121). Opcode bits alone decide it, and the park goes before checks 2 to 12: the manual does not say which comes first, nor
what a parking bundle with a failing check does (DEDUCED: notes/assumptions/20.md). -/
def parksHere (c : Core) (pl : Plan) : Bool :=
  pl.first && c.clamp.isSome
  && (decide (pl.kCode = 7) || (decide (pl.kCode = 5) && (pl.kOp.map fun st => decide (st.ext.toNat / 2 ^ 31 % 2 = 1)).getD false))

/-! ### Checks 4 to 12, on the ops of every core (03_core R47; 09_memory R125, R134; 11_products R178) -/

/-- An op that issues in this cycle, as it decodes. -/
structure Issuing where
  core : Nat
  slot : Nat
  addr : Int
  st : Sticky
deriving DecidableEq, Repr

def Plan.issuing (pl : Plan) : List Issuing := pl.ops.map fun e => ⟨pl.core, e.1, pl.addr, e.2⟩

/-- The instruction, if its condition is true. -/
def Issuing.live (p : Part) (x : Issuing) : Option Instr :=
  match decodeOp x.slot x.st.word.toNat x.st.ext.toNat with
  | .ok i => if (p.core x.core).holds (guardOf x.st.word.toNat) then some i else none
  | .error _ => none

def Issuing.touches (p : Part) (x : Issuing) : List Touch :=
  match x.live p with
  | some i => touchesOf (p.core x.core) x.slot p.pt p.t0 x.st i
  | none => []

/-- A bank or slice met by another slot of the bundle, or by itself or an earlier op (09_memory R125). -/
def conflictOf (p : Part) (xs : List Issuing) (x : Issuing) : Option Bad :=
  let others := (xs.filter fun y => decide (y.core = x.core ∧ y.slot ≠ x.slot)).flatMap (Issuing.touches p)
  (firstClash ((p.core x.core).touches ++ others) (x.touches p)).map clashBad

def Issuing.channel (p : Part) (x : Issuing) : Option Nat := (x.live p).bind commandChannel

/-- Two commands of one channel in one cycle all fail; the detail names the core of the second (09_memory R134). -/
def collisionOf (p : Part) (xs : List Issuing) (x : Issuing) : Option Bad :=
  match x.channel p with
  | none => none
  | some vch =>
    match xs.filter fun y => decide (y.channel p = some vch) with
    | _ :: second :: _ => some (collisionBad vch second.core)
    | _ => none

/-- The lanes that a LEAVE announces. -/
def Issuing.leaves (p : Part) (x : Issuing) : Nat :=
  match x.live p with
  | some (.leave _ mask) => mask
  | _ => 0

/-- The first LEAVE, in core order, that passes the budget (11_products R178). (DEDUCED: notes/assumptions/17.md) -/
def leaveOver (p : Part) : List Issuing → Nat → Option (Issuing × Bad)
  | [], _ => none
  | x :: r, used =>
    let m := x.leaves p
    if m ≠ 0 ∧ p.budget < used + popcount 4 m then some (x, leaveBad m used)
    else leaveOver p r (used + popcount 4 m)

/-- Of failed checks, the first in the table. -/
def firstCheck : List (Option Bad) → Option Bad
  | [] => none
  | none :: r => firstCheck r
  | some b :: r =>
    match firstCheck r with
    | some b' => if b'.order < b.order then some b' else some b
    | none => some b

/-- The op that a word holds before its reserved fields are looked at. -/
def rawOp (sl w x : Nat) : Option Instr := (OpMap.ofSlot sl).bind fun mp => buildOp mp w x

/-- A non-zero reserved field: check 5, after the limits of the running task, which belong to check 4 (03_core R47; 04_encoding R59). -/
def reservedBad (p : Part) (sl w x : Nat) : Bad :=
  match rawOp sl w x with
  | some i => if taskLimit p i then ⟨4, 1, wordDetail w x⟩ else ⟨5, 2, wordDetail w x⟩
  | none => ⟨5, 2, wordDetail w x⟩

/-- The check that an op fails. (DEDUCED: notes/assumptions/17.md) -/
def opBad (s : State) (vf : Nat) (xs : List Issuing) (heavy : Option (Issuing × Bad)) (x : Issuing) : Option Bad :=
  let p := s.part vf
  let words := wordDetail x.st.word.toNat x.st.ext.toNat
  match decodeOp x.slot x.st.word.toNat x.st.ext.toNat with
  | .error .reservedField => some (reservedBad p x.slot x.st.word.toNat x.st.ext.toNat)
  | .error _ => some ⟨4, 1, words⟩
  | .ok (.leave _ _) =>
    (match heavy with
     | some (y, b) => if y = x then some b else none
     | none => none)
  | .ok i =>
    firstCheck [opCheck s vf x.core x.slot x.st (guardOf x.st.word.toNat) i, collisionOf p xs x, conflictOf p xs x]

/-- The bundle that a core would issue fails as a whole. A bundle that parks makes the fetch check of its own words and no other
(DEDUCED: notes/assumptions/15.md, 16.md, 20.md). -/
def bundleBad (c : Core) (pl : Plan) : Option Bad :=
  match fetchBad c pl with
  | some b => some b
  | none => if parksHere c pl then none else (bodyBad c pl).or (headerBad c pl)

/-- The plans whose bundles issue: neither failing as a whole nor parking. -/
def Part.issuingPlans (p : Part) (pls : List Plan) : List Plan :=
  pls.filter fun pl => (bundleBad (p.core pl.core) pl).isNone && !parksHere (p.core pl.core) pl

/-- Every failing check of this cycle's issues, each as its record. (DEDUCED: notes/assumptions/16.md) -/
def issueFaults (s : State) (vf : Nat) (pls : List Plan) : List FRec :=
  let p := s.part vf
  let xs := (p.issuingPlans pls).flatMap Plan.issuing
  let heavy := leaveOver p xs (p.announced p.pt)
  let whole := pls.filterMap fun pl => (bundleBad (p.core pl.core) pl).map fun b => { issueFault p pl.core 7 b with baddr := pl.addr }
  let ops := xs.filterMap fun x => (opBad s vf xs heavy x).map fun b => { issueFault p x.core x.slot b with baddr := x.addr }
  whole ++ ops

/-! ### Debug breaks (04_encoding R54; 20_ref_a_d R301) -/

/-- The BRK op of a plan that stops its bundle: not one whose predicate holds an uncorrectable error, which does not execute (16_faults R241). -/
def Plan.breakOp (p : Part) (pl : Plan) : Option Instr :=
  match pl.kOp with
  | none => none
  | some st =>
    match decodeOp 0 st.word.toNat st.ext.toNat with
    | .ok (.brk g ka) =>
      let c := p.core pl.core
      if c.holds g && (c.guardError g).isNone && brkArmed p c ka then some (.brk g ka) else none
    | _ => none

/-- The break that a plan meets, its header's or else its op's: core and slot that its record names, and the op or event that takes it.
(DEDUCED: notes/assumptions/21.md) -/
structure Break where
  core : Nat
  slot : Nat
  instr : Instr
deriving DecidableEq, Repr

def breakOf (p : Part) (vf : Nat) (pl : Plan) : Option Break :=
  if headerBreaks p (p.core pl.core) then some ⟨pl.core, 7, .headerBreak vf pl.core⟩
  else (pl.breakOp p).map fun i => ⟨pl.core, 0, i⟩

/-- The record that a break makes. -/
def Break.record (p : Part) (b : Break) : FRec := breakRecord p b.core b.slot

/-- The breaks of this cycle: those of bundles whose own issue meets no fault (04_encoding R54). -/
def breaksOf (p : Part) (vf : Nat) (pls : List Plan) (faults : List FRec) : List Break :=
  ((p.issuingPlans pls).filter fun pl => !faults.any fun f => decide (f.vcore = pl.core)).filterMap (breakOf p vf)

/-! ### The issue (03_core R40 to R42) -/

/-- A core's bundle begins to issue: its present ops are its slots' sticky ops, and absent ones are NOP under CLR. -/
def Core.begin (c : Core) (pl : Plan) : Core :=
  if pl.first then
    { c with
      cur := pl.addr, next := pl.addr + pl.len, header := BitVec.ofNat 32 pl.header, rep := headerRep pl.header + 1, broke := false
      sticky := (pl.ops.filter fun e => headerHas pl.header e.1).foldl (fun t e => tput t e.1 e.2)
        (if headerClr pl.header then [] else c.sticky) }
  else c

/-- The issue of every core: those that park at their bundles park; the others begin. (DEDUCED: notes/assumptions/20.md) -/
def Part.begin (p : Part) (pls : List Plan) : Part :=
  let parks := pls.filter fun pl => parksHere (p.core pl.core) pl
  let starts := p.issuingPlans pls
  let q := parks.foldl (fun q pl => q.onCore pl.core fun c => { c with cond := .parked, parkAt := pl.addr }) p
  let q := starts.foldl (fun q pl => q.onCore pl.core fun c => c.begin pl) q
  { q with stage := .ops (starts.flatMap fun pl => pl.ops.map fun e => (pl.core, e.1)) }

/-- A bundle's issue ends: the repeat count; and with the last issue K's sticky op, the delay bundles, the pass and the core's leaving
(03_core R40, R42, R45; 08_loops R117; 15_tasks R234; 16_faults R250). (DEDUCED: notes/assumptions/39.md) -/
def Core.endBundle (c : Core) : Core :=
  if 1 < c.rep then { c with rep := c.rep - 1 }
  else
    let own := isTransferCode (bits (c.slot 0).word.toNat 25 6)
    { c with
      rep := 0
      sticky := tdel c.sticky 0
      pending := if own then c.pending else c.pending.map fun t => (t.1, t.2 - 1)
      loop := if own then c.loop else c.loop.map fun l => { l with done := l.done + 1 }
      cond := c.leaving.getD c.cond
      leaving := none }

/-- A transfer takes effect, or a pass ends, with the bundle that has just ended. -/
def Core.turns (c : Core) : Bool :=
  decide (c.rep = 0) && ((match c.pending with
    | some (_, 0) => true
    | _ => false)
  || (match c.loop with
    | some l => decide (l.body ≤ l.done)
    | none => false))

/-- The bundles of this cycle have issued. -/
def Part.endBundles (p : Part) : Part :=
  let cs := p.running
  let q := cs.foldl (fun q v => q.onCore v Core.endBundle) p
  { q with stage := .wrap (cs.filter fun v => (q.core v).turns) }

/-- The op of a core and slot that issues now. -/
def opMove (s : State) (vf : Nat) (e : Nat × Nat) (rest : List (Nat × Nat)) : Move :=
  let t := (s.onPart vf fun p => { p with stage := .ops rest })
  let st := ((s.part vf).core e.1).slot e.2
  match decodeOp e.2 st.word.toNat st.ext.toNat with
  | .ok i => .run i { t with cursor := { t.cursor with vf := vf, core := e.1, slot := e.2 } }
  | .error _ => .quiet t

def opsMove (s : State) (vf : Nat) : List (Nat × Nat) → Move
  | [] => .quiet (s.onPart vf Part.endBundles)
  | e :: rest => opMove s vf e rest

/-- The partition at another part of its cycle. -/
def State.atStage (s : State) (vf : Nat) (st : Stage) : State := s.onPart vf fun p => { p with stage := st }

/-- The stop that the breaks of a cycle make, with the faults of other bundles already in the record: the first break takes place if its record
goes before; one that is not reported is forgotten, and comes again when its issue is attempted again (16_faults R240).
(DEDUCED: notes/assumptions/21.md) -/
def breakMove (s : State) (vf : Nat) (b : Break) (bs : List Break) : Move :=
  let p := s.part vf
  let s := raiseAll vf (bs.map (Break.record p)) s
  let q := s.part vf
  if q.stops.any Stop.isFault && !lexLt (b.record p).order q.frec.order then .quiet (raise vf (b.record p) s)
  else .run b.instr { s with cursor := { s.cursor with vf := vf, core := b.core, slot := 0 } }

/-- Every bundle begins to issue, with its first op. -/
def startMove (s : State) (vf : Nat) (pls : List Plan) : Move :=
  let t := s.setPart vf ((s.part vf).begin pls)
  match (t.part vf).stage with
  | .ops todo => opsMove t vf todo
  | _ => .quiet t

/-- The issue part of a cycle: failing checks and breaks stop every core; else, unless the partition is stopped, every bundle begins. -/
def issueMove (s : State) (vf : Nat) : Move :=
  let p := s.part vf
  let pls := p.running.map (planOf p)
  let faults := issueFaults s vf pls
  match breaksOf p vf pls faults with
  | b :: bs => breakMove (raiseAll vf faults (s.atStage vf .stand)) vf b bs
  | [] =>
    if faults.isEmpty && p.stops.isEmpty then startMove s vf pls
    else .quiet (raiseAll vf faults (s.atStage vf .stand))

/-! ### Effects that are due (16_faults R239) -/

/-- The event that performs an effect. -/
def eventOf (vf v : Nat) (e : Eff) : Instr :=
  match e with
  | .wakeStart d => .wakeStart vf v d
  | .xlt _ _ _ => .xltResult vf v
  | .mpack _ _ _ => .mpackResult vf v
  | .mldb _ _ _ _ => .mldbEntryWrite vf v
  | .mulRead _ _ _ _ _ _ => .multiplyResult vf v
  | .mulRes _ _ _ _ _ => .multiplyResult vf v
  | .acc _ _ => .accumulatorResult vf v
  | .accChecked _ _ _ => .accumulatorResult vf v
  | .mldq _ _ => .mldqResult vf v
  | .vcvtBlock _ _ _ _ => .vcvtBlockResult vf v
  | .mext _ _ => .mextWrite vf v
  | .mextFault _ => .mextWrite vf v
  | .enqFault _ _ => .enqStartCheck vf v
  | .enqRead _ _ _ => .enqReadPhase vf v
  | .drd _ _ _ => .drdLanding vf v
  | .transit c _ _ => .cpyxArrival vf c
  | .reg _ _ => .registerResult vf v
  | .handle _ _ => .registerResult vf v
  | .zres _ _ => .registerResult vf v
  | .phase => .registerResult vf v
  | .dom _ _ => .registerResult vf v
  | .rset _ _ _ _ => .registerResult vf v
  | .trap _ => .registerResult vf v
  | .readError _ _ => .registerResult vf v
  | .sent _ _ _ _ _ => .registerResult vf v
  | _ => .scratchpadTouch vf v

/-- An effect that lands, and so is ordered with the landings of the core it lands at. -/
def Eff.lands (e : Eff) : Bool :=
  match e with
  | .drd _ _ _ => true
  | .transit _ _ _ => true
  | _ => false

/-- The landing event of the first landing of a core. -/
def landingEvent (p : Part) (vf v : Nat) : Option Instr :=
  (((List.range 16).filterMap (p.landsNow v)).head?).map fun l =>
    match l.via with
    | .drd => .drdLanding vf v
    | .cpyx => .cpyxArrival vf v
    | .fsend => .fsendLanding vf v

/-- What is due at a core, with its rank. -/
def dueAtCore (p : Part) (vf v : Nat) : List (Nat × Instr) :=
  let c := p.core v
  let wakes := (c.domains.filter fun e => match e.2 with
    | .waking r _ => decide (r ≤ p.pt)
    | _ => false).map fun e => (2, Instr.domainReady vf v e.1)
  let effs := (firstPend (p.dueOf v fun e => !e.lands)).toList.map fun e => (e.eff.rank, eventOf vf v e.eff)
  let lands := (landingEvent p vf v).toList.map fun i => (5, i)
  wakes ++ effs ++ lands

/-- The first of the lowest rank. -/
def lowestRank : List (Nat × Instr) → Option (Nat × Instr)
  | [] => none
  | e :: r =>
    match lowestRank r with
    | some m => if m.1 < e.1 then some m else some e
    | none => some e

/-- The banks that have finished a refresh. -/
def Part.refreshed (p : Part) : List Nat :=
  (p.banks.filter fun e => match e.2.st with
    | .refreshing till => decide (till ≤ p.pt)
    | _ => false).map fun e => e.1

/-- The event of a cycle's first part that comes next: refreshes that end, notices that lapse, then effects by rank. -/
def nextDue (p : Part) (vf : Nat) : Option Instr :=
  match p.refreshed with
  | b :: _ => some (.refreshDone vf (b / 16) (b % 16))
  | [] =>
    match (keys p.coreOf).filter fun v => (p.core v).notices.any (lapsed p.pt) with
    | v :: _ => some (.noticeLapse vf v)
    | [] => (lowestRank ((keys p.coreOf).flatMap fun v => dueAtCore p vf v)).map fun e => e.2

/-- The banks that took a timed access in this cycle take no other in this Tabor cycle (09_memory R128). -/
def Core.spend (c : Core) (tabor pt : Nat) : Core :=
  (c.touches.filter fun t => decide (t.cycle = pt ∧ t.place < 16)).foldl (fun c t => c.useBank tabor t.line) c

/-- Every effect due is performed: the limits come next. -/
def Part.settled (tabor : Nat) (p : Part) : Part :=
  { p with stage := .limits 0, coreOf := p.coreOf.map fun (e : Nat × Core) => (e.1, e.2.spend tabor p.pt) }

/-- The first part of a cycle: the effects due one after another, before any op of the cycle reads a register, so that a read in the cycle in which
a result becomes readable gets the new value, as 03_core R37 says; the last sentence of 13_ordering R194 would give it the old one
(DEDUCED: notes/assumptions/19.md). -/
def dueMove (s : State) (vf : Nat) : Move :=
  match nextDue (s.part vf) vf with
  | some i => .run i s
  | none =>
    let t := s.onPart vf (Part.settled s.tabor)
    if (s.part vf).pt % 256 = 255 then .run (.maintenanceCycle vf) t else .quiet t

/-! ### Limits of PT, and what the partition does at a PT of its own (16_faults R240) -/

/-- A wait that is not over has not yet stopped the partition. -/
def Part.beginsWait (p : Part) : Bool := p.waiting && !p.stops.any Stop.isBarrier

/-- The first barrier whose waits fail. -/
def Part.failingBarrier (p : Part) (tabor : Nat) : Option Nat := ((List.range 16).filter fun b => (p.barrierFails tabor b).isSome).head?

/-- The core that a link-timing fault names: one with late lines; for a loss not repaid, the witness. -/
def Part.linkCore (p : Part) : Option Nat :=
  match (keys p.coreOf).filter fun v => !(p.lateLines v).isEmpty with
  | v :: _ => some v
  | [] => if 48 < p.owed then some p.witness else none

/-- An event at a limit, if its condition holds; the partition goes on from a later limit. -/
def onLimit (s : State) (vf n : Nat) (cond : Bool) (i : Instr) : Option Move :=
  if cond then some (.run i (s.atStage vf (.limits n))) else none

/-- The `n`-th limit. Of a pause and a hold that stand at one beat boundary the pause comes first and the hold begins when it is over, so that the
devices are aligned after both (02_time R30) (DEDUCED: notes/assumptions/91.md). A hold that stands at the PT of an alignment stop begins when
that is over, as every device holds at the same PT (02_time R27, R28). A task that starts at the PT of a forced stop, or beyond its park deadline,
stops there (16_faults R251, R252). A device released at a PT already beyond X − D sends its
alignment flit at once, and pauses for what it is beyond it: R28 names the PT X − D alone (DEDUCED: notes/assumptions/67.md).
(DEDUCED: notes/assumptions/33.md) -/
def limitMove (s : State) (vf n : Nat) : Option Move :=
  let p := s.part vf
  let up := !s.belfryDown
  match n with
  | 0 => if (match p.alignAt with
      | some x => decide (x ≤ p.pt)
      | none => false) then some (.quiet (beginAlign vf (s.atStage vf (.limits 1)))) else none
  | 1 => onLimit s vf 2 (p.pauses.any fun e => decide (e.1 ≤ p.pt)) (.alignmentPause vf)
  | 2 => onLimit s vf 3 (!(p.stops.any fun x => x.isPause || x.isAlign) && (match p.hold with
      | some (b, _) => decide (b ≤ p.pt)
      | none => false)) (.holdStart vf)
  | 3 => onLimit s vf 4 (up && p.clampDue) (.clampEffect vf)
  | 4 => if !(s.overdueLines vf).isEmpty then some (.quiet (missLines vf (s.atStage vf (.limits 4)))) else p.linkCore.map fun v => .run (.linkTimingFault vf v) (s.atStage vf (.limits 4))
  | 5 => onLimit s vf 6 (!p.overdueBanks.isEmpty) (.refreshDeadline vf)
  | 6 => if p.beginsWait then some (.quiet ((s.onPart vf fun q => { q.stopBy .barrier with stage := .limits 6 }).announce vf))
    else if p.stops.any Stop.isBarrier then
      (p.failingBarrier s.tabor).map fun b => .run (.barrierTimeout vf b) (s.atStage vf (.limits 6))
    else none
  | 7 => onLimit s vf 8 p.finished (.taskCompletion vf)
  | 8 => onLimit s vf 9 (match p.task with
      | some t => decide (0 < t.watchdog ∧ t.t0 + t.watchdog ≤ p.pt)
      | none => false) (.watchdog vf)
  | 9 => onLimit s vf 10 (up && s.mayStart vf) (.taskStart vf)
  | 10 => onLimit s vf 11 (up && p.parkedOut) (.parkFreeze vf)
  | 11 => onLimit s vf 12 (up && p.deadlineReached) (.parkDeadline vf)
  | 12 => onLimit s vf 13 (up && p.forcedDue) (.forcedStop vf)
  | 13 => onLimit s vf 14 p.flitDue.isSome (.alignmentFlitSend vf)
  | _ => none

/-- The first limit, among `k` from the `n`-th on, that has something to do; then the issue. -/
def limitsFrom (s : State) (vf : Nat) : Nat → Nat → Move
  | 0, _ => .quiet (s.atStage vf .issue)
  | k + 1, n =>
    match limitMove s vf n with
    | some m => m
    | none => limitsFrom s vf k (n + 1)

/-! ### The end of a cycle -/

/-- A bundle's end at a core: the transfer or the end of the pass. -/
def wrapMove (s : State) (vf : Nat) : List Nat → Move
  | [] => .quiet (s.onPart vf fun p => { p.settleBarriers with stage := .done })
  | v :: rest =>
    match ((s.part vf).core v).pending with
    | some (_, 0) => .run (.transferTakesEffect vf v) (s.atStage vf (.wrap rest))
    | _ => .run (.loopPassEnd vf v) (s.atStage vf (.wrap rest))

/-- The next partition is served. -/
def State.pop (s : State) : State := { s with cursor := { s.cursor with todo := s.cursor.todo.tail } }

/-- PT advances by one (02_time R16); touches that are past are forgotten. -/
def Part.advance (p : Part) : Part :=
  { p with
    pt := p.pt + 1, stage := .due
    coreOf := p.coreOf.map fun (e : Nat × Core) => (e.1, { e.2 with touches := e.2.touches.filter fun t => decide (p.pt < t.cycle) }) }

/-- The move of a partition whose PT cycle is under way; a stopped one stands before its issue, where accesses that waited for the end of a
barrier wait are made, and when it is released it looks again at what may happen at this PT before its bundles issue (02_time R17).
(DEDUCED: notes/assumptions/19.md) (DEDUCED: notes/assumptions/33.md) (DEDUCED: notes/assumptions/43.md) -/
def cycleMove (s : State) (vf : Nat) : Move :=
  let p := s.part vf
  match p.stage with
  | .due => dueMove s vf
  | .limits n => limitsFrom s vf (14 - n) n
  | .issue => if p.stops.isEmpty then issueMove s vf else .quiet (s.atStage vf .stand)
  | .stand =>
    (match nextDue p vf with
     | some i => .run i s
     | none => if p.stops.isEmpty then .quiet (s.atStage vf (.limits 0)) else .quiet s.pop)
  | .ops todo => opsMove s vf todo
  | .wrap todo => wrapMove s vf todo
  | .done => .quiet (s.onPart vf Part.advance).pop

/-! ### Wall time (02_time R22; 09_memory R138, R142; 13_ordering R211; 14_determinism R219 to R222; 15_tasks R230 to R232; 16_faults R246, R253 to
R255; 17_partitions R264 to R268) -/

/-- A barrier wait whose bundles issue in this Tabor cycle. -/
def Stop.waitDone (tabor : Nat) : Stop → Bool
  | .waitOver e => decide (e ≤ tabor)
  | _ => false

/-- An arrival that counts now: barrier and member. -/
def Part.arrivalDue (p : Part) (tabor : Nat) : Option (Nat × Nat) :=
  ((List.range 16).flatMap fun b => ((p.barrier b).inFlight.filter fun e => decide (e.2 ≤ tabor)).map fun e => (b, e.1)).head?

/-- A handler is due, or a failing task's commands are drained. -/
def State.handlerDue (s : State) (p : Part) : Bool :=
  !s.belfryDown && (match p.failing with
    | some _ => p.drained
    | none => p.stops.any Stop.isFault && (match p.handlerAt with
      | some t => decide (t ≤ s.tabor)
      | none => false))

/-- The event that an act of a command is. -/
def actEvent (vf v id : Nat) (a : Act) : Instr :=
  match a with
  | .scratchRead => .untimedScratchAccess vf v id
  | .scratchWrite => .untimedScratchAccess vf v id
  | .result => .untimedScratchAccess vf v id
  | .memRead => .enginePiece vf v id
  | .memWrite => .enginePiece vf v id
  | .walk => .engineWalk vf v id
  | .perform => .aopPerform vf v id
  | .flag => .flagWordWrite vf v id
  | .giveUp => .destinationUnreachable vf v id

/-- The first command of the partition that may act now. -/
def engineEvent (s : State) (vf : Nat) : Option Instr :=
  (s.part vf).coreOf.findSome? fun e => e.2.cmds.findSome? fun k => (nextAct s vf e.1 k).map (actEvent vf e.1 k.id)

/-- A service port that serves a request now. -/
def State.portDue (s : State) (vf : Nat) : Option Nat :=
  (((s.part vf).t1Queue.map fun e => e.1).filter fun vch => (s.portServes vf vch).isSome).head?

/-- A launch that the dispatcher reads now. -/
def launchDue (s : State) (vf : Nat) : Option Nat :=
  ((s.part vf).coreOf.filter fun e => e.2.launches.any (e.2.launchReady s.tabor)).head?.map fun e => e.1

/-- The Belfry takes a switched-out partition back. -/
def State.resumesNow (s : State) (vf : Nat) : Bool :=
  (match (s.part vf).resumeAt with
    | some t => decide (t ≤ s.tabor)
    | none => false) && s.resumable vf

/-- A task whose last condition is met while PT stands, or by the bundles of this cycle, completes at this PT (15_tasks R235). -/
def Part.completesNow (p : Part) : Bool := decide (p.stage = .stand ∨ p.stage = .done) && p.finished

/-- What a partition meets in wall time in this Tabor cycle, one at a time. An arrival of the Tabor cycle in which a timeout has run out counts
before it (14_determinism R222). (DESIGN CHOICE: notes/assumptions/115.md) -/
def wallEvent (s : State) (vf : Nat) : Option Instr :=
  let p := s.part vf
  let up := !s.belfryDown
  if p.stops.any (Stop.holdOver s.tabor) then some (.holdEnd vf)
  else if p.stops.any (Stop.pauseOver s.tabor) then some (.alignmentPauseEnd vf)
  else if (p.arrivalDue s.tabor).isSome then (p.arrivalDue s.tabor).map fun e => .barrierArrival vf e.1 e.2
  else if p.isBound && p.stops.any Stop.isBarrier && (p.failingBarrier s.tabor).isSome then
    (p.failingBarrier s.tabor).map fun b => .barrierTimeout vf b
  else if s.handlerDue p then some (.faultHandler vf)
  else if p.drainOver s.tabor && p.cancels && up then some (.drainTimeout vf)
  else if p.completesNow then some (.taskCompletion vf)
  else if p.stops.any Stop.isBarrier && p.deadlineReached && up then some (.parkDeadline vf)
  else if p.savable && up then some (.contextSave vf)
  else if s.resumesNow vf then some (.resume vf)
  else if decide (p.resid = .pagingOut) && p.pagingDone s.tabor && up then some (.pageOut vf)
  else if decide (p.resid = .pagingIn) && p.pagingDone s.tabor && up then some (.coldRestore vf)
  else if (launchDue s vf).isSome then (launchDue s vf).map fun v => .launchNodeRead vf v
  else if (s.nextNode vf).isSome then some (.taskDispatch vf)
  else if (engineEvent s vf).isSome then engineEvent s vf
  else if (s.portDue vf).isSome then (s.portDue vf).map fun v => .serviceWindow vf v
  else if p.isIdle && !(p.banks.isEmpty && p.chans.isEmpty) then some (.refreshKeeper vf)
  else none

/-- A core of this device of which the partition's other devices are to be told: it has ended or parked with nothing pending, and with no
engine command in flight if it has ended (15_tasks R235; 16_faults R251). -/
def Core.reportDue (c : Core) : Bool :=
  !c.reported && decide (c.cond = .ended ∨ c.cond = .parked) && !c.pend.any Pend.blocks && (decide (c.cond = .parked) || c.cmds.isEmpty)

/-- What a partition over several devices tells the others now, or does by what they have told it: a hold, a pre-emption, the end of loading, a
core that has ended or parked; its turn to resume (02_time R28). -/
def tellMove (s : State) (vf : Nat) : Option State :=
  let p := s.part vf
  if !(p.multi && p.isBound) then none
  else if p.untold then some (tellHold vf s)
  else if p.preemptNews.isSome then
    p.preemptNews.map fun e => (s.onPart vf fun p => { p with preemptTold := true }).emit (.preempt vf e.1 e.2)
  else if p.loaded s.tabor && p.loadedAt.isNone then
    some ((s.onPart vf fun p => { p with loadedAt := some p.loadEnd }).emit (.loaded vf p.loadEnd))
  else if p.readyDue then some (tellReady vf s)
  else if p.stops.any Stop.isAlign && p.mayGo s.tabor then some (s.onPart vf (Part.takeTurn s.tabor))
  else (p.members.filter fun v => (p.core v).reportDue).head?.map fun v =>
    (s.onCore vf v fun c => { c with reported := true }).emit (.coreReport vf v (p.core v).cond ((p.core v).clamp.map fun r => r.savedKi))

/-- A partition's move in its own clock: its PT cycle, unless the clock is stretched, which costs a running partition over several devices a
Tabor cycle (02_time R29, R30). -/
def clockMove (s : State) (vf : Nat) : Move :=
  let p := s.part vf
  if !p.isBound then .quiet s.pop
  else if s.tabor < s.stretchUntil then .quiet (s.onPart vf Part.lose).pop
  else if p.losing ≠ 0 then .quiet (owe vf s)
  else cycleMove s vf

/-- A partition's move in this Tabor cycle: what its devices tell each other, wall time, then its own clock; after a fatal rail error nothing
moves (01_device R12). -/
def partMove (s : State) (vf : Nat) : Move :=
  if s.railed then .quiet s.pop
  else if (s.part vf).stops.any (Stop.waitDone s.tabor) then .quiet (s.onPart vf fun p => p.releaseFrom (Stop.waitDone s.tabor))
  else
    match tellMove s vf with
    | some t => .quiet t
    | none =>
      if (s.part vf).sliceOver && !s.belfryDown then .quiet (unbindIdle vf s)
      else
        match wallEvent s vf with
        | some i => .run i s
        | none => clockMove s vf

/-! ### What arrives from outside -/

/-- Events that come from the host, from other devices, from sensors, or from a choice of the Belfry. Any other event in the inbox is
nothing that the outside can do. (DESIGN CHOICE: notes/assumptions/13.md) (DEDUCED: notes/assumptions/78.md) -/
def isExternal (i : Instr) : Bool :=
  match i with
  | .streamReplay _ _ _ _ _ => true
  | .portDown _ => true
  | .barrierArrival _ _ _ => true
  | .absenceToken _ _ _ => true
  | .absenceTokenWithdrawn _ _ _ => true
  | .holdRequest _ _ => true
  | .stopNotice _ _ _ => true
  | .alignmentFlitArrival _ => true
  | .droopStretch _ _ => true
  | .stretchNotice _ _ => true
  | .railError => true
  | .belfryPanic => true
  | .pageMove _ _ _ _ => true
  | .preemptionRequest _ _ => true
  | .channelReassignment _ _ => true
  | .endSlice _ => true
  | .reshape _ _ => true
  | .pageOut _ => true
  | .qsubWrite _ _ => true
  | .featureCommit _ => true
  | .emloRead _ => true
  | .emhiRead _ => true
  | .energyMeterClear _ => true
  | .pcapWrite _ => true
  | .mmioWrite _ _ _ => true
  | .packageReset => true
  | .portTraining _ _ _ => true
  | .syncFlit _ _ => true
  | .energyMeterCharge _ _ => true
  | .powerLoss => true
  | .untimedFlitReceived _ _ _ _ => true
  | _ => false

/-- Events that the Belfry makes or serves, which do not come once it serves nothing any more (01_device R12; 16_faults R247).
(DESIGN CHOICE: notes/assumptions/65.md) -/
def byBelfry (i : Instr) : Bool :=
  match i with
  | .holdRequest _ _ => true
  | .belfryPanic => true
  | .pageMove _ _ _ _ => true
  | .preemptionRequest _ _ => true
  | .channelReassignment _ _ => true
  | .endSlice _ => true
  | .reshape _ _ => true
  | .pageOut _ => true
  | .featureCommit _ => true
  | .portTraining _ _ _ => true
  | _ => false

/-- The driver writes 1 to MBCTL.GO of one of the two physical functions (19_belfry R289). -/
def takeGo (pf : Nat) (s : State) : State :=
  if decide (s.bstat = 7 ∧ pf < 2) && !(tget Mailbox.fresh s.mail pf).go then
    { s.onMail pf fun m => { m with go := true } with mailQueue := s.mailQueue ++ [pf] }
  else s

/-- An uncorrectable error in a core's memory: its mark is set once. (DESIGN CHOICE: notes/assumptions/80.md) -/
def Core.spoil (c : Core) (mem index : Nat) : Core := if c.bad.contains (mem, index) then c else { c with bad := c.bad ++ [(mem, index)] }

/-- What still happens to a package that a rail error has frozen: its reset, a power loss, its clocks, its power cap, the energy meters, which
count as long as a partition exists (12_power R192), and what the host, other devices and the surroundings do to themselves; every partition
keeps its state (01_device R12). (DEDUCED: notes/assumptions/82.md) -/
def Input.afterRail (x : Input) : Bool :=
  match x with
  | .event .packageReset => true
  | .event .powerLoss => true
  | .event (.syncFlit _ _) => true
  | .event (.pcapWrite _) => true
  | .event (.energyMeterCharge _ _) => true
  | .event (.energyMeterClear _) => true
  | .event (.emloRead _) => true
  | .event (.emhiRead _) => true
  | .hostStore _ _ => true
  | .remoteStore _ _ _ => true
  | .sensors _ _ => true
  | .plane _ _ _ => true
  | .goWrite _ => true
  | .mmioRead _ _ => true
  | _ => false

/-- A timed line arrives: one whose landing PT has already been served is late (18_fabric_host R277). A second copy of a line that waits to
land is discarded. (DEDUCED: notes/assumptions/68.md) -/
def Part.takeLine (p : Part) (l : InLine) : Part :=
  let missed := decide (l.late = 0) && (decide (l.land < p.pt) || decide (l.land = p.pt ∧ p.stage ≠ .due))
  if p.task.isNone || p.inbound.contains l then p
  else { p with inbound := p.inbound ++ [if missed then { l with late := max 1 (p.pt - l.land) } else l] }

/-- A plane of the fabric reaches a device, or no longer does (18_fabric_host R278). -/
def setPlane (dev port : Nat) (up : Bool) (s : State) : State :=
  let rest := s.unreached.filter fun e => decide (e ≠ (dev, port))
  let t := { s with unreached := if up then rest else rest ++ [(dev, port)] }
  if s.railed then t else t.rerouted

/-- What still happens to a package whose boot has stopped, or has not ended: a reset, a power loss, a rail error, what the host, other devices
and the surroundings do to themselves, and reads of BSTAT (01_device R12; 19_belfry R282). -/
def Input.beforeBoot (x : Input) : Bool :=
  match x with
  | .event .packageReset => true
  | .event .powerLoss => true
  | .event .railError => true
  | .hostStore _ _ => true
  | .remoteStore _ _ _ => true
  | .sensors _ _ => true
  | .plane _ _ _ => true
  | .mmioRead fn off => decide (128 ≤ fn ∧ off < 4)
  | _ => false

/-- A host's read of a register: EMLO and EMHI are events of their own (12_power R192). -/
def readMove (fn off : Nat) (s : State) : Move :=
  if fn < 128 ∧ off = 0x40 then .run (.emloRead fn) s
  else if fn < 128 ∧ off = 0x44 then .run (.emhiRead fn) s
  else .quiet (hostRead fn off s)

/-- A core of another device has ended or parked, with the kI that its clamp record saves (15_tasks R235; 16_faults R251). -/
def Part.hearCore (p : Part) (core : Nat) (cond : Cond) (ki : Option DWord) : Part :=
  if p.multi && !p.isLocal core then
    { p with away := tput p.away core cond, awayKi := (match ki with
        | some k => tput p.awayKi core k
        | none => tdel p.awayKi core) }
  else p

/-- An input of a package that runs. (DESIGN CHOICE: notes/assumptions/13.md) -/
def servedInput (x : Input) (s : State) : Move :=
  match x with
  | .event i => if isExternal i && !(s.belfryDown && byBelfry i) then .run i s else .quiet s
  | .hostStore a bs => .quiet { s with host := memWrite s.host a bs }
  | .goWrite pf => .quiet (takeGo pf s)
  | .timedLine vf l => .quiet (s.onPart vf fun p => p.takeLine l)
  | .flit f => .quiet { s with flits := s.flits ++ [f] }
  | .ack core dev scope seq => .quiet (acknowledge core dev scope seq s)
  | .remoteStore dev a bs => .quiet { s with remote := memWrite s.remote (dev * 2 ^ 64 + a) bs }
  | .upset vf core mem index => .quiet (s.onCore vf core fun c => c.spoil mem index)
  | .dramUpset row => .quiet (if s.dramBad.contains row then s else { s with dramBad := s.dramBad ++ [row] })
  | .holdArmed vf start asked len => .quiet (s.onPart vf fun p => p.joinHold start asked len)
  | .preemptArmed vf clampAt forcedAt => .quiet (s.onPart vf fun p => p.joinPreempt clampAt forcedAt)
  | .loaded vf dev pt => .quiet (s.onPart vf fun p => if p.multi then { p with loads := tput p.loads dev pt } else p)
  | .barrierWait vf dev bar core gen pt => .quiet (joinWait vf dev bar core gen pt s)
  | .coreReport vf core cond ki => .quiet (s.onPart vf fun p => p.hearCore core cond ki)
  | .leave vf core pt lanes => .quiet (s.onPart vf fun p => if p.multi && !p.isLocal core then p.announce pt lanes else p)
  | .ready vf dev => .quiet (s.onPart vf fun p => p.hearReady dev)
  | .groupPeer vf dev n c cls => .quiet (s.onPart vf fun p => if p.multi then { p with mates := tput p.mates dev (n, c, cls) } else p)
  | .sensors temp power => .quiet { s with temp := temp, power := power }
  | .plane dev port up => .quiet (setPlane dev port up s)
  | .pagePlace vf page tier phys => .quiet (placePage vf page tier phys s)
  | .mmioRead fn off => readMove fn off s

/-- An input arrives. (DESIGN CHOICE: notes/assumptions/13.md) -/
def takeInput (x : Input) (s : State) : Move :=
  if (decide (s.bstat = 7) || x.beforeBoot) && (!s.railed || x.afterRail) then servedInput x s else .quiet s

/-- The first input whose time has come. -/
def State.arrived (s : State) : Option (Nat × Input) := (s.inbox.filter fun e => decide (e.1 ≤ s.tabor)).head?

/-- The mailbox command that a block's code names (19_belfry R289, R290). -/
def mailEvent (s : State) (pf : Nat) : Instr :=
  if Config.busError s.oracle then .mailboxUnknownCode pf
  else
    match s.mailCode pf with
    | 1 => .registerImage pf
    | 2 => .unregisterImage pf
    | 3 => .createTenant pf
    | 4 => .deleteTenant pf
    | 5 => .createLogicalPartition pf
    | 6 => .deleteLogicalPartition pf
    | 7 => .lifeCycleNonce pf
    | 8 => .lifeCycleChange pf
    | 9 => .attestationReport pf
    | 10 => .attestationKey pf
    | 11 => .debugEnable pf
    | 12 => .setBreakMask pf
    | 13 => .debugRelease pf
    | _ => .mailboxUnknownCode pf

/-! ### The Tabor advances (02_time R14) -/

/-- The partition stands in a barrier wait, or in the cycle of the arrival that has ended it. -/
def Stop.ofWait : Stop → Bool
  | .barrier => true
  | .waitOver _ => true
  | _ => false

/-- Tabor cycles that a barrier wait counts: toward its timeout, while it holds no token, and toward a park deadline (14_determinism R222, R223;
16_faults R251). -/
def Part.tick (p : Part) : Part :=
  if p.stops.any Stop.ofWait then
    { p with
      barriers := p.barriers.map fun (e : Nat × Barrier) =>
        (e.1, if !e.2.waits.isEmpty && e.2.tokens.isEmpty then { e.2 with elapsed := e.2.elapsed + 1 } else e.2)
      preempt := p.preempt.map fun r => if p.clampOn then { r with count := r.count + 1 } else r }
  else p

/-- What the Belfry's cores hold after this Tabor cycle, and what they store in its SRAM, among it their stacks: while the kernel runs, what the
firmware makes of them, which the manual does not say (16_faults R246; 19_belfry R281). (DESIGN CHOICE: notes/assumptions/4.md) -/
def State.firmwareRuns (s : State) : State :=
  if decide (s.bstat = 7) && !s.belfryDown then
    { s with
      belfry := (List.range s.belfry.length).map fun i => Config.belfryCore s.oracle s.tabor i
      sram := loadBytes s.sram ((Config.belfryStores s.oracle s.tabor).filter fun c => decide (c.1 < Config.sramBytes)) }
  else s

/-- The next Tabor cycle: every partition is served again. -/
def State.tick (s : State) : State :=
  { s.firmwareRuns with
    tabor := s.tabor + 1
    parts := if s.railed then s.parts else s.parts.map fun (e : Nat × Part) => (e.1, e.2.tick)
    cursor := { s.cursor with todo := (s.parts.filter fun e => e.2.live).map fun e => e.1 } }

/-! ### The next move of the package -/

/-- A package reset that an unpowered package waits for. -/
def State.resetWaiting (s : State) : Bool := s.inbox.any fun e => decide (e.2 = .event .packageReset)

/-- The inbox without everything up to the first package reset. -/
def afterReset : List (Nat × Input) → List (Nat × Input)
  | [] => []
  | e :: r => if e.2 = .event .packageReset then r else afterReset r

/-- A sample of temperatures and power is due (19_belfry R287). -/
def State.samples (s : State) : Bool := decide (s.bstat = 7 ∧ s.sampleAt ≤ s.tabor) && !s.belfryDown

/-- Tabor cycles from one sample to the next (19_belfry R287). -/
def sampleCycles : Nat := 65536

/-- The mailbox command that the Belfry carries out next; none once it serves nothing (16_faults R247). -/
def State.mailNext (s : State) : Option Nat := if s.belfryDown then none else s.mailQueue.head?

/-- What a powered package does next: boot; what arrives; a sample; a mailbox command; the partitions in turn; the next Tabor cycle.
(DEDUCED: notes/assumptions/10.md) -/
def poweredMove (s : State) : Move :=
  if s.booting then .run .packageReset s
  else
    match s.arrived with
    | some e => takeInput e.2 { s with inbox := s.inbox.erase e }
    | none =>
      if s.samples then .run (.thermalSample s.temp s.power) { s with sampleAt := s.sampleAt + sampleCycles }
      else
        match s.mailNext with
        | some pf => .run (mailEvent s pf) s
        | none =>
          match s.cursor.todo with
          | vf :: _ => partMove s vf
          | [] => .quiet s.tick

/-- The next move; none for an unpowered package that no reset reaches (19_belfry R286). (DEDUCED: notes/assumptions/10.md) -/
def nextMove (s : State) : Option Move :=
  if s.powered then some (poweredMove s)
  else if s.resetWaiting then some (.run .packageReset { s with inbox := afterReset s.inbox })
  else none

/-! ### A lone instruction (for State.withFetchWord) -/

/-- A partition that runs a task on its core 0 alone, at the start of a PT cycle's issue, with every domain ON and the given words as its
program. (DESIGN CHOICE: notes/assumptions/8.md) -/
def lonePart (code : Table Word) (limit : Nat) : Part :=
  { Part.fresh with
    live := true, cores := 4, channels := 128, resid := .bound 0, stage := .issue
    coreTable := [(0, 0), (1, 1), (2, 2), (3, 3)]
    task := some ⟨⟨1, 1, 0, 0, [], 0⟩, 1, 1, 128, 0, 4, 0, none, false, 0⟩
    coreOf := [(0, { Core.fresh with
      cond := .running, kregs := [(13, 1), (15, 1)], store := code, limit := limit
      domains := (List.range 29).map fun d => (d, .on) })] }

/-- The bundle that holds a lone instruction's words: a header that names the slot its decoder reads it in, and the op word with its
extension. -/
def loneWords (w : Nat) : Table Word :=
  let x := w / 2 ^ 32 % 2 ^ 32
  let sl := match decodeAlone (w % 2 ^ 32) (if bits w 31 1 = 0 then 0 else x) with
    | some (sl, _) => sl
    | none => 0
  [(0, BitVec.ofNat 32 (2 ^ sl)), (1, BitVec.ofNat 32 w), (2, BitVec.ofNat 32 x)]

end Sys2Proof.Machine
end

