-- ==== Sys2Proof/Machine/Step.lean ====
section
/-! DEFINITION. One step of the package: the op or event that comes next, or a quiet move (95_what_each_step_holds). -/

namespace Sys2Proof.Machine

/-- ONE STEP (02_time R16; 03_core R34): an unpowered package that no reset reaches does nothing. -/
def step (s : State) : Host.Outcome State Fault Refusal :=
  match nextMove s with
  | none => .fault .noPower
  | some (.quiet t) => .next t
  | some (.run i t) => exec i t

/-- The package with a lone instruction where the next step fetches: as the only op of a bundle at word 0 of a running core
(notes/assumptions/8.md). (DESIGN CHOICE: notes/assumptions/8.md) -/
def State.withFetchWord (s : State) (_nbits w : Nat) : State :=
  { s with
    powered := true, booting := false, inbox := [], mailQueue := [], fatal := 0, stretchUntil := 0
    cursor := ⟨0, 0, 0, [0]⟩
    parts := tput s.parts 0 (lonePart (loneWords w) 3) }

end Sys2Proof.Machine
end

