-- ==== Sys2Proof/Safety.lean ====
section
/-! DEFINITION. The terms in which claims about the machine are made: when an op executes, what its issue leaves, which bytes and registers
a frame speaks of, and the invariants of a run. -/

namespace Sys2Proof.Machine

/-! ### Issue (03_core R39, R43, R47) -/

/-- The op passes the checks of its issue in the slot that the cursor names. -/
def passes (s : State) (g : Guard) (i : Instr) : Bool :=
  decide (opCheck s s.cursor.vf s.cursor.core s.cursor.slot (s.hereCore.slot s.cursor.slot) g i = none)

/-- The op executes: its checks pass, its condition is true, and neither its condition nor a register it reads holds an uncorrectable error
(16_faults R241). -/
def executes (s : State) (g : Guard) (i : Instr) : Bool :=
  passes s g i && (s.hereCore.guardError g).isNone && s.hereCore.holds g && (s.hereCore.issueError s.cursor.slot i).isNone

/-- The state after the issue of an op that changes its core by `f`: its touches are reserved and its step is taken. -/
def State.issued (s : State) (i : Instr) (step : Sticky → Sticky) (f : Core → Core) : State :=
  s.onHere fun c =>
    let k := f (c.reserve (touchesOf c s.cursor.slot s.here.pt s.here.t0 (c.slot s.cursor.slot) i))
    k.setSlot s.cursor.slot (step (k.slot s.cursor.slot))

/-- The state after the issue of an op that puts effects in flight: the latency and effect of each. -/
def State.inFlight (s : State) (i : Instr) (step : Sticky → Sticky) (es : List (Nat × Eff)) : State :=
  s.issued i step fun c => c.issue s.here.pt s.cursor.slot es

/-- An op that executes answers the next state in which its core is changed by `f`, and nothing else. -/
abbrev Changes (s : State) (g : Guard) (i : Instr) (step : Sticky → Sticky) (f : Core → Core) : Prop :=
  executes s g i = true → exec i s = .next (s.issued i step f)

/-- An op that executes answers the next state in which these effects are in flight, each after its latency, and nothing else has changed. -/
abbrev Delivers (s : State) (g : Guard) (i : Instr) (step : Sticky → Sticky) (es : List (Nat × Eff)) : Prop :=
  executes s g i = true → exec i s = .next (s.inFlight i step es)

/-! ### The conditions of an issue, check by check (03_core R47) -/

/-- A domain is ready in a cycle (12_power R186). -/
def Core.awake (c : Core) (d cycle : Nat) : Prop := c.dom d = .on ∨ ∃ r fr, c.dom d = .waking r fr ∧ r ≤ cycle

/-- Check 6: every domain that the op uses, and that of every place it touches, is ready in the cycle of its use (09_memory R126). -/
def Core.allAwake (c : Core) (slot pt : Nat) (own : List Touch) (i : Instr) : Prop :=
  (∀ x ∈ domainsOf slot pt i, c.awake x.1 x.2) ∧ ∀ t ∈ own, c.awake (8 + t.place) t.cycle

/-- The vchannel's bank is a service bank (09_memory R132). -/
def Part.serves (p : Part) (vch bank : Nat) : Prop := (tget 0 p.service vch).testBit bank = true

/-- Check 7: handles, permissions and service banks (09_memory R134; 10_translation R151); the records of the engines' ops. -/
def accessible (p : Part) (c : Core) (slot : Nat) (i : Instr) : Prop :=
  match i with
  | .dact _ vch bank h row =>
    (c.h h).st = .valid ∧ (c.h h).rp = true ∧ (c.h h).tier = 0 ∧ (c.h h).vch = vch ∧ ¬ p.serves vch bank ∧ row < 64 ^ (c.h h).size
  | .drd _ vch bank _ _ _ => ¬ p.serves vch bank
  | .dwr _ vch bank _ _ _ => ¬ p.serves vch bank ∧ ∀ r, (p.bank vch bank).st ≠ .active r false
  | .dpre _ vch bank all => all ≠ 1 → ¬ p.serves vch bank
  | .dref _ vch bank => ¬ p.serves vch bank
  | .enq _ rs rd _ _ _ kind _ => enqBounds p.t3 kind rs rd (c.record slot rs) (c.record slot rd) = none
  | .fput _ rs rd _ _ _ => fputBounds p.t3 rs rd (c.record slot rs) (c.record slot rd) = none
  | .aop _ r _ size _ _ _ _ _ _ => aopBounds p.t3 r size (c.record slot r) = none
  | .fsend _ r _ _ _ => fsendBounds p.taskCores r p.isLocal (c.record slot r) = none
  | _ => True

/-- Lanes announced in the window of 64 cycles that ends at a PT (11_products R178). -/
def Part.leftIn (p : Part) (last : Nat) : Nat := ((p.leaves.filter fun l => decide (l.1 ≤ last ∧ last < l.1 + 64)).map fun l => l.2).sum

/-- Check 8: a multiply on a lane that is idle (no multiply within 256 cycles) has a notice 64 to 4,096 cycles old; the lanes of a LEAVE and
those announced in any window of 64 cycles that holds it lie within the slew budget (11_products R177, R178). -/
def loadAllowed (p : Part) (c : Core) (pt : Nat) (i : Instr) : Prop :=
  let noticed (q : Nat) : Prop := (∀ m, tfind c.lastMul q = some m → m + 256 ≤ pt) → ∃ n, (q, n) ∈ c.notices ∧ n + 64 ≤ pt ∧ pt ≤ n + 4096
  match i with
  | .mmul _ q _ _ => noticed q
  | .mmac _ q _ _ => noticed q
  | .leave _ mask => ∀ w, pt ≤ w → w < pt + 64 → p.leftIn w + (List.range 4).countP (fun l => mask.testBit l) ≤ p.budget
  | _ => True

/-- An event of the past, if there was one, lies `d` cycles back or more. -/
def Spaced (x : Option Nat) (pt d : Nat) : Prop := ∀ t, x = some t → t + d ≤ pt

/-- A DRAM command to a bank: the bank's state allows it (09_memory R135), and every row of the table of R136. -/
def Part.mayCommand (p : Part) (cmd : DCmd) (vch b pt : Nat) : Prop :=
  let k := p.bank vch b
  let c := p.chan vch
  let open_ : Prop := ∃ r w, k.st = .active r w
  (∀ t, k.st ≠ .refreshing t) ∧ (cmd = .rd ∨ cmd = .wr → open_) ∧ (cmd = .act ∨ cmd = .ref → ¬ open_)
  ∧ (cmd = .rd ∨ cmd = .wr → Spaced k.act pt 12) ∧ (cmd = .act ∨ cmd = .ref → Spaced k.pre pt 12)
  ∧ (cmd = .pre → open_ → Spaced k.act pt 20 ∧ Spaced k.wr pt 14 ∧ ∀ t, k.act = some t → pt ≤ t + 35000)
  ∧ (cmd = .act → Spaced k.act pt 32 ∧ (∀ a ∈ c.acts, a.2 ≠ b → a.1 + 3 ≤ pt) ∧ c.acts.countP (fun a => decide (pt < a.1 + 16)) < 4)
  ∧ (cmd = .rd → Spaced c.wr pt 6) ∧ (cmd = .wr → Spaced c.rd pt 4) ∧ Spaced k.ref pt 108 ∧ pt % 8 ≠ 7

/-- Check 9, states and timing: a DPRE of all banks closes every program bank (09_memory R134 to R136). -/
def Part.commandTimely (p : Part) (pt : Nat) (i : Instr) : Prop :=
  match i with
  | .dact _ vch b _ _ => p.mayCommand .act vch b pt
  | .drd _ vch b _ _ _ => p.mayCommand .rd vch b pt
  | .dwr _ vch b _ _ _ => p.mayCommand .wr vch b pt
  | .dpre _ vch b all => if all = 1 then (∀ x, x < 16 → ¬ p.serves vch x → p.mayCommand .pre vch x pt) ∧ pt % 8 ≠ 7 else p.mayCommand .pre vch b pt
  | .dref _ vch b => p.mayCommand .ref vch b pt
  | _ => True

/-- Check 9, collisions: no other command of this cycle on the channel (09_memory R134). -/
def Part.channelClear (p : Part) (pt : Nat) (i : Instr) : Prop := ∀ vch v, commandChannel i = some vch → (p.chan vch).last ≠ some (pt, v)

/-- Check 10: no touch of the op falls in a maintenance cycle or meets another touch of its place (09_memory R125, R130). -/
def Core.banksClear (c : Core) (own : List Touch) : Prop :=
  (∀ t ∈ own, t.cycle % 256 ≠ 255 ∧ ∀ u ∈ c.touches, ¬ (t.place = u.place ∧ t.cycle = u.cycle))
  ∧ own.Pairwise fun t u => ¬ (t.place = u.place ∧ t.cycle = u.cycle)

/-- Check 11: four cycles between the multiplies of a lane (11_products R169). -/
def Core.intervalKept (c : Core) (pt : Nat) (i : Instr) : Prop :=
  match i with
  | .mmul _ q _ _ => Spaced (tfind c.lastMul q) pt 4
  | .mmac _ q _ _ => Spaced (tfind c.lastMul q) pt 4
  | _ => True

/-- Check 12: the return stack of 8 entries; LAUNCH's queue and node address (08_loops R114; 15_tasks R231). -/
def stackFits (s : State) (p : Part) (c : Core) (i : Instr) : Prop :=
  match i with
  | .call _ _ => c.rstack.length < 8
  | .ret _ => c.rstack ≠ []
  | .launch _ kq kn =>
    ((c.k kq).toNat = 63 ∨ ((c.k kq).toNat < 40 ∧ tfind (tget ⟨0, []⟩ s.tenants p.tenant).queues (c.k kq).toNat ≠ none)) ∧ (c.k kn).toNat % 64 = 0
  | _ => True

/-- Check 4, the limits of the task: virtual cores, vchannels, and the timed ports of its mask (04_encoding R59; 18_fabric_host R275). -/
def withinTask (p : Part) (i : Instr) : Prop :=
  (∀ vch, commandChannel i = some vch → vch < p.vchannels) ∧ match i with
    | .cpyx _ core _ _ _ _ _ => core < p.taskCores
    | .fsend _ _ _ _ port => port ∈ p.portMask
    | _ => True

/-! ### Snare (14_determinism R216) -/

/-- An access of `n` bytes by an accessor races at a granule that it touches: another core has written it in this phase. -/
def Part.racesAt (p : Part) (c : Core) (acc addr n gr : Nat) : Prop :=
  p.snare = true ∧ addr / 32 ≤ gr ∧ gr ≤ (addr + n - 1) / 32 ∧ ∃ w, w ≠ acc ∧ tfind c.shadow gr = some (w, p.phase)

/-- A barrier wait of this PT is not over, and no fault stop stands: whether the phase advances at this PT is open (14_determinism R217, R221).
(DEDUCED: notes/assumptions/43.md) -/
def Part.phaseUnsettled (p : Part) : Prop :=
  p.snare = true ∧ p.phasedAt ≠ some p.pt ∧ Stop.fault ∉ p.stops ∧ ∃ b, b < 16 ∧ (p.barrier b).waits ≠ []

/-! ### Registers (03_core R36; 01_device R6) -/

/-- The value of a register as a number. -/
def Core.read (c : Core) : Dst → Nat
  | .s r => (c.s r).toNat
  | .k r => (c.k r).toNat
  | .v r => (c.v r).toNat
  | .w r => (c.w r).toNat
  | .ia r => c.ia r
  | .ib r => c.ib r
  | .im r => c.im r
  | .p r => if c.p r then 1 else 0
  | .x r => (c.x r).toNat
  | .y r => (c.y r).toNat
  | .fmt => c.fmt.toNat
  | .g => c.g.toNat
  | .wa => c.wa.toNat
  | .wb => c.wb.toNat

/-- The width of a register. -/
def Dst.width : Dst → Nat
  | .s _ | .k _ => 64
  | .v _ | .w _ => 2048
  | .ia _ | .ib _ | .im _ => 20
  | .p _ => 1
  | .x _ | .y _ => 256
  | .fmt => 32
  | .g => 6
  | .wa | .wb => 4

/-- A register that no write changes: s0, p0 and the identity registers k12 to k15. -/
def Dst.wired : Dst → Bool
  | .s r => r == 0
  | .p r => r == 0
  | .k r => 12 ≤ r
  | _ => false

/-- Two cores hold the same in every register file and in the B-store. -/
def Core.sameFiles (c u : Core) : Prop :=
  (∀ d, u.read d = c.read d) ∧ (∀ n, u.z n = c.z n ∧ u.q n = c.q n ∧ u.h n = c.h n) ∧ ∀ l n, u.entryOf l n = c.entryOf l n

/-! ### Lanes of integer and natural types (06_numbers R85; 23_ref_v_y R359) -/

/-- The exact value of a lane, read in its type, after the absolute value and then the negation that its modifiers ask for. -/
def laneValue (t v ab ng : Nat) : Int :=
  let x : Int := if t < 4 then (BitVec.ofNat (laneBits t) v).toInt else ((v % 2 ^ laneBits t : Nat) : Int)
  let y : Int := if ab = 1 then (if x < 0 then -x else x) else x
  if ng = 1 then -y else y

/-- A lane's bits hold an exact result reduced to the lane's type: wrapped, or held within the type's range when CLP is 1. -/
def Reduced (t clp : Nat) (x : Int) (r : Nat) : Prop :=
  let size : Int := 2 ^ laneBits t
  let lo : Int := if t < 4 then -(2 ^ (laneBits t - 1)) else 0
  let hi : Int := if t < 4 then 2 ^ (laneBits t - 1) - 1 else 2 ^ laneBits t - 1
  (clp ≠ 1 ∨ (lo ≤ x ∧ x ≤ hi) → (r : Int) = x % size) ∧ (clp = 1 → x < lo → (r : Int) = lo % size)
  ∧ (clp = 1 → hi < x → (r : Int) = hi % size)

/-! ### Lanes of floating types (06_numbers R86 to R90) -/

/-- A format of 06_numbers R86: exponent bits, bias, fraction bits. -/
structure FloatFormat where
  ex : Nat
  bias : Nat
  frac : Nat
deriving DecidableEq, Repr

/-- The formats of the element types 8 f16, 9 bf16 and 10 f32. -/
def floatFormat (t : Nat) : FloatFormat :=
  match t with
  | 8 => ⟨5, 15, 10⟩
  | 9 => ⟨8, 127, 7⟩
  | _ => ⟨8, 127, 23⟩

/-- The patterns of the sign, of +Inf and of 1; the canonical NaN. -/
def FloatFormat.sign (f : FloatFormat) : Nat := 2 ^ (f.ex + f.frac)
def FloatFormat.top (f : FloatFormat) : Nat := (2 ^ f.ex - 1) * 2 ^ f.frac
def FloatFormat.one (f : FloatFormat) : Nat := f.bias * 2 ^ f.frac
def FloatFormat.nan (f : FloatFormat) : Nat := f.top + 2 ^ (f.frac - 1)

/-- The least subnormal is 2 to the minus this. -/
def FloatFormat.unit (f : FloatFormat) : Nat := f.bias + f.frac - 1

/-- The magnitude of a pattern in least subnormals. At the pattern of Inf it is the power of two that follows the largest finite value. -/
def FloatFormat.mag (f : FloatFormat) (n : Nat) : Nat :=
  if n / 2 ^ f.frac = 0 then n else (2 ^ f.frac + n % 2 ^ f.frac) * 2 ^ (n / 2 ^ f.frac - 1)

/-- A lane, or an exact result: a sign and a magnitude counted in a unit that its place names. -/
inductive FloatLane where
  | nan
  | inf (neg : Bool)
  | num (neg : Bool) (m : Nat)
deriving DecidableEq, Repr

/-- What a lane holds, in least subnormals, after the absolute value and then the negation that its modifiers ask for. -/
def floatLane (f : FloatFormat) (v ab ng : Nat) : FloatLane :=
  let neg := xor (decide (ng = 1)) (decide (ab ≠ 1) && decide (v / f.sign % 2 = 1))
  let n := v % f.sign
  if f.top < n then .nan else if n = f.top then .inf neg else .num neg (f.mag n)

/-- A sign and a magnitude as an integer. -/
def signedMag (neg : Bool) (m : Nat) : Int := if neg then -(m : Int) else m

/-- The lane with its sign turned. -/
def FloatLane.opposite : FloatLane → FloatLane
  | .nan => .nan
  | .inf a => .inf !a
  | .num a m => .num (!a) m

/-- The same lane, counted in a unit 2^k times finer. -/
def FloatLane.finer (k : Nat) : FloatLane → FloatLane
  | .num a m => .num a (m * 2 ^ k)
  | x => x

/-- The exact sum of two lanes of one unit: ∞ − ∞ is invalid; a zero sum of opposite signs is −0 in mode 2, else +0. -/
def FloatLane.plus (mode : Nat) : FloatLane → FloatLane → FloatLane
  | .nan, _ => .nan
  | _, .nan => .nan
  | .inf a, .inf b => if a = b then .inf a else .nan
  | .inf a, .num _ _ => .inf a
  | .num _ _, .inf b => .inf b
  | .num a m, .num b n =>
    let x := signedMag a m + signedMag b n
    .num (if x = 0 then (if a = b then a else decide (mode = 2)) else decide (x < 0)) x.natAbs

/-- The exact product, counted in the square of the unit: 0 × ∞ is invalid. -/
def FloatLane.times : FloatLane → FloatLane → FloatLane
  | .nan, _ => .nan
  | _, .nan => .nan
  | .inf a, .inf b => .inf (xor a b)
  | .inf a, .num b n => if n = 0 then .nan else .inf (xor a b)
  | .num a m, .inf b => if m = 0 then .nan else .inf (xor a b)
  | .num a m, .num b n => .num (xor a b) (m * n)

/-- The order of lanes other than NaN, −0 below +0. -/
def FloatLane.below : FloatLane → FloatLane → Bool
  | .inf a, .inf b => a && !b
  | .inf a, .num _ _ => a
  | .num _ _, .inf b => !b
  | .num a m, .num b n => decide (signedMag a m < signedMag b n) || (decide (m = 0 ∧ n = 0) && a && !b)
  | _, _ => false

/-- Lanes other than NaN that are equal, −0 and +0 among them. -/
def FloatLane.same : FloatLane → FloatLane → Prop
  | .inf a, .inf b => a = b
  | .num a m, .num b n => signedMag a m = signedMag b n
  | _, _ => False

/-- The smaller and the larger of two lanes; a NaN on either side gives NaN. -/
def FloatLane.lesser (x y : FloatLane) : FloatLane := if x = .nan ∨ y = .nan then .nan else if y.below x then y else x
def FloatLane.greater (x y : FloatLane) : FloatLane := if x = .nan ∨ y = .nan then .nan else if x.below y then y else x

/-- A result that counts 2^e rounded once to a format, in mode 0 to nearest with ties to even, 1 toward zero, 2 down, 3 up: `r` is the
pattern on the right side of the exact value, its magnitude compared with those of the patterns next below and next above. -/
def Rounds (f : FloatFormat) (mode : Nat) (e : Int) : FloatLane → Nat → Prop
  | .nan, r => r = f.nan
  | .inf a, r => r = (if a then f.sign else 0) + f.top
  | .num a m, r =>
    let lo : Int := min e (-(f.unit : Int))
    let x : Nat := m * 2 ^ (e - lo).toNat
    let at_ (k : Nat) : Nat := f.mag k * 2 ^ (-(f.unit : Int) - lo).toNat
    let n := r % f.sign
    let even : Prop := n % 2 = 0
    r = (if a then f.sign else 0) + n ∧ n ≤ f.top
    ∧ (mode = 0 → (0 < n → at_ (n - 1) + at_ n < 2 * x ∨ (at_ (n - 1) + at_ n = 2 * x ∧ even))
        ∧ (n < f.top → 2 * x < at_ n + at_ (n + 1) ∨ (2 * x = at_ n + at_ (n + 1) ∧ even)))
    ∧ ((mode = 1 ∨ (mode = 2 ∧ a = false) ∨ (mode = 3 ∧ a = true)) →
        n < f.top ∧ at_ n ≤ x ∧ (n + 1 < f.top → x < at_ (n + 1)))
    ∧ (((mode = 2 ∧ a = true) ∨ (mode = 3 ∧ a = false)) → (0 < n → at_ (n - 1) < x) ∧ (n < f.top → x ≤ at_ n))

/-- A magnitude rounded once, as `Rounds` rounds one: of it is known which halves of least subnormals it is less than, and which it is more
than. -/
def RoundsTo (f : FloatFormat) (mode : Nat) (neg : Bool) (less more : Nat → Prop) (r : Nat) : Prop :=
  let n := r % f.sign
  let even : Prop := n % 2 = 0
  r = (if neg then f.sign else 0) + n ∧ n ≤ f.top
  ∧ (mode = 0 → (0 < n → more (f.mag (n - 1) + f.mag n) ∨ (¬ less (f.mag (n - 1) + f.mag n) ∧ even))
      ∧ (n < f.top → less (f.mag n + f.mag (n + 1)) ∨ (¬ more (f.mag n + f.mag (n + 1)) ∧ even)))
  ∧ ((mode = 1 ∨ (mode = 2 ∧ neg = false) ∨ (mode = 3 ∧ neg = true)) →
      n < f.top ∧ ¬ less (2 * f.mag n) ∧ (n + 1 < f.top → less (2 * f.mag (n + 1))))
  ∧ (((mode = 2 ∧ neg = true) ∨ (mode = 3 ∧ neg = false)) → (0 < n → more (2 * f.mag (n - 1))) ∧ (n < f.top → ¬ more (2 * f.mag n)))

/-- A magnitude that counts 2^e rounded to the whole number `k`, in the modes of `Rounds` (06_numbers R91). -/
def RoundsWhole (mode : Nat) (neg : Bool) (m : Nat) (e : Int) (k : Nat) : Prop :=
  let d : Int := 2 ^ (-e).toNat
  let x : Int := m * 2 ^ e.toNat
  let even : Prop := k % 2 = 0
  (mode = 0 → ((2 * k - 1) * d < 2 * x ∨ ((2 * k - 1) * d = 2 * x ∧ even)) ∧ (2 * x < (2 * k + 1) * d ∨ (2 * x = (2 * k + 1) * d ∧ even)))
  ∧ ((mode = 1 ∨ (mode = 2 ∧ neg = false) ∨ (mode = 3 ∧ neg = true)) → k * d ≤ x ∧ x < (k + 1) * d)
  ∧ (((mode = 2 ∧ neg = true) ∨ (mode = 3 ∧ neg = false)) → (k - 1) * d < x ∧ x ≤ k * d)

/-- What a function of the table of 06_numbers R93 hands to its op: an exact result, which f16 and bf16 take through f32 to nearest. A result
beyond f32 goes on as it is, so that the op's mode decides (23_ref_v_y R366; notes/assumptions/6.md). -/
def Handed (t mode : Nat) (e : Int) (x : FloatLane) (r : Nat) : Prop :=
  let f32 := floatFormat 10
  if t = 10 then Rounds f32 mode e x r
  else ∃ r1, Rounds f32 0 e x r1 ∧
    if r1 % f32.sign = f32.top ∧ (∀ a, x ≠ .inf a) then Rounds (floatFormat t) mode e x r
    else Rounds (floatFormat t) mode (-(f32.unit : Int)) (floatLane f32 r1 0 0) r

/-- CLP on a rounded pattern: 1 the largest finite value of its sign for an infinity, 2 to [+0, 1], 3 to [−1, 1]; a NaN is +0 in both. -/
def clampedFloat (f : FloatFormat) (clp r : Nat) : Nat :=
  let n := r % f.sign
  let neg := f.sign ≤ r
  match clp with
  | 1 => if n = f.top then r - 1 else r
  | 2 => if f.top < n ∨ neg then 0 else min n f.one
  | 3 => if f.top < n then 0 else (if neg then f.sign else 0) + min n f.one
  | _ => r

/-! ### Steps of sticky ops (03_core R43) -/

/-- The two offsets moved by signed steps, modulo the sizes of their spaces. -/
def Sticky.moved (st : Sticky) (a : Int) (n : Nat) (b : Int) : Sticky :=
  { st with adv1 := (((st.adv1 : Int) + a) % 4096).toNat, adv2 := (((st.adv2 : Int) + b) % n).toNat }

/-- What an issue of an op does to its sticky register's offsets: lines modulo 4,096, entries and columns within 512. -/
def stepOf (i : Instr) (st : Sticky) : Sticky :=
  match i with
  | .vld _ _ _ _ => st.moved 0 512 0
  | .vst _ _ _ _ => st.moved 0 512 0
  | .vldLong _ _ _ _ n => st.moved (BitVec.ofNat 12 n).toInt 512 0
  | .vstLong _ _ _ _ n => st.moved (BitVec.ofNat 12 n).toInt 512 0
  | .mpack _ _ _ _ _ _ _ _ n => st.moved (BitVec.ofNat 11 n).toInt 512 0
  | .mldbLong _ _ _ _ _ l e => st.moved (BitVec.ofNat 9 l).toInt 512 (BitVec.ofNat 9 e).toInt
  | .cpy _ a b _ _ _ => st.moved (BitVec.ofNat 7 a).toInt 4096 (BitVec.ofNat 7 b).toInt
  | .cpyx _ _ a b _ _ _ => st.moved (BitVec.ofNat 5 a).toInt 4096 (BitVec.ofNat 5 b).toInt
  | .drd _ _ _ _ _ n => st.moved (BitVec.ofNat 6 n).toInt 512 (BitVec.ofNat 6 n).toInt
  | .dwr _ _ _ _ _ n => st.moved (BitVec.ofNat 6 n).toInt 512 (BitVec.ofNat 6 n).toInt
  | _ => st

/-! ### Effects that fall due, and stops (16_faults R239 to R242) -/

/-- The first due effect of a kind at a core. -/
abbrev Due (s : State) (vf v : Nat) (kind : Eff → Bool) (e : Pend) : Prop :=
  firstPend ((s.part vf).dueOf v kind) = some e

/-- The partition stops at its PT with this record. -/
abbrev Stops (s t : State) (vf : Nat) (f : FRec) : Prop :=
  (t.part vf).stops = (s.part vf).stops ++ [.fault] ∧ (t.part vf).frec = f ∧ (t.part vf).pt = (s.part vf).pt

/-- Every partition but one, and everything outside the partitions and the outbox and the free values drawn, is as it was. -/
def State.onlyPart (s t : State) (vf : Nat) : Prop :=
  (∀ w, w ≠ vf → t.part w = s.part w) ∧ t.tabor = s.tabor ∧ t.dram = s.dram ∧ t.t1 = s.t1 ∧ t.host = s.host ∧ t.remote = s.remote

/-! ### Memories -/

/-- Every memory of a core is in canonical form. -/
def Core.memOk (c : Core) : Bool := Memory.wf c.scratch

/-- Every memory that a partition holds is in canonical form: its cores' scratchpads, its page of nodes, pages that are not resident,
channels copied out. -/
def Part.memOk (p : Part) : Bool :=
  Memory.wf p.nodePage && (p.coreOf.all fun e => e.2.memOk) && (p.outPages.all fun e => Memory.wf e.2)
  && p.outChans.all fun e => Memory.wf e.2.1 && Memory.wf e.2.2

/-- Every memory of the package, of its host and of the other devices is in canonical form. -/
def State.memOk (s : State) : Bool :=
  Memory.wf s.dram && Memory.wf s.t1 && Memory.wf s.sram && Memory.wf s.host && Memory.wf s.remote && s.parts.all fun e => e.2.memOk

end Sys2Proof.Machine
end

