-- ==== Sys2Proof/Certificates/Slice0/Obligations.lean ====
section
/-! DEFINITION. The statements about the machine, for the provers. A register result is written when its event falls due, so a statement
about an op says what its issue puts in flight, and the statements about events say what falls due. -/

open Sys2Proof Sys2Proof.Machine

/-- ADD, ADDI, SUB, AND, OR and XOR: the 64-bit result, one cycle after issue (R293; R295; R296; R297; R340; R354; R383; R63). -/
def Obligations.ScalarSumsAndLogic : Prop :=
  ∀ (s : State) (g : Guard) (d a b imm : Nat),
    let c := s.hereCore
    let i32 : DWord := (BitVec.ofNat 32 imm).signExtend 64
    Delivers s g (.add g d a b) id [(1, .reg (.s d) (c.s a + c.s b).toNat)]
    ∧ Delivers s g (.addImm g d a imm) id [(1, .reg (.s d) (c.s a + i32).toNat)]
    ∧ Delivers s g (.addi g d a imm) id [(1, .reg (.s d) (c.s a + (BitVec.ofNat 7 imm).signExtend 64).toNat)]
    ∧ Delivers s g (.sub g d a b) id [(1, .reg (.s d) (c.s a - c.s b).toNat)]
    ∧ Delivers s g (.subImm g d a imm) id [(1, .reg (.s d) (c.s a - i32).toNat)]
    ∧ Delivers s g (.andOp g d a b) id [(1, .reg (.s d) (c.s a &&& c.s b).toNat)]
    ∧ Delivers s g (.andImm g d a imm) id [(1, .reg (.s d) (c.s a &&& i32).toNat)]
    ∧ Delivers s g (.orOp g d a b) id [(1, .reg (.s d) (c.s a ||| c.s b).toNat)]
    ∧ Delivers s g (.orImm g d a imm) id [(1, .reg (.s d) (c.s a ||| i32).toNat)]
    ∧ Delivers s g (.xorOp g d a b) id [(1, .reg (.s d) (c.s a ^^^ c.s b).toNat)]
    ∧ Delivers s g (.xorImm g d a imm) id [(1, .reg (.s d) (c.s a ^^^ i32).toNat)]

/-- MUL, MULH, DIV, MIN, MAX, ADC and SBB: results, carry and borrow, and their latencies (R294; R309; R330; R338; R349). -/
def Obligations.ScalarProductsAndCarries : Prop :=
  ∀ (s : State) (g : Guard) (d a b imm nat ci co : Nat),
    let c := s.hereCore
    let x := c.s a
    let y := c.s b
    let i32 : DWord := (BitVec.ofNat 32 imm).signExtend 64
    let carry : Nat := if c.p ci = true then 1 else 0
    let less (u v : DWord) : Prop := (nat = 1 ∧ u.toNat < v.toNat) ∨ (nat ≠ 1 ∧ u.toInt < v.toInt)
    Delivers s g (.mul g d a b) id [(3, .reg (.s d) (x * y).toNat)]
    ∧ Delivers s g (.mulImm g d a imm) id [(3, .reg (.s d) (x * i32).toNat)]
    ∧ (nat = 1 → Delivers s g (.mulh g d a b nat) id [(3, .reg (.s d) (x.toNat * y.toNat / 2 ^ 64))])
    ∧ (nat = 0 → Delivers s g (.mulh g d a b nat) id [(3, .reg (.s d) (BitVec.ofInt 64 (x.toInt * y.toInt / 2 ^ 64)).toNat)])
    ∧ (y = 0 → Delivers s g (.div g d a b nat) id [(18, .reg (.s d) (2 ^ 64 - 1))])
    ∧ (y ≠ 0 → nat = 1 → Delivers s g (.div g d a b nat) id [(18, .reg (.s d) (x.toNat / y.toNat))])
    ∧ (y ≠ 0 → nat = 0 → Delivers s g (.div g d a b nat) id [(18, .reg (.s d) (BitVec.ofInt 64 (x.toInt.tdiv y.toInt)).toNat)])
    ∧ (less y x → Delivers s g (.minOp g d a b nat) id [(1, .reg (.s d) y.toNat)])
    ∧ (¬ less y x → Delivers s g (.minOp g d a b nat) id [(1, .reg (.s d) x.toNat)])
    ∧ (less x y → Delivers s g (.maxOp g d a b nat) id [(1, .reg (.s d) y.toNat)])
    ∧ (¬ less x y → Delivers s g (.maxOp g d a b nat) id [(1, .reg (.s d) x.toNat)])
    ∧ Delivers s g (.adc g d a b ci co) id
        [ (1, .reg (.s d) ((x.toNat + y.toNat + carry) % 2 ^ 64))
        , (1, .reg (.p co) (if 2 ^ 64 ≤ x.toNat + y.toNat + carry then 1 else 0)) ]
    ∧ Delivers s g (.sbb g d a b ci co) id
        [ (1, .reg (.s d) (((x.toNat : Int) - y.toNat - carry) % 2 ^ 64).toNat)
        , (1, .reg (.p co) (if (x.toNat : Int) - y.toNat - carry < 0 then 1 else 0)) ]

/-- SHL, SHR, SAR, CLZ, POPC, LI, LIH and SEL: results one cycle after issue (R302; R328; R343; R348; R350; R63). -/
def Obligations.ScalarShiftsBitsAndConstants : Prop :=
  ∀ (s : State) (g : Guard) (d a b imm p n : Nat),
    let c := s.hereCore
    let x := c.s a
    let i32 : DWord := (BitVec.ofNat 32 imm).signExtend 64
    Delivers s g (.shl g d a b) id [(1, .reg (.s d) (x <<< ((c.s b).toNat % 64)).toNat)]
    ∧ Delivers s g (.shlImm g d a imm) id [(1, .reg (.s d) (x <<< (i32.toNat % 64)).toNat)]
    ∧ Delivers s g (.shr g d a b) id [(1, .reg (.s d) (x >>> ((c.s b).toNat % 64)).toNat)]
    ∧ Delivers s g (.shrImm g d a imm) id [(1, .reg (.s d) (x >>> (i32.toNat % 64)).toNat)]
    ∧ Delivers s g (.sar g d a b) id [(1, .reg (.s d) (x.sshiftRight ((c.s b).toNat % 64)).toNat)]
    ∧ Delivers s g (.sarImm g d a imm) id [(1, .reg (.s d) (x.sshiftRight (i32.toNat % 64)).toNat)]
    ∧ (n < 64 → 2 ^ (63 - n) ≤ x.toNat → x.toNat < 2 ^ (64 - n) → Delivers s g (.clz g d a) id [(1, .reg (.s d) n)])
    ∧ (x.toNat = 0 → Delivers s g (.clz g d a) id [(1, .reg (.s d) 64)])
    ∧ Delivers s g (.popc g d a) id [(1, .reg (.s d) ((List.range 64).countP fun i => x.getLsbD i))]
    ∧ Delivers s g (.li g d imm) id [(1, .reg (.s d) i32.toNat)]
    ∧ Delivers s g (.lih g d imm) id [(1, .reg (.s d) (imm * 2 ^ 32 + (c.s d).toNat % 2 ^ 32))]
    ∧ (c.p p = true → Delivers s g (.sel g d a b p) id [(1, .reg (.s d) x.toNat)])
    ∧ (c.p p = false → Delivers s g (.sel g d a b p) id [(1, .reg (.s d) (c.s b).toNat)])

/-- CMP, PLOG and VANY: the predicate that each writes (R303; R342; R362; R61). -/
def Obligations.PredicatesWritten : Prop :=
  ∀ (s : State) (g : Guard) (d a b nat cond isImm imm pa pb tt : Nat),
    let c := s.hereCore
    let y : DWord := if isImm = 1 then (BitVec.ofNat 24 imm).signExtend 64 else c.s b
    let u : Int := if nat = 1 then ((c.s a).toNat : Int) else (c.s a).toInt
    let v : Int := if nat = 1 then (y.toNat : Int) else y.toInt
    let holds : Prop := (cond = 0 ∧ u = v) ∨ (cond = 1 ∧ u ≠ v) ∨ (cond = 2 ∧ u < v) ∨ (cond = 3 ∧ u ≤ v) ∨ (cond = 4 ∧ v < u)
      ∨ (cond = 5 ∧ v ≤ u)
    let place : Nat := (if c.p pa = true then 2 else 0) + (if c.p pb = true then 1 else 0)
    (holds → Delivers s g (.cmp g d a b nat cond isImm imm) id [(1, .reg (.p d) 1)])
    ∧ (¬ holds → Delivers s g (.cmp g d a b nat cond isImm imm) id [(1, .reg (.p d) 0)])
    ∧ (tt.testBit place = true → Delivers s g (.plog g d pa pb tt) id [(1, .reg (.p d) 1)])
    ∧ (tt.testBit place = false → Delivers s g (.plog g d pa pb tt) id [(1, .reg (.p d) 0)])
    ∧ (c.vr s.cursor.slot a ≠ 0 → Delivers s g (.vany g d a) id [(3, .reg (.p d) 1)])
    ∧ (c.vr s.cursor.slot a = 0 → Delivers s g (.vany g d a) id [(3, .reg (.p d) 0)])

/-- LDS and STS: the byte address, the bank access and its cycle (R326; R353). -/
def Obligations.ScalarLoadAndStoreIssue : Prop :=
  ∀ (s : State) (g : Guard) (d a nat size off : Nat),
    let c := s.hereCore
    let addr := ((c.s a + (BitVec.ofNat 20 off).signExtend 64).toNat % 2 ^ 20) / 2 ^ size * 2 ^ size
    Delivers s g (.lds g d a nat size off) id [(1, .lds d addr size (nat == 1))]
    ∧ Delivers s g (.sts g d a size off) id [(2, .storeBytes addr (leBytes (2 ^ size) (c.s d).toNat))]

/-- XCP in all its routes: what is copied, to which register, and after how many cycles (R48; R49; R50). -/
def Obligations.CrossCopiesIssue : Prop :=
  ∀ (s : State) (g : Guard) (f d r u j : Nat),
    let c := s.hereCore
    let sl := s.cursor.slot
    let vec : Dst := if f = 3 then .w d else .v d
    let addrReg : Dst := if u = 0 then .ia d else if u = 1 then .ib d else .im d
    (f = 1 → Delivers s g (.xcpK g f d r u) id [(2, .reg (.s d) (c.k r).toNat)])
    ∧ (f = 0 → Delivers s g (.xcpS g f d r u) id [(2, .reg (.k d) (c.s r).toNat)])
    ∧ (f = 2 ∨ f = 3 → Delivers s g (.xcpS g f d r u) id [(3, .reg vec (c.s r).toNat)])
    ∧ (f = 7 → Delivers s g (.xcpS g f d r u) id [(2, .reg addrReg ((c.s r).toNat % 2 ^ 20))])
    ∧ (f = 2 ∨ f = 3 → Delivers s g (.xcpV g f d r u) id [(3, .reg vec (c.vn sl r))])
    ∧ (f = 4 → Delivers s g (.xcpV g f d r u) id [(6, .zres d (xcpPacked c.gw (c.vn sl r)))])
    ∧ Delivers s g (.xcpVLane g f d r u j) id [(4, .reg (.s d) (c.vn sl r / 2 ^ (64 * j) % 2 ^ 64))]
    ∧ (f = 2 ∨ f = 3 → Delivers s g (.xcpM g f d r u) id [(6, .reg vec (c.z r).image.toNat)])
    ∧ (f = 1 → Delivers s g (.xcpC g f d r u) id [(2, .reg (.s d) ((c.record sl r).toNat / 2 ^ (32 * u) % 2 ^ 32))])
    ∧ (f = 5 → Delivers s g (.xcpC g f d r u) id [(2, .reg (.x d) (c.record sl r).toNat)])
    ∧ (f = 6 → Delivers s g (.xcpC g f d r u) id [(2, .reg (.y d) (c.record sl r).toNat)])

/-- NOP, WSTAT, HINV, SETFMT, TABR, KLI, KCP, TRAP and PHASE: what each puts in flight (R339; R189; R150; R351; R32; R324; R323; R248; R217). -/
def Obligations.ControlResultsIssue : Prop :=
  ∀ (s : State) (g : Guard) (kd ka dom hd val clk imm code r : Nat) (fr : Bool),
    let c := s.hereCore
    exec (.nop g) s = .next s
    ∧ (c.dom dom = .off → Delivers s g (.wstat g kd dom) id [(1, .reg (.k kd) 0)])
    ∧ (c.dom dom = .waking r fr → Delivers s g (.wstat g kd dom) id [(1, .reg (.k kd) (1 + 256 * (r % 2 ^ 56)))])
    ∧ (c.dom dom = .on → Delivers s g (.wstat g kd dom) id [(1, .reg (.k kd) 2)])
    ∧ (c.dom dom = .retained → Delivers s g (.wstat g kd dom) id [(1, .reg (.k kd) 3)])
    ∧ Delivers s g (.hinv g hd) id [(1, .handle hd Handle.invalid)]
    ∧ Delivers s g (.setfmt g ka) id [(4, .reg .fmt ((c.k ka).toNat % 4))]
    ∧ Delivers s g (.setfmtLong g val) id [(4, .reg .fmt (val % 4))]
    ∧ (clk = 0 → Delivers s g (.tabr g kd clk) id [(1, .reg (.k kd) s.here.pt)])
    ∧ (clk = 1 → Delivers s g (.tabr g kd clk) id [(1, .reg (.k kd) ((s.tabor + s.skew) % 2 ^ 64))])
    ∧ Delivers s g (.kli g kd imm) id [(1, .reg (.k kd) ((BitVec.ofNat 32 imm).signExtend 64 : DWord).toNat)]
    ∧ Delivers s g (.kcp g kd ka) id [(1, .reg (.k kd) (c.k ka).toNat)]
    ∧ Delivers s g (.trap g code) id [(1, .trap code)]
    ∧ Delivers s g (.phase g) id [(1, .phase)]

/-- VADD, VSUB, VMUL, VMIN, VMAX and VFMA: result register, latency by element type, and the lanes (R85; R86; R87; R88; R89; R90; R360; R367; R112; R64; R359). -/
def Obligations.VectorArithmeticIssue : Prop :=
  (∀ (t fmt a b c i : Nat) (m : Mods), t < 8 → i < lanes t →
    let w := laneBits t
    let x := laneValue t (lane w a i) m.aa m.na
    let y := laneValue t (lane w b i) m.ab m.nb
    let z := laneValue t (lane w c i) m.ac m.nc
    Reduced t m.clp (x + y) (lane w (vArith .add t m fmt a b) i)
    ∧ Reduced t m.clp (x - y) (lane w (vArith .sub t m fmt a b) i)
    ∧ Reduced t m.clp (x * y) (lane w (vArith .mul t m fmt a b) i)
    ∧ Reduced t m.clp (min x y) (lane w (vArith .min t m fmt a b) i)
    ∧ Reduced t m.clp (max x y) (lane w (vArith .max t m fmt a b) i)
    ∧ Reduced t m.clp (x * y + z) (lane w (vFma t m fmt a b c) i))
  ∧ (∀ (t fmt a b c i : Nat) (m : Mods), 8 ≤ t → t ≤ 10 → i < lanes t → m.rm < 4 →
    let w := laneBits t
    let f := floatFormat t
    let mode := if m.rmo = 1 then m.rm else fmt % 4
    let sc : Int := (BitVec.ofNat 4 m.sc).toInt
    let x := floatLane f (lane w a i) m.aa m.na
    let y := floatLane f (lane w b i) m.ab m.nb
    let z := floatLane f (lane w c i) m.ac m.nc
    let gives (unit : Nat) (exact : FloatLane) (r : Nat) : Prop := ∃ r0, Rounds f mode (sc - unit) exact r0 ∧ r = clampedFloat f m.clp r0
    gives f.unit (x.plus mode y) (lane w (vArith .add t m fmt a b) i)
    ∧ gives f.unit (x.plus mode y.opposite) (lane w (vArith .sub t m fmt a b) i)
    ∧ gives (2 * f.unit) (x.times y) (lane w (vArith .mul t m fmt a b) i)
    ∧ gives f.unit (x.lesser y) (lane w (vArith .min t m fmt a b) i)
    ∧ gives f.unit (x.greater y) (lane w (vArith .max t m fmt a b) i)
    ∧ gives (2 * f.unit) ((x.times y).plus mode (z.finer f.unit)) (lane w (vFma t m fmt a b c) i))
  ∧   ∀ (s : State) (g : Guard) (d a b t e na aa nb ab nc ac clp sc rm rmo : Nat),
    let c := s.hereCore
    let sl := s.cursor.slot
    let dst : Dst := if sl = 3 then .w d else .v d
    let x := c.vn sl a
    let y := c.vn sl b
    let m := Mods.two na aa nb ab clp sc rm rmo
    let lAdd := if t < 8 then 2 else 3
    let lMul := if t < 8 then 3 else 5
    Delivers s g (.vadd g d a b t) id [(lAdd, .reg dst (vArith .add t Mods.none c.rm x y))]
    ∧ Delivers s g (.vaddLong g d a b t na aa nb ab clp sc rm rmo) id [(lAdd, .reg dst (vArith .add t m c.rm x y))]
    ∧ Delivers s g (.vsub g d a b t) id [(lAdd, .reg dst (vArith .sub t Mods.none c.rm x y))]
    ∧ Delivers s g (.vsubLong g d a b t na aa nb ab clp sc rm rmo) id [(lAdd, .reg dst (vArith .sub t m c.rm x y))]
    ∧ Delivers s g (.vmul g d a b t) id [(lMul, .reg dst (vArith .mul t Mods.none c.rm x y))]
    ∧ Delivers s g (.vmulLong g d a b t na aa nb ab clp sc rm rmo) id [(lMul, .reg dst (vArith .mul t m c.rm x y))]
    ∧ Delivers s g (.vmin g d a b t) id [(2, .reg dst (vArith .min t Mods.none c.rm x y))]
    ∧ Delivers s g (.vminLong g d a b t na aa nb ab clp sc rm rmo) id [(2, .reg dst (vArith .min t m c.rm x y))]
    ∧ Delivers s g (.vmax g d a b t) id [(2, .reg dst (vArith .max t Mods.none c.rm x y))]
    ∧ Delivers s g (.vmaxLong g d a b t na aa nb ab clp sc rm rmo) id [(2, .reg dst (vArith .max t m c.rm x y))]
    ∧ Delivers s g (.vfma g d a b t e na aa nb ab nc ac clp sc rm rmo) id
        [(5, .reg dst (vFma t ⟨na, aa, nb, ab, nc, ac, clp, sc, rm, rmo⟩ c.rm x y (c.vn sl e)))]

/-- VAND, VOR, VXOR, shifts, VCMP, VSEL, VPERM, VBCAST, VIOTA, VLI, VRNG and VPOPC: results and latencies (R361; R376; R364; R377; R372; R363; R368; R371; R66; R373; R90; R61). -/
def Obligations.VectorBitsAndLanesIssue : Prop :=
  (∀ (t cond a b i na aa nb ab : Nat), 8 ≤ t → t ≤ 10 → i < lanes t →
    let w := laneBits t
    let f := floatFormat t
    let x := floatLane f (lane w a i) aa na
    let y := floatLane f (lane w b i) ab nb
    let cmp := lane w (vCmp t cond (Mods.two na aa nb ab 0 0 0 0) a b) i
    let unordered : Prop := x = .nan ∨ y = .nan
    let less (u v : FloatLane) : Prop := u.below v = true ∧ ¬ u.same v
    let holds : Prop := (cond = 0 ∧ x.same y) ∨ (cond = 1 ∧ ¬ x.same y) ∨ (cond = 2 ∧ less x y) ∨ (cond = 3 ∧ (less x y ∨ x.same y))
      ∨ (cond = 4 ∧ less y x) ∨ (cond = 5 ∧ (less y x ∨ x.same y)) ∨ (cond = 6 ∧ unordered)
    (cond ≤ 6 → holds → cmp = 2 ^ w - 1) ∧ (cond ≤ 6 → ¬ holds → cmp = 0)
    ∧ floatLane f (lane w (vIota t) i) 0 0 = .num false (i * 2 ^ f.unit))
  ∧ (∀ (t cond a b c i j imm na aa nb ab : Nat), i < lanes t →
    let w := laneBits t
    let x := laneValue t (lane w a i) aa na
    let y := laneValue t (lane w b i) ab nb
    let cmp := lane w (vCmp t cond (Mods.two na aa nb ab 0 0 0 0) a b) i
    let holds : Prop := (cond = 0 ∧ x = y) ∨ (cond = 1 ∧ x ≠ y) ∨ (cond = 2 ∧ x < y) ∨ (cond = 3 ∧ x ≤ y) ∨ (cond = 4 ∧ y < x)
      ∨ (cond = 5 ∧ y ≤ x)
    (t < 8 → holds → cmp = 2 ^ w - 1) ∧ (t < 8 → ¬ holds → cmp = 0)
    ∧ (lane w c i ≠ 0 → lane w (vSel t a b c) i = lane w a i) ∧ (lane w c i = 0 → lane w (vSel t a b c) i = lane w b i)
    ∧ lane w (vPerm t a b) i = lane w a (lane w b i % lanes t)
    ∧ lane w (vBcast t j a) i = lane w a j
    ∧ (t < 8 → lane w (vIota t) i = i % 2 ^ w)
    ∧ (t = 3 → lane w (vLi t imm) i = ((BitVec.ofNat 32 imm).signExtend 64).toNat) ∧ (t ≠ 3 → lane w (vLi t imm) i = imm % 2 ^ w)
    ∧ lane w (vPopc t a) i = (List.range w).countP fun k => (lane w a i).testBit k)
  ∧   ∀ (s : State) (g : Guard) (d a b e t na aa nb ab cond j imm : Nat),
    let c := s.hereCore
    let sl := s.cursor.slot
    let dst : Dst := if sl = 3 then .w d else .v d
    let x := c.vn sl a
    let y := c.vn sl b
    Delivers s g (.vand g d a b t) id [(2, .reg dst (x &&& y))]
    ∧ Delivers s g (.vor g d a b t) id [(2, .reg dst (x ||| y))]
    ∧ Delivers s g (.vxor g d a b t) id [(2, .reg dst (x ^^^ y))]
    ∧ Delivers s g (.vshl g d a b t) id [(2, .reg dst (vShl t x y))]
    ∧ Delivers s g (.vshr g d a b t) id [(2, .reg dst (vShr t x y))]
    ∧ Delivers s g (.vsar g d a b t) id [(2, .reg dst (vSar t x y))]
    ∧ Delivers s g (.vcmp g d a b t na aa nb ab cond) id [(2, .reg dst (vCmp t cond (Mods.two na aa nb ab 0 0 0 0) x y))]
    ∧ Delivers s g (.vsel g d a b t e) id [(2, .reg dst (vSel t x y (c.vn sl e)))]
    ∧ Delivers s g (.vperm g d a b t) id [(4, .reg dst (vPerm t x y))]
    ∧ Delivers s g (.vbcast g d a t) id [(2, .reg dst (vBcast t 0 x))]
    ∧ Delivers s g (.vbcastLong g d a t j) id [(2, .reg dst (vBcast t j x))]
    ∧ Delivers s g (.viota g d t) id [(1, .reg dst (vIota t))]
    ∧ Delivers s g (.vli g d t imm) id [(1, .reg dst (vLi t imm))]
    ∧ Delivers s g (.vrng g d a b t) id [(6, .reg dst (vRng x y))]
    ∧ Delivers s g (.vpopc g d a t) id [(3, .reg dst (vPopc t x))]

/-- VCVT, VRCP, VRSQ, VEXP, VLOG, VSUM and VRMAX: results, lane by lane, and latencies (R85; R91; R93; R94; R109; R365; R366; R374; R96; R112;
R89). Of other operands of VEXP and VLOG, whose results are irrational, the statement says that the result lies between those of the two
whole exponents about it (notes/assumptions/6). -/
def Obligations.VectorFunctionsAndReductionsIssue : Prop :=
  (∀ (t dc fmt a i : Nat) (m : Mods), t < 8 →
    let w := laneBits t
    let value (k : Nat) : Int := laneValue t (lane w a k) m.aa m.na
    Reduced t m.clp ((List.range (lanes t)).foldl (fun (r : Int) k => r + value k) 0) (vSum t m fmt a)
    ∧ vSum t m fmt a < 2 ^ w
    ∧ (∃ k, k < lanes t ∧ (∀ l, l < lanes t → value l ≤ value k) ∧ (vRmax t m a : Int) = value k % 2 ^ w)
    ∧ (dc < 8 → i < lanes dc → i < lanes t → Reduced dc m.clp (value i) (lane (laneBits dc) (vCvt t dc m fmt a) i)))

  ∧ (∀ (t dc fmt a i : Nat) (m : Mods), t ≤ 10 → dc ≤ 10 → m.rm < 4 → i < lanes t → i < lanes dc →
    let mode := if m.rmo = 1 then m.rm else fmt % 4
    let sc : Int := (BitVec.ofNat 4 m.sc).toInt
    let f := floatFormat t
    let fd := floatFormat dc
    let v := lane (laneBits t) a i
    let whole := laneValue t v m.aa m.na
    let y := lane (laneBits dc) (vCvt t dc m fmt a) i
    (t < 8 → 8 ≤ dc → ∃ r, Rounds fd mode sc (.num (decide (whole < 0)) whole.natAbs) r ∧ y = clampedFloat fd m.clp r)
    ∧ (8 ≤ t → 8 ≤ dc → ∃ r, Rounds fd mode (sc - f.unit) (floatLane f v m.aa m.na) r ∧ y = clampedFloat fd m.clp r)
    ∧ (8 ≤ t → dc < 8 → match floatLane f v m.aa m.na with
        | .nan => y = 0
        | .inf neg => ∀ k : Nat, 2 ^ laneBits dc ≤ k → Reduced dc 1 (signedMag neg k) y
        | .num neg n => ∃ k, RoundsWhole mode neg n (sc - f.unit) k ∧ Reduced dc 1 (signedMag neg k) y))
  ∧ (∀ (t dc fmt a i : Nat) (m : Mods), lanes t ≤ i → i < lanes dc → lane (laneBits dc) (vCvt t dc m fmt a) i = 0)
  ∧ (∀ (t fmt a : Nat) (m : Mods), 8 ≤ t → t ≤ 10 → m.rm < 4 →
    let mode := if m.rmo = 1 then m.rm else fmt % 4
    let sc : Int := (BitVec.ofNat 4 m.sc).toInt
    let f := floatFormat t
    let x (k : Nat) : FloatLane := floatLane f (lane (laneBits t) a k) m.aa m.na
    (∃ e : Nat → Nat → FloatLane, (∀ k, e 0 k = x k)
      ∧ (∀ l k, 2 ^ (l + 2) ≤ lanes t → 2 ^ (l + 1) * (k + 1) ≤ lanes t →
          ∃ r, Rounds f mode (-(f.unit : Int)) ((e l (2 * k)).plus mode (e l (2 * k + 1))) r ∧ e (l + 1) k = floatLane f r 0 0)
      ∧ ∀ l, 2 ^ (l + 1) = lanes t →
          ∃ r, Rounds f mode (sc - f.unit) ((e l 0).plus mode (e l 1)) r ∧ vSum t m fmt a = clampedFloat f m.clp r)
    ∧ ((∃ k, k < lanes t ∧ x k = .nan) → vRmax t m a = f.nan)
    ∧ ((∀ k, k < lanes t → x k ≠ .nan) →
        ∃ k, k < lanes t ∧ (∀ l, l < lanes t → (x k).below (x l) = false) ∧ Rounds f 0 (-(f.unit : Int)) (x k) (vRmax t m a)))
  ∧ (∀ (t fmt a i : Nat) (m : Mods), 8 ≤ t → t ≤ 10 → m.rm < 4 → i < lanes t →
    let mode := if m.rmo = 1 then m.rm else fmt % 4
    let sc : Int := (BitVec.ofNat 4 m.sc).toInt
    let f := floatFormat t
    let f32 := floatFormat 10
    let u := f.unit
    let res (fn : Func) : Nat := lane (laneBits t) (vFunc fn t m fmt a) i
    let gives (fn : Func) (e : Int) (z : FloatLane) : Prop := ∃ r, Handed t mode e z r ∧ res fn = clampedFloat f m.clp r
    let amid (fn : Func) (e e1 : Int) (z z1 : FloatLane) : Prop :=
      ∃ r lo hi, Handed t mode e z lo ∧ Handed t mode e1 z1 hi ∧ lo ≤ r ∧ r ≤ hi ∧ res fn = clampedFloat f m.clp r
    match floatLane f (lane (laneBits t) a i) m.aa m.na with
    | .nan => gives .rcp sc .nan ∧ gives .rsq sc .nan ∧ gives .exp sc .nan ∧ gives .log sc .nan
    | .inf neg => gives .rcp sc (.num neg 0) ∧ gives .rsq sc (if neg then .nan else .num false 0)
        ∧ gives .exp sc (if neg then .num false 0 else .inf false) ∧ gives .log sc (if neg then .nan else .inf false)
    | .num neg n =>
      let exponent : Int := signedMag neg n / 2 ^ u
      (n = 0 → gives .rcp sc (.inf neg) ∧ gives .rsq sc (.inf neg) ∧ gives .exp sc (.num false 1) ∧ gives .log sc (.inf true))
      ∧ (n ≠ 0 → ∃ r, RoundsTo f mode neg (fun q => 2 ^ (2 * u + 1 + sc).toNat < q * n) (fun q => q * n < 2 ^ (2 * u + 1 + sc).toNat) r
          ∧ res .rcp = clampedFloat f m.clp r)
      ∧ (n ≠ 0 → neg = true → gives .rsq sc .nan ∧ gives .log sc .nan)
      ∧ (n ≠ 0 → neg = false → t = 10 → ∃ r,
          RoundsTo f mode false (fun q => 2 ^ (3 * u + 2 + 2 * sc).toNat < q * q * n) (fun q => q * q * n < 2 ^ (3 * u + 2 + 2 * sc).toNat) r
          ∧ res .rsq = clampedFloat f m.clp r)
      ∧ (n ≠ 0 → neg = false → t ≠ 10 → ∃ r1 r,
          let one : Nat := 2 ^ (2 * f32.unit + u + 2 + 2 * sc).toNat
          RoundsTo f32 0 false (fun q => one < q * q * n) (fun q => q * q * n < one) r1
          ∧ Rounds f mode (-(f32.unit : Int)) (floatLane f32 r1 0 0) r ∧ res .rsq = clampedFloat f m.clp r)
      ∧ (n ≠ 0 → n % 2 ^ u = 0 → gives .exp (exponent + sc) (.num false 1))
      ∧ (n % 2 ^ u ≠ 0 → amid .exp (exponent + sc) (exponent + 1 + sc) (.num false 1) (.num false 1))
      ∧ (∀ k, neg = false → n = 2 ^ k → gives .log sc (.num (decide (k < u)) (if k < u then u - k else k - u)))
      ∧ (∀ k, neg = false → 2 ^ k < n → n < 2 ^ (k + 1) →
          if k < u then amid .log sc sc (.num true (u - k - 1)) (.num true (u - k))
          else amid .log sc sc (.num false (k - u)) (.num false (k + 1 - u))))
  ∧ (∀ (t mb a : Nat) (m : Mods), 9 ≤ t → t ≤ 10 → 2 ≤ mb → mb ≤ 8 →
    let f := floatFormat t
    let x (k : Nat) : FloatLane := floatLane f (lane (laneBits t) a k) m.aa m.na
    let block := toBlock mb (blockSource t m a)
    let special : Prop := ∃ k, k < 32 ∧ ∀ neg n, x k ≠ .num neg n
    (block = none ↔ special)
    ∧ (∀ val, block = some val →
        let mant (j : Nat) : Int := (BitVec.ofNat mb (val / 2 ^ (8 + mb * j))).toInt
        val < 2 ^ (8 + 32 * mb)
        ∧ ((∀ k, k < 32 → ∃ neg, x k = .num neg 0) → val = 0)
        ∧ ∀ h : Nat, (∃ k neg n, k < 32 ∧ x k = .num neg n ∧ 2 ^ h ≤ n) → (∀ k neg n, k < 32 → x k = .num neg n → n < 2 ^ (h + 1)) →
            let e : Int := max 0 (127 + ((h : Int) - f.unit) - ((mb : Int) - 2))
            ((val % 256 : Nat) : Int) = e
            ∧ ∀ j neg n, j < 32 → x j = .num neg n →
                ∃ r, RoundsWhole 0 neg n (127 - e - f.unit) r ∧ mant j = max (-(2 ^ (mb - 1) : Int)) (min (2 ^ (mb - 1) - 1) (signedMag neg r))))
  ∧   ∀ (s : State) (g : Guard) (d a t na aa clp sc rm rmo dc val : Nat),
    let c := s.hereCore
    let sl := s.cursor.slot
    let dst : Dst := if sl = 3 then .w d else .v d
    let x := c.vn sl a
    let m := Mods.one na aa clp sc rm rmo
    (dc < 16 → Delivers s g (.vcvt g d a t na aa clp sc rm rmo dc) id [(3, .reg dst (vCvt t dc m c.rm x))])
    ∧ (16 ≤ dc → toBlock (dc - 14) (blockSource t m x) = some val →
        Delivers s g (.vcvt g d a t na aa clp sc rm rmo dc) id [(3, .vcvtBlock (sl == 3) d val none)])
    ∧ (16 ≤ dc → toBlock (dc - 14) (blockSource t m x) = none →
        Delivers s g (.vcvt g d a t na aa clp sc rm rmo dc) id [(3, .vcvtBlock (sl == 3) d 0 (some ⟨0x42, 0⟩))])
    ∧ Delivers s g (.vrcp g d a t) id [(8, .reg dst (vFunc .rcp t Mods.none c.rm x))]
    ∧ Delivers s g (.vrcpLong g d a t na aa clp sc rm rmo) id [(8, .reg dst (vFunc .rcp t m c.rm x))]
    ∧ Delivers s g (.vrsq g d a t) id [(8, .reg dst (vFunc .rsq t Mods.none c.rm x))]
    ∧ Delivers s g (.vrsqLong g d a t na aa clp sc rm rmo) id [(8, .reg dst (vFunc .rsq t m c.rm x))]
    ∧ Delivers s g (.vexp g d a t) id [(8, .reg dst (vFunc .exp t Mods.none c.rm x))]
    ∧ Delivers s g (.vexpLong g d a t na aa clp sc rm rmo) id [(8, .reg dst (vFunc .exp t m c.rm x))]
    ∧ Delivers s g (.vlog g d a t) id [(8, .reg dst (vFunc .log t Mods.none c.rm x))]
    ∧ Delivers s g (.vlogLong g d a t na aa clp sc rm rmo) id [(8, .reg dst (vFunc .log t m c.rm x))]
    ∧ Delivers s g (.vsum g d a t) id [(7, .reg dst (vSum t Mods.none c.rm x))]
    ∧ Delivers s g (.vsumLong g d a t na aa clp sc rm rmo) id [(7, .reg dst (vSum t m c.rm x))]
    ∧ Delivers s g (.vrmax g d a t) id [(5, .reg dst (vRmax t Mods.none x))]
    ∧ Delivers s g (.vrmaxLong g d a t na aa) id [(5, .reg dst (vRmax t (Mods.one na aa 0 0 0 0) x))]

/-- VLD and VST: the line, the cycle of the bank access, and the step of the offset (R103; R369; R43; R66). -/
def Obligations.LineLoadsAndStoresIssue : Prop :=
  ∀ (s : State) (g : Guard) (r ar off step : Nat),
    let c := s.hereCore
    let sl := s.cursor.slot
    let st := c.slot sl
    let base : Nat := (if sl = 3 then c.ib ar else c.ia ar) / 256
    let line : Nat := (((base : Int) + (BitVec.ofNat 11 off).toInt + (st.adv1 : Int)) % 4096).toNat
    let next (n : Nat) (x : Sticky) : Sticky :=
      { x with adv1 := (((x.adv1 : Int) + (BitVec.ofNat 12 n).toInt) % 4096).toNat, adv2 := x.adv2 % 512 }
    Delivers s g (.vld g r ar off) (next 0) [(1, .vld (sl == 3) r line)]
    ∧ Delivers s g (.vldLong g r ar off step) (next step) [(1, .vld (sl == 3) r line)]
    ∧ Delivers s g (.vst g r ar off) (next 0) [(3, .storeLine line (c.vr sl r))]
    ∧ Delivers s g (.vstLong g r ar off step) (next step) [(3, .storeLine line (c.vr sl r))]

/-- MGW, MGREQ, MPACK and MLDB: guard and pack widths, the line reads of packing, and the packed operand with its checks (R158; R159; R161; R162; R164; R168; R334; R337). -/
def Obligations.PackingIssue : Prop :=
  (∀ (g m n start stride x source lane : Nat) (rev : Bool), 0 < g → 0 < n → 0 < stride →
    let blocks := (n + 31) / 32
    let e (b : Nat) : Nat := x / 2 ^ (8 * (b * (1 + 4 * m))) % 256
    let mant (j : Nat) : Int := (BitVec.ofNat m (x / 2 ^ (8 * (j / 32 * (1 + 4 * m) + 1) + m * (j % 32)))).toInt
    let part (b : Nat) : Prop := ∃ j, j < n ∧ j / 32 = b ∧ mant j ≠ 0
    let place (j : Nat) : Nat := start + (if rev then n - 1 - j else j) * stride
    let z := packValue g m n start stride rev x
    let f (j : Nat) : Int := mant j * 2 ^ ((e (j / 32) : Int) - 127 - z.exp.toInt).toNat
    let held (k : Nat) : Int := (BitVec.ofNat g (z.image.toNat / 2 ^ (g * k))).toInt
    let check := packFault g m n start stride x source lane
    let small : Prop := 2 ≤ m ∧ m ≤ 8 ∧ blocks * (1 + 4 * m) ≤ 256
    let finite : Prop := ∀ b, b < blocks → e b ≠ 255
    (m < 2 ∨ 8 < m → check = some ⟨0x42, 1⟩)
    ∧ (2 ≤ m → m ≤ 8 → 256 < blocks * (1 + 4 * m) → check = some ⟨0x42, 2⟩)
    ∧ (small → ¬ finite → check = some ⟨0x42, 3⟩)
    ∧ (small → finite → 2048 / g ≤ start + (n - 1) * stride → check = some ⟨0x42, 4⟩)
    ∧ (small → finite → start + (n - 1) * stride < 2048 / g → (∃ j, j < n ∧ (f j < -(2 ^ (g - 1)) ∨ 2 ^ (g - 1) ≤ f j)) →
        ∃ d, check = some ⟨0x40, d⟩)
    ∧ (small → finite → start + (n - 1) * stride < 2048 / g → (∀ j, j < n → -(2 ^ (g - 1)) ≤ f j ∧ f j < 2 ^ (g - 1)) →
        check = none ∧ z.count = n ∧ (∀ j, j < n → held (place j) = f j ∧ (f j).natAbs ≤ z.bound)
        ∧ (∀ k, k < 2048 / g → (∀ j, j < n → place j ≠ k) → held k = 0)
        ∧ (z.bound = 0 ∨ ∃ j, j < n ∧ (f j).natAbs = z.bound)
        ∧ ((∀ b, ¬ part b) → z.exp.toInt = 0)
        ∧ (∀ b, part b → z.exp.toInt ≤ (e b : Int) - 127) ∧ ((∃ b, part b) → ∃ b, part b ∧ z.exp.toInt = (e b : Int) - 127)))
  ∧ (∀ g m, mldbCount g m = min (2048 / g) (32 * (256 / (1 + 4 * m))))
  ∧   ∀ (s : State) (g : Guard) (z im off n rev str start step lane entry lstep estep gw ma mb : Nat),
    let c := s.hereCore
    let st := c.slot s.cursor.slot
    let line (o : Nat) : Nat := (((c.im im / 256 : Nat) : Int) + (BitVec.ofNat 13 o).toInt + (st.adv1 : Int)) % 4096 |>.toNat
    let bound := 2 ^ (ma - 1) * 2 ^ (mb - 1) * n
    let next (u : Nat) (i j : Int) (x : Sticky) : Sticky :=
      { x with adv1 := (((x.adv1 : Int) + i) % 4096).toNat, adv2 := (((x.adv2 : Int) + j) % u).toNat }
    Delivers s g (.mgw g gw) id [(1, .reg .g gw)]
    ∧ (0 < bound → ∃ w, Delivers s g (.mgreq g ma mb n) id [(1, .reg .g w), (1, .reg .wa ma), (1, .reg .wb mb)]
        ∧ 6 ≤ w ∧ bound < 2 ^ (w - 1) ∧ ∀ v, 6 ≤ v → bound < 2 ^ (v - 1) → w ≤ v)
    ∧ Delivers s g (.mpack g z im off n rev str start step) (next 512 (BitVec.ofNat 11 step).toInt 0)
        [(1, .mpackRead z (line off) c.gw c.wa.toNat n (str + 1) start (rev == 1))]
    ∧ Delivers s g (.mldb g lane entry im) id [(1, .mldbRead lane ((entry + st.adv2) % 512) (line 0) c.gw c.wb.toNat)]
    ∧ Delivers s g (.mldbLong g lane entry im off lstep estep) (next 512 (BitVec.ofNat 9 lstep).toInt (BitVec.ofNat 9 estep).toInt)
        [(1, .mldbRead lane ((entry + st.adv2) % 512) (line off) c.gw c.wb.toNat)]

/-- MMUL, MMAC, MCLR, MNEG and MSHR: product, cycles, and what a multiply does to its lane (R165; R166; R174; R177; R168). -/
def Obligations.MultipliesIssue : Prop :=
  ∀ (s : State) (g : Guard) (q z e k : Nat),
    let c := s.hereCore
    let pt := s.here.pt
    let sl := s.cursor.slot
    let x := c.z z
    let y := c.entryOf q e
    let w := c.gw
    let p := polyValue w x.image * polyValue w y.image
    let pe := x.exp.toInt + y.exp.toInt
    let bp := x.bound * y.bound * min x.count y.count
    let lane (u : Core) : Core :=
      { u with lastMul := tput u.lastMul q pt, notices := u.notices.filter fun n => !(n.1 == q && decide (n.2 < pt)) }
    let acc := c.q q
    Changes s g (.mmul g q z e) id (fun u => (lane u).issue pt sl [(16, .mulRes q w p pe bp)])
    ∧ Changes s g (.mmac g q z e) id (fun u => (lane u).issue pt sl [(15, .mulRead q w true p pe bp)])
    ∧ Delivers s g (.mclr g q) id [(1, .acc q ⟨0, 0, 0⟩)]
    ∧ (acc.q.toInt ≠ -(2 ^ 4223) → Delivers s g (.mneg g q) id [(4, .accChecked q { acc with q := -acc.q } none)])
    ∧ (acc.q.toInt = -(2 ^ 4223) → Delivers s g (.mneg g q) id [(4, .accChecked q { acc with q := -acc.q } (some ⟨0x41, q⟩))])
    ∧ (acc.q.toInt % 2 ^ (w * k) = 0 → Delivers s g (.mshr g q k) id
        [(4, .accChecked q { acc with q := BitVec.ofInt 4224 (acc.q.toInt / 2 ^ (w * k)) } none)])
    ∧ (acc.q.toInt % 2 ^ (w * k) ≠ 0 → Delivers s g (.mshr g q k) id
        [(4, .accChecked q { acc with q := BitVec.ofInt 4224 (acc.q.toInt / 2 ^ (w * k)) } (some ⟨0x42, 6⟩))])

/-- MEXT, MCVT, MLDQ and MSTQ: the coefficients of balanced extraction, the lines that each writes or reads, and their cycles (R97; R171; R172; R173; R175; R332; R335). -/
def Obligations.ExtractionIssue : Prop :=
  ∀ (s : State) (g : Guard) (q im first count wide off : Nat) (v co : Nat → Int),
    let c := s.hereCore
    let line (o k : Nat) : Nat := ((((c.im im / 256 : Nat) : Int) + (BitVec.ofNat 13 o).toInt) % 4096 + k).toNat % 4096
    let size := if wide = 1 then 8 else 4
    let linesOf (size : Nat) (x : Nat → Nat) : List (List Byte) := (List.range ((count + (256 / size - 1)) / (256 / size))).map fun k =>
      ((List.range (min (256 / size) (count - k * (256 / size)))).map fun j => leBytes size (x (k * (256 / size) + j))).flatten
    let extraction : Prop := v 0 = (c.q q).q.toInt ∧ ∀ f, co f = (BitVec.ofInt c.gw (v f)).toInt ∧ v f = co f + 2 ^ c.gw * v (f + 1)
    let narrow (j : Nat) : Prop := -(2 ^ 31 : Int) ≤ co (first + j) ∧ co (first + j) < (2 ^ 31 : Int)
    let image : Nat := (c.q q).q.toNat + (c.q q).qe.toNat * 2 ^ 4224 + (c.q q).bq % 2 ^ 64 * 2 ^ 4288
    let store (o : Nat) : List (Nat × Eff) := (List.range 3).map fun k => (10 + k, .storeBytes (256 * line o k) (leBytes 256 (image / 2 ^ (2048 * k))))
    let load (o : Nat) : List (Nat × Eff) :=
      [(1, .mldqRead q 0 (line o 0)), (2, .mldqRead q 1 (line o 1)), (3, .mldqRead q 2 (line o 2)), (12, .mldq q c.gw)]
    (extraction → (wide = 1 ∨ ∀ j, j < count → narrow j) → Delivers s g (.mext g q im first count wide off) id
        ((linesOf size fun j => (co (first + j) % 2 ^ (8 * size)).toNat).zipIdx.map fun e => (10 + e.2, .mext (256 * line off e.2) e.1)))
    ∧ (extraction → wide ≠ 1 → ∀ j, j < count → ¬ narrow j → (∀ k, k < j → narrow k) →
        Delivers s g (.mext g q im first count wide off) id [(10, .mextFault (5 + 256 * (first + j)))])
    ∧ (extraction → ∃ r : Nat → Nat,
        (∀ j, j < count → Rounds (floatFormat 10) 0 (c.q q).qe.toInt (.num (decide (co (first + j) < 0)) (co (first + j)).natAbs) (r j))
        ∧ Delivers s g (.mcvt g q im first count off) id
            ((linesOf 4 r).zipIdx.map fun e => (8 + e.2, .storeBytes (256 * line off e.2) e.1)))
    ∧ Delivers s g (.mldq g q im) id (load 0)
    ∧ Delivers s g (.mldqLong g q im off) id (load off)
    ∧ Delivers s g (.mstq g q im) id (store 0)
    ∧ Delivers s g (.mstqLong g q im off) id (store off)

/-- CPY, CPYX, RLD and RSET: the reads that each makes, the lines they concern, and the steps (R304; R305; R345; R347; R43). -/
def Obligations.CopiesAndRecordsIssue : Prop :=
  ∀ (s : State) (g : Guard) (core sstep dstep src dst cnt r line idx fld val : Nat),
    let c := s.hereCore
    let sl := s.cursor.slot
    let st := c.slot sl
    let next (i j : Int) (x : Sticky) : Sticky :=
      { x with adv1 := (((x.adv1 : Int) + i) % 4096).toNat, adv2 := (((x.adv2 : Int) + j) % 4096).toNat }
    Delivers s g (.cpy g sstep dstep src dst cnt) (next (BitVec.ofNat 7 sstep).toInt (BitVec.ofNat 7 dstep).toInt)
      ((List.range (cnt + 1)).map fun k => (1 + k, .cpyRead ((src + st.adv1 + k) % 4096) ((dst + st.adv2 + k) % 4096)))
    ∧ Delivers s g (.cpyx g core sstep dstep src dst cnt) (next (BitVec.ofNat 5 sstep).toInt (BitVec.ofNat 5 dstep).toInt)
      ((List.range (cnt + 1)).map fun k => (1 + k, .cpyxRead core ((src + st.adv1 + k) % 4096) ((dst + st.adv2 + k) % 4096)))
    ∧ Delivers s g (.rld g r line idx) id [(1, .rld (sl == 6) r line idx)]
    ∧ Delivers s g (.rset g r fld val) id [(1, .rset (sl == 6) r fld val)]

/-- BR, CALL and RET set the target after two delay bundles; TRANSFER_TAKES_EFFECT goes there; YIELD and END leave (R45; R56; R114; R115; R300; R344; R234; R250; R121). -/
def Obligations.TransfersOfControl : Prop :=
  ∀ (s : State) (g : Guard) (off vf v : Nat) (a : Int) (r : List Int),
    let c := s.hereCore
    let target : Int := c.cur + (BitVec.ofNat 19 off).toInt
    Changes s g (.br g off) id (fun u => { u with pending := some (target, 2) })
    ∧ Changes s g (.call g off) id (fun u => { u with pending := some (target, 2), rstack := c.afterBundles 2 c.next :: c.rstack })
    ∧ (c.rstack = a :: r → Changes s g (.ret g) id (fun u => { u with pending := some (a, 2), rstack := r }))
    ∧ ((s.core vf v).pending = some (a, 0) →
        exec (.transferTakesEffect vf v) s = .next (s.onCore vf v fun u => { u with next := a, pending := none }))
    ∧ ((s.here.clampOn = true ∨ c.clamp ≠ none) → Changes s g (.yieldOp g) id (fun u => { u with leaving := some .parked, parkAt := c.next }))
    ∧ (s.here.clampOn = false → c.clamp = none → Changes s g (.yieldOp g) id (fun u => u))
    ∧ (c.clamp = none → Changes s g (.endOp g) id (fun u => { u with leaving := some .ended }))
    ∧ (c.clamp ≠ none → Changes s g (.endOp g) id (fun u => { u with leaving := some .parked, parkAt := c.cur }))

/-- LOOP enters or skips its body, and LOOP_PASS_END repeats or leaves it, also under CLAMP (R116; R117; R119; R120; R121; R241). The model's
choices: LOOP's clamp writes k[KN] in its issue cycle, as the rules give that write no latency (assumption 87); an uncorrectable error in
k[KI] or k[KN] at the end of a pass puts 0x60 in flight for the next cycle in place of the test and ends the loop (assumption 22). -/
def Obligations.LoopsEnteredAndRepeated : Prop :=
  ∀ (s : State) (g : Guard) (kn ki body stages cl res vf v : Nat) (l : Loop),
    let c := s.hereCore
    let i := Instr.loop g kn ki body stages cl res
    let lim := (c.k ki).toNat + stages - 1
    let after := c.afterBundles body c.next
    let label : Int := c.cur + (BitVec.ofNat 31 res).toInt
    let new : Loop := ⟨c.next, after, body, stages, kn, ki, cl == 1, label, 0⟩
    let u := s.core vf v
    let p := s.part vf
    let n := (u.k l.ki).toNat + 1
    let bound := n % 2 ^ 64 + l.stages - 1
    let last := u.kAt (p.pt + 1) l.kn
    let bump (w : Core) : Core := w.sched ⟨p.pt + 1, p.pt, 7, u.cur, .reg (.k l.ki) (n % 2 ^ 64)⟩
    let error : Prop := (4, 64 + l.ki) ∈ u.bad ∨ (4, 64 + l.kn) ∈ u.bad
    let ends : Prop := u.loop = some l ∧ l.body ≤ l.done
    (executes s g i = true → (cl = 0 ∨ (c.clamp = none ∧ s.here.clampOn = false)) → lim < (c.k kn).toNat →
        exec i s = .next (s.issued i id fun w => { w with loop := some new }))
    ∧ (executes s g i = true → (cl = 0 ∨ c.clamp = none) → (c.k kn).toNat ≤ lim →
        exec i s = .next (s.issued i id fun w => { w with next := after }))
    ∧ (executes s g i = true → cl = 1 → c.clamp ≠ none → exec i s = .next (s.issued i id fun w => { w with leaving := some .parked, parkAt := c.cur }))
    ∧ (executes s g i = true → c.clamp = none → s.here.clampOn = true → cl = 1 → lim < (c.k kn).toNat → kn < 12 → 1 ≤ stages →
        exec i s = .next (s.issued i id fun w =>
          { w.put (.k kn) lim with clamp := some ⟨label, BitVec.ofNat 64 lim, c.k kn, ki, kn⟩, next := after }))
    ∧ (ends → ¬ error → (p.clampOn = false ∨ l.cl = false) → bound < last →
        exec (.loopPassEnd vf v) s = .next (s.onCore vf v fun w => { bump w with next := l.start, loop := some { l with done := 0 } }))
    ∧ (ends → ¬ error → last ≤ bound →
        exec (.loopPassEnd vf v) s = .next (s.onCore vf v fun w => { bump w with next := l.after, loop := none }))
    ∧ (ends → ¬ error → p.clampOn = true → l.cl = true → bound < last →
        exec (.loopPassEnd vf v) s = .next (s.onCore vf v fun w =>
          { (bump w).sched ⟨p.pt + 1, p.pt, 7, u.cur, .reg (.k l.kn) bound⟩ with
            clamp := some ⟨l.res, BitVec.ofNat 64 bound, BitVec.ofNat 64 last, l.ki, l.kn⟩, next := l.after, loop := none }))
    ∧ (ends → error → ∃ r, (r = l.ki ∨ r = l.kn) ∧ (4, 64 + r) ∈ u.bad
        ∧ exec (.loopPassEnd vf v) s = .next (s.onCore vf v fun w => { w.sched ⟨p.pt + 1, p.pt, 0, u.cur, .readError 4 r⟩ with loop := none }))
    ∧ ((u.loop = none ∨ (u.loop = some l ∧ l.done < l.body)) → ∃ t, exec (.loopPassEnd vf v) s = .next t ∧ t.core vf v = u ∧ (t.part vf).stops = p.stops
        ∧ s.onlyPart t vf)

/-- BRK and a header's BRK bit stop the partition at an armed bundle's first issue, and else do nothing (R54; R301; R242; R241; R280; R291).
The model's choices: with breaks enabled and an uncorrectable error in k[KA], 0x60 is in flight for the next cycle in place of the break
(notes/assumptions/22), and the break of the lowest core and slot is the one taken (notes/assumptions/21). -/
def Obligations.DebugBreaksStop : Prop :=
  ∀ (s : State) (g : Guard) (ka vf v : Nat),
    let c := s.hereCore
    let p := s.here
    let enabled (p : Part) : Prop := p.debug = true ∧ p.features / 2 ^ 5 % 2 = 1
    let first (c : Core) : Prop := c.rep = 0 ∧ c.broke = false
    let error : Prop := (4, 64 + ka) ∈ c.bad
    let armed : Prop := enabled p ∧ first c ∧ p.breakMask.getLsbD ((c.k ka).toNat % 64) = true
    let q := s.part vf
    let u := s.core vf v
    let header : Prop := enabled q ∧ first u ∧ (u.word u.next).testBit 14 = true
    (¬ armed → (¬ error ∨ ¬ enabled p) → Changes s g (.brk g ka) id (fun u => u))
    ∧ (enabled p → error → Delivers s g (.brk g ka) id [(1, .readError 4 ka)])
    ∧ (executes s g (.brk g ka) = true → armed → ¬ error → p.stops = [] →
        ∃ t, exec (.brk g ka) s = .next t ∧ t.here.stops = [.fault] ∧ t.here.pt = p.pt ∧ t.hereCore.broke = true
          ∧ t.here.frec = ⟨0x72, s.cursor.core, 0, 0, false, c.nextAddr, p.pt, p.pt, 0⟩)
    ∧ (¬ header → exec (.headerBreak vf v) s = .next s)
    ∧ (header → q.stops = [] →
        ∃ t, exec (.headerBreak vf v) s = .next t ∧ (t.part vf).stops = [.fault] ∧ (t.part vf).pt = q.pt ∧ (t.core vf v).broke = true
          ∧ (t.part vf).frec = ⟨0x72, v, 7, 0, false, u.nextAddr, q.pt, q.pt, 0⟩)

/-- WAKE starts at the first cycle the budget allows; SLEEP; a ready domain becomes ON, zero if it was OFF (R182; R183; R184; R185; R352). -/
def Obligations.WakesAndSleeps : Prop :=
  ∀ (s : State) (g : Guard) (dom mode vf v r : Nat) (fr : Bool),
    let c := s.hereCore
    let pt := s.here.pt
    let w : Nat := if 2 ≤ dom ∧ dom < 6 then 2 else 1
    let weight (lo : Nat) : Nat := ((c.wakes.filter fun x => decide (lo ≤ x.1 ∧ x.1 < lo + 32)).map fun x => x.2.1).sum
    let fits (t : Nat) : Prop := ∀ lo, lo ≤ t → t < lo + 32 → w + weight lo ≤ 2
    let latency (kept : Bool) : Nat :=
      if dom < 2 then (if kept then 6 else 24)
      else if dom < 6 then (if kept then 12 else 96)
      else if dom < 8 then (if kept then 4 else 16)
      else if dom < 24 then (if kept then 8 else 48)
      else if dom < 28 then (if kept then 10 else 64)
      else if kept then 4 else 20
    let floor (t : Nat) : Prop := pt ≤ t ∧ ∀ x ∈ c.wakes, x.1 ≤ t
    let woken (t : Nat) (ret : Bool) (u : Core) : Core :=
      { u with
        domains := tput u.domains dom (.waking (t + latency ret) ret)
        wakes := u.wakes ++ [(t, w, dom)]
        pend := u.pend ++ [⟨t, pt, 0, c.cur, .wakeStart dom⟩] }
    (c.dom dom = .off ∨ c.dom dom = .retained →
      ∃ t, floor t ∧ fits t ∧ (∀ x, floor x → fits x → t ≤ x)
        ∧ Changes s g (.wake g dom mode) id (woken t (c.dom dom == .retained)))
    ∧ (c.dom dom = .on ∨ c.dom dom = .waking r fr → Changes s g (.wake g dom mode) id (fun u => u))
    ∧ (c.dom dom = .off → Delivers s g (.sleep g dom mode) id [])
    ∧ (c.dom dom = .on → Delivers s g (.sleep g dom mode) id [(1, .dom dom (if mode = 0 then .retained else .off))])
    ∧ (c.dom dom = .waking r fr → Delivers s g (.sleep g dom mode) id [(1, .dom dom (if mode = 0 ∧ fr = true then .retained else .off))])
    ∧ (c.dom dom = .retained → Delivers s g (.sleep g dom mode) id (if mode = 0 then [] else [(1, .dom dom .off)]))
    ∧ ((s.core vf v).dom dom = .waking r fr → r ≤ (s.part vf).pt →
        ∃ t, exec (.domainReady vf v dom) s = .next t ∧ (t.core vf v).dom dom = .on
          ∧ (fr = false → dom = 0 → ∀ n, (t.core vf v).v n = 0) ∧ (fr = false → dom = 1 → ∀ n, (t.core vf v).w n = 0)
          ∧ (fr = false → 2 ≤ dom → dom < 6 → (t.core vf v).q (dom - 2) = Acc.zero ∧ (t.core vf v).laneIdle (dom - 2) (s.part vf).pt = true)
          ∧ (fr = false → dom = 6 → ∀ n, (t.core vf v).x n = 0) ∧ (fr = false → dom = 7 → ∀ n, (t.core vf v).y n = 0)
          ∧ (fr = false → 8 ≤ dom → dom < 24 → ∀ a, a / 65536 = dom - 8 → memGet (t.core vf v).scratch a = 0)
          ∧ (fr = false → 24 ≤ dom → dom < 28 → ∀ n, n < 512 → (t.core vf v).entryOf (dom - 24) n = Packed.zero)
          ∧ (fr = false → dom = 28 → ∀ n, (t.core vf v).z n = Packed.zero)
          ∧ (fr = true → (t.core vf v).sameFiles (s.core vf v) ∧ (t.core vf v).scratch = (s.core vf v).scratch)
          ∧ (∀ d, d ≠ dom → (t.core vf v).dom d = (s.core vf v).dom d)
          ∧ (∀ n, (t.core vf v).s n = (s.core vf v).s n ∧ (t.core vf v).k n = (s.core vf v).k n))
    ∧ (∃ t, exec (.wakeStart vf v dom) s = .next t ∧ (∀ d, (t.core vf v).dom d = (s.core vf v).dom d)
          ∧ (t.core vf v).scratch = (s.core vf v).scratch ∧ (t.core vf v).sameFiles (s.core vf v)
          ∧ ((∀ e ∈ (s.core vf v).pend, e.eff ≠ .wakeStart dom) → (t.core vf v).wakes = (s.core vf v).wakes)
          ∧ ((∃ e, Due s vf v (fun x => decide (x = .wakeStart dom)) e) →
              ∀ x, x ∈ (t.core vf v).wakes ↔ x ∈ (s.core vf v).wakes ∧ (s.part vf).pt < x.1 + 32))

/-- LEAVE counts its lanes and gives each a notice; NOTICE_LAPSE removes notices past use (R176; R177; R178; R327). How the devices tell each
other of LEAVEs, and that they count from when the report has come, is the model's choice (assumption 102). -/
def Obligations.LeaveNoticesAndTheirLapse : Prop :=
  ∀ (s : State) (g : Guard) (mask vf v pt n : Nat),
    let c := s.hereCore
    let p := s.here
    let q := s.part vf
    (executes s g (.leave g mask) = true → ∃ t, exec (.leave g mask) s = .next t
      ∧ (∀ l n, (l, n) ∈ t.hereCore.notices ↔ (l, n) ∈ c.notices ∨ (l < 4 ∧ mask.testBit l = true ∧ n = p.pt))
      ∧ (∀ w, p.pt ≤ w → w < p.pt + 64 → t.here.leftIn w = p.leftIn w + (List.range 4).countP (fun l => mask.testBit l))
      ∧ t.outbox = s.outbox ++ (if p.cls = 0 then [] else [.leave s.cursor.vf s.cursor.core p.pt ((List.range 4).countP fun l => mask.testBit l)])
      ∧ t.hereCore.scratch = c.scratch ∧ t.hereCore.pend = c.pend ∧ t.here.pt = p.pt)
    ∧ (∀ w, q.pt ≤ w → (q.announce pt n).leftIn w = q.leftIn w + if pt ≤ w ∧ w < pt + 64 then n else 0)
    ∧ (∃ t, exec (.noticeLapse vf v) s = .next t ∧ (t.part vf).pt = (s.part vf).pt
      ∧ ∀ l n, (l, n) ∈ (t.core vf v).notices ↔ (l, n) ∈ (s.core vf v).notices ∧ (s.part vf).pt ≤ n + 4096)

/-- XLT looks its address up and delivers a handle at issue+40; XLT_RESULT writes it (R146; R147; R148; R149). That cores on one ring look up
one after another in a cycle is the model's choice (assumption 107). -/
def Obligations.TranslationIssueAndResult : Prop :=
  ∀ (s : State) (g : Guard) (hd ka vf v : Nat) (e : Pend) (h : Nat) (a : Nat) (val : Handle) (pg : Page),
    let c := s.hereCore
    let i := Instr.xlt g hd ka
    let addr := (c.k ka).toNat
    let u := addr / 65536
    let send (x : Handle) (w : Core) : Core := w.issue s.here.pt s.cursor.slot [(40, .xlt hd addr x)]
    let page : Option Page := translate s s.cursor.vf s.cursor.core u
    let p := s.here
    let covers (x : Page) : Prop := x.va ≤ u ∧ u < x.va + 64 ^ x.size
    let own (x : Page) : Prop := x ∈ c.tlb
    let ring (x : Page) : Prop := ∃ o h, (o, h) ∈ p.coreTable ∧ o ≠ s.cursor.core ∧ p.phys o / 16 = p.phys s.cursor.core / 16 ∧ x ∈ (p.core o).tlb
    let tower (x : Page) : Prop := (s.cursor.vf, x) ∈ tget [] s.towerTlb (p.phys s.cursor.core / 128)
    let misses (stage : Page → Prop) : Prop := ∀ x, stage x → ¬ covers x
    (page = some pg → covers pg ∧ (own pg ∨ (misses own ∧ ring pg) ∨ (misses own ∧ misses ring ∧ tower pg)))
    ∧ (page = none → misses own ∧ misses ring ∧ misses tower)
    ∧ (2 ^ 39 ≤ addr ∨ s.here.vchannels ≤ addr / 2 ^ 32 → Changes s g i id (send Handle.invalid))
    ∧ (addr < 2 ^ 39 → addr / 2 ^ 32 < s.here.vchannels → page = none →
        Changes s g i id (send ⟨.miss, false, false, 0, 0, u / 65536 % 128, u % 65536, 0⟩))
    ∧ (addr < 2 ^ 39 → addr / 2 ^ 32 < s.here.vchannels → page = some pg →
        Changes s g i id (fun w => send ⟨.valid, pg.rp, pg.wp, pg.size, pg.tier, pg.va / 65536 % 128, pg.va % 65536, pg.phys % 65536⟩
          (w.install pg)))
    ∧ (Due s vf v Eff.isXlt e → e.eff = .xlt h a val →
        ∃ t, exec (.xltResult vf v) s = .next t ∧ (t.core vf v).h h = val ∧ (∀ n, n ≠ h → (t.core vf v).h n = (s.core vf v).h n)
          ∧ (t.core vf v).pend = (s.core vf v).pend.erase e)

/-- FENCE orders later commands after earlier ones; LAUNCH sends its queue and node address (R205; R231; R325). That the node is read after a
delay that nothing fixes, of one Tabor cycle or more, is the model's choice (notes/assumptions/2). -/
def Obligations.FencesAndLaunchesIssue : Prop :=
  ∀ (s : State) (g : Guard) (scope kind kq kn q : Nat),
    let c := s.hereCore
    Changes s g (.fence g scope kind) id (fun u => { u with fences := u.fences ++ [(c.cmdCount, kind, scope)] })
    ∧ (executes s g (.launch g kq kn) = true → launchQueue s s.cursor.vf (c.k kq).toNat = some q →
        ∃ t due, exec (.launch g kq kn) s = .next t ∧ s.tabor < due ∧ t.tabor = s.tabor
          ∧ t.hereCore.launches = c.launches ++ [(c.cmdCount, q, (c.k kn).toNat, due)]
          ∧ t.hereCore.cmds = c.cmds ∧ t.hereCore.pend = c.pend ∧ t.hereCore.scratch = c.scratch)
    ∧ ((c.k kq).toNat = 63 → launchQueue s s.cursor.vf (c.k kq).toNat = some s.cursor.vf)
    ∧ (40 ≤ (c.k kq).toNat → (c.k kq).toNat ≠ 63 → launchQueue s s.cursor.vf (c.k kq).toNat = none)

/-- DACT, DRD, DWR, DPRE and DREF: what each does to its bank, its channel and what it puts in flight (R131; R133; R134; R308; R310; R311; R312; R313). -/
def Obligations.DramCommandsIssue : Prop :=
  ∀ (s : State) (g : Guard) (vch bank h row col line step all : Nat), bank < 16 →
    let c := s.hereCore
    let p := s.here
    let sl := s.cursor.slot
    let st := c.slot sl
    let hd := c.h h
    let open_ := (p.bank vch bank).st.row
    let place (ch : Nat) : Nat := ch * 2 ^ 32 + bank * 2 ^ 28 + open_ % 65536 * 2 ^ 12 + (col + st.adv2) % 16 * 2 ^ 8
    let addr := place (tget vch p.chanTable vch)
    let at_ : Nat := (line + st.adv1) % 4096
    let flight (lat : Nat) (e : Eff) : List Pend := c.pend ++ [⟨p.pt + lat, p.pt, sl, c.cur, e⟩]
    let last : Option (Nat × Nat) := some (p.pt, s.cursor.core)
    (executes s g (.dact g vch bank h row) = true → ∃ t, exec (.dact g vch bank h row) s = .next t ∧ t.dram = s.dram
      ∧ (t.here.bank vch bank).st = .active ((hd.prow + row) % 65536) hd.wp ∧ (t.here.bank vch bank).act = some p.pt
      ∧ (t.here.chan vch).last = last ∧ t.hereCore.pend = c.pend)
    ∧ (executes s g (.drd g vch bank col line step) = true → ∃ t bad, exec (.drd g vch bank col line step) s = .next t ∧ t.dram = s.dram
      ∧ t.hereCore.pend = flight 40 (.drd at_ (BitVec.ofNat 2048 (leNat (memRead s.dram addr 256))) bad)
      ∧ (bad = none ↔ s.dramBad.contains (addr / 4096) = false)
      ∧ (t.here.chan vch).rd = some p.pt ∧ (t.here.chan vch).last = last ∧ t.here.bank vch bank = p.bank vch bank)
    ∧ (executes s g (.dwr g vch bank col line step) = true → ∃ t, exec (.dwr g vch bank col line step) s = .next t ∧ t.dram = s.dram
      ∧ t.hereCore.pend = flight 2 (.dwrRead at_ (place vch))
      ∧ (t.here.bank vch bank).wr = some p.pt ∧ (t.here.bank vch bank).st = (p.bank vch bank).st
      ∧ (t.here.chan vch).wr = some p.pt ∧ (t.here.chan vch).last = last)
    ∧ (executes s g (.dpre g vch bank all) = true → ∃ t, exec (.dpre g vch bank all) s = .next t ∧ t.dram = s.dram
      ∧ (t.here.chan vch).last = last
      ∧ ∀ b r w, b < 16 → (p.bank vch b).st = .active r w → ((all ≠ 1 ∧ b = bank) ∨ (all = 1 ∧ p.isService vch b = false)) →
          (t.here.bank vch b).st = .idle ∧ (t.here.bank vch b).pre = some p.pt)
    ∧ (executes s g (.dref g vch bank) = true → ∃ t, exec (.dref g vch bank) s = .next t ∧ t.dram = s.dram
      ∧ (t.here.bank vch bank).st = .refreshing (p.pt + 108) ∧ (t.here.bank vch bank).ref = some p.pt
      ∧ (t.here.chan vch).last = last ∧ t.hereCore.pend = c.pend)

/-- ENQ, FPUT and AOP enter their engine with their records, order bits, pieces and timed reads (R206; R207; R208; R209; R210; R315; R317;
R319). The model's choices: only an ENQ from scratch takes or meets a phase (assumption 28), and an ENQ whose start check fails adds no
command (assumption 27). -/
def Obligations.EngineCommandsAccepted : Prop :=
  ∀ (s : State) (g : Guard) (rs rd scope acq rel kind off r fn size opl resl foff flag : Nat),
    let c := s.hereCore
    let sl := s.cursor.slot
    let pt := s.here.pt
    let src := c.record sl rs
    let dst := c.record sl rd
    let st := s.here.t0 + off
    let enq := Instr.enq g rs rd scope acq rel kind off
    let fput := Instr.fput g rs rd scope rel flag
    let aop := Instr.aop g r fn size scope acq rel opl resl foff
    let early : Prop := st < pt + 8
    let busy : Prop := recSpace src = 0 ∧ ∃ e ∈ c.pend, e.slot = sl ∧ e.due = st ∧ ∃ id l j, e.eff = .enqRead id l j
    let size := elemSize (recFormat src)
    let lo := phaseLow kind src dst
    let m := phaseLength kind src dst
    let read (l : Int) : Prop := ∃ e ∈ movedOffsets kind src dst, ∃ a, checkedOffset src size e.1 = some a
      ∧ ∃ b : Nat, b < size ∧ l = ((recBase src : Int) + a + (b : Int)) / 256
    let doomed (t : State) (due why : Nat) : Prop := t.hereCore.cmds = c.cmds
      ∧ t.hereCore.pend = c.pend ++ [⟨due, pt, sl, c.cur, .enqFault c.cmdCount why⟩]
    let basics (k : Cmd) : Prop := k.id = c.cmdCount ∧ k.slot = sl ∧ k.ipt = pt ∧ k.scope = scope ∧ k.rel = (rel == 1) ∧ k.fences = c.fences
    (executes s g enq = true → ¬ early → ¬ busy → ∃ t k, exec enq s = .next t ∧ t.hereCore.cmds = c.cmds ++ [k] ∧ t.hereCore.cmdCount = c.cmdCount + 1
      ∧ basics k ∧ k.kind = .enq kind ∧ k.acq = (acq == 1) ∧ k.src = src ∧ k.dst = dst ∧ k.st = st ∧ k.pieces = piecesOf kind src dst
      ∧ (recSpace src ≠ 0 → t.hereCore.pend = c.pend ∧ k.phase = [])
      ∧ (recSpace src = 0 → k.phase = List.range m
          ∧ t.hereCore.pend = c.pend ++ (List.range m).map fun j : Nat =>
              ⟨st + j, pt, sl, c.cur, .enqRead c.cmdCount ((lo + (j : Int)) % 4096).toNat j⟩))
    ∧ (∀ l, read l → lo ≤ l ∧ l < lo + m) ∧ (0 < m → read lo ∧ read (lo + m - 1))
    ∧ (executes s g enq = true → early → ∃ t, exec enq s = .next t ∧ doomed t (pt + 8) 0)
    ∧ (executes s g enq = true → ¬ early → busy → ∃ t, exec enq s = .next t ∧ doomed t st 1)
    ∧ (executes s g fput = true → ∃ t k, exec fput s = .next t ∧ t.hereCore.cmds = c.cmds ++ [k] ∧ t.hereCore.cmdCount = c.cmdCount + 1
      ∧ basics k ∧ k.kind = .fput ∧ k.src = src ∧ k.dst = dst ∧ k.flagl = flag ∧ k.pieces = piecesOf 0 src dst ∧ t.hereCore.pend = c.pend)
    ∧ (executes s g aop = true → ∃ t k, exec aop s = .next t ∧ t.hereCore.cmds = c.cmds ++ [k] ∧ t.hereCore.cmdCount = c.cmdCount + 1
      ∧ basics k ∧ k.kind = .aop fn size ∧ k.acq = (acq == 1) ∧ k.dst = c.record sl r ∧ k.operand = none ∧ k.resl = resl
      ∧ k.flagl = (((resl : Int) + (BitVec.ofNat 8 foff).toInt) % 4096).toNat
      ∧ t.hereCore.pend = c.pend ++ [⟨pt + 1, pt, sl, c.cur, .aopRead c.cmdCount opl size⟩])

/-- FSEND reads line k at issue+1+k and lands it, through its port's queue, two cycles after the line before (R274; R275; R276). -/
def Obligations.FabricSendIssue : Prop :=
  ∀ (s : State) (g : Guard) (r line cnt port : Nat),
    let c := s.hereCore
    let p := s.here
    let sl := s.cursor.slot
    let base := recBase (c.record sl r)
    let first := match tfind p.portLand port with
      | none => p.pt + p.delay
      | some l => max (p.pt + p.delay) (l + 2)
    executes s g (.fsend g r line cnt port) = true → ∃ t, exec (.fsend g r line cnt port) s = .next t
      ∧ t.hereCore.pend = c.pend ++ (List.range (cnt + 1)).map (fun k =>
          ⟨p.pt + (1 + k), p.pt, sl, c.cur,
            .fsendRead port (base / 2 ^ 20 % 512) ((line + k) % 4096) ((base / 256 + k) % 4096) (first + 2 * k)⟩)
      ∧ tfind t.here.portLand port = some (first + 2 * cnt)
      ∧ t.hereCore.scratch = c.scratch ∧ t.outbox = s.outbox

/-- BARA arrives; BARW arrives and waits; a barrier completes in its cycle and nothing stops, or with the arrival that is the last (R16; R217;
R219; R220; R221; R222; R223; R299). The model's choices: the phase advances once at a PT, and where only another device waits in the
cycle after the arrival (assumption 43); which devices resume together, whose notices are then late, and what a device does that has a
stop of its own (assumption 110). -/
def Obligations.BarrierArrivalsAndWaits : Prop :=
  ∀ (s : State) (g : Guard) (b beats vf m n : Nat),
    let v := s.cursor.core
    let p := s.here
    let k := p.barrier b
    let q := s.part vf
    let j := q.barrier b
    let wait (n : Nat) : Wait := ⟨v, p.pt, s.hereCore.cur, n⟩
    let left : List Stop := q.stops.filter fun x => !x.isBarrier
    let phase (e : Eff) : Pend := ⟨q.pt + 1, q.pt, 0, 0, e⟩
    let again : Prop := v ∈ k.arrived ∨ ∃ x, (v, x) ∈ k.inFlight
    let told : List Out := if p.cls = 0 then [] else [.barrierWait s.cursor.vf b v k.gen (p.pt + 1)]
    let kept (o : List Out) (t : State) : Prop := (t.here.barrier b).arrived = k.arrived ∧ (t.here.barrier b).inFlight = k.inFlight
      ∧ t.outbox = s.outbox ++ o
    let counted (o : List Out) (t : State) : Prop := (∀ x, x ∈ (t.here.barrier b).arrived ↔ x ∈ k.arrived ∨ x = v)
      ∧ (t.here.barrier b).inFlight = k.inFlight ∧ t.outbox = s.outbox ++ o
    let reported (o : List Out) (t : State) : Prop := (t.here.barrier b).arrived = k.arrived
      ∧ (t.here.barrier b).inFlight = k.inFlight ++ [(v, s.tabor + p.delay)] ∧ t.outbox = s.outbox ++ o ++ [.arrival s.cursor.vf b v]
    let arrives (o : List Out) (t : State) : Prop := (again → kept o t)
      ∧ (¬ again → (p.remoteBarrier b = false → counted o t) ∧ (p.remoteBarrier b = true → reported o t))
      ∧ (∀ x, x ≠ b → t.here.barrier x = p.barrier x) ∧ t.here.stops = p.stops ∧ t.here.pt = p.pt
    let full (x : Nat) : Prop := ((q.barrier x).waits ≠ [] ∨ (q.barrier x).abroad ≠ []) ∧ ∀ y ∈ q.barrierMembers x, y ∈ (q.barrier x).arrived
    let waiting : Prop := ∃ x, x < 16 ∧ (q.barrier x).waits ≠ []
    let emptied (x : Nat) (u : Part) : Prop := (u.barrier x).arrived = [] ∧ (u.barrier x).waits = [] ∧ (u.barrier x).abroad = []
      ∧ (u.barrier x).elapsed = 0 ∧ (u.barrier x).gen = (q.barrier x).gen + 1
    let end_ := q.settleBarriers
    let ends : Prop := ∀ w ws, q.members = w :: ws → (end_.core w).pend = (q.core w).pend ++ [phase .phase]
    let free (u : Part) : Prop := (∀ x, x < 16 → (u.barrier x).waits = [])
    let own : Prop := ∃ x ∈ q.stops, x.isBarrier = false ∧ x.announced = true
    let alike : Prop := q.cls = 0 ∨ ∀ d ∈ q.mates, tfind j.abroad d.1 = some q.pt
    let moves : Prop := q.snare = true ∧ q.phasedAt ≠ some q.pt
    (executes s g (.bara g b) = true → ∃ t, exec (.bara g b) s = .next t ∧ arrives [] t ∧ (t.here.barrier b).waits = k.waits)
    ∧ (executes s g (.barw g b) = true → ∃ t, exec (.barw g b) s = .next t ∧ arrives told t ∧ (t.here.barrier b).waits = k.waits ++ [wait 0])
    ∧ (executes s g (.barwTimeout g b beats) = true → ∃ t, exec (.barwTimeout g b beats) s = .next t ∧ arrives told t
        ∧ (t.here.barrier b).waits = k.waits ++ [wait (1024 * beats)])
    ∧ end_.stops = q.stops ∧ (∀ x, x < 16 → full x → emptied x end_) ∧ (∀ x, ¬ full x → end_.barrier x = q.barrier x)
    ∧ ((∃ x, x < 16 ∧ full x) → ends) ∧ ((∀ x, x < 16 → ¬ full x) → end_ = q)
    ∧ (waiting → (∀ x ∈ q.stops, x.isBarrier = false) → q.stage = .limits n → n ≤ 6 → (∀ x, n ≤ x → x < 6 → limitMove s vf x = none) →
        ∃ t, cycleMove s vf = .quiet t ∧ (t.part vf).stops = q.stops ++ [.barrier] ∧ (t.part vf).pt = q.pt ∧ (∀ w, t.core vf w = s.core vf w)
          ∧ t.outbox = s.outbox ++ if q.cls = 0 then [] else [.stopNotice vf q.pt])
    ∧ (¬ waiting → (∀ x ∈ q.stops, x.isBarrier = false) → limitMove s vf 6 = none)
    ∧ ((q.isBound = false ∨ (j.waits = [] ∧ j.abroad = []) ∨ ∃ x, x ∈ q.barrierMembers b ∧ x ≠ m ∧ x ∉ j.arrived) → ∃ t, exec (.barrierArrival vf b m) s = .next t
        ∧ (∀ x, x ∈ ((t.part vf).barrier b).arrived ↔ x ∈ j.arrived ∨ x = m) ∧ ((t.part vf).barrier b).waits = j.waits
        ∧ (∀ x, x ≠ b → (t.part vf).barrier x = q.barrier x) ∧ (t.part vf).stops = q.stops ∧ (t.part vf).phase = q.phase)
    ∧ (q.isBound = true → (j.waits ≠ [] ∨ j.abroad ≠ []) → (∀ x, x ∈ q.barrierMembers b → x = m ∨ x ∈ j.arrived) →
        ∃ t, exec (.barrierArrival vf b m) s = .next t ∧ emptied b (t.part vf)
        ∧ (∀ x, x ≠ b → (t.part vf).barrier x = q.barrier x) ∧ (t.part vf).pt = q.pt
        ∧ (j.waits = [] → (t.part vf).stops = q.stops ∧ (t.part vf).phase = q.phase ∧ ∀ w ws, q.members = w :: ws → (t.core vf w).pend = (s.core vf w).pend ++ [phase .phase])
        ∧ (j.waits ≠ [] → (t.part vf).phase = (if moves then (q.phase + 1) % 128 else q.phase)
            ∧ ∀ w, (t.core vf w).shadow = if moves ∧ q.phase = 127 then [] else (s.core vf w).shadow)
        ∧ (j.waits ≠ [] → ¬ free (t.part vf) → (t.part vf).stops = q.stops)
        ∧ (j.waits ≠ [] → free (t.part vf) → ¬ own → alike → (t.part vf).stops = left ++ [.waitOver (s.tabor + 1)] ∧ t.outbox = s.outbox
            ∧ ∀ d ∈ q.mates, tfind q.peers d.1 = none → tfind (t.part vf).excused d.1 = some q.pt)
        ∧ (j.waits ≠ [] → free (t.part vf) → ¬ own → ¬ alike → (t.part vf).stops = left ++ [.waitOver (s.tabor + 1), .align]
            ∧ t.outbox = s.outbox ++ if ∃ x ∈ q.stops, x.isBarrier = true then [] else [.stopNotice vf q.pt])
        ∧ (j.waits ≠ [] → free (t.part vf) → own → (t.part vf).stops = left
            ∧ t.outbox = s.outbox ++ if q.cls ≠ 0 ∧ alike then [.stopNotice vf q.pt] else []))

/-- BARRIER_TIMEOUT raises 0x51 with its reason and ends the waits; absence tokens hold the timeout clock (R217; R221; R222; R234; R240). The
order of the reasons and the end of every wait (notes/assumptions/37), the phase of the accesses of this PT (43), and how one device knows
that all are stopped and nothing comes any more (38), are the model's choices. -/
def Obligations.BarrierFailuresAndTokens : Prop :=
  ∀ (s : State) (vf b m r : Nat),
    let p := s.part vf
    let k := p.barrier b
    let absent (c : Nat) (f : Cond) : Prop := c ∈ p.barrierMembers b ∧ c < 512 ∧ c ∉ k.arrived ∧ (∀ x, (c, x) ∉ k.inFlight) ∧ p.condOf c = f
    let stuck : Prop := (p.cls = 0 ∨ p.othersStopped = true)
      ∧ ∃ c, absent c .running ∧ (p.isLocal c = true ∨ p.noticeAt + p.delay ≤ s.tabor)
    let ended : Prop := ∃ c, absent c .ended
    let late : Prop := k.tokens = [] ∧ ∃ w ∈ k.waits, 0 < w.timeout ∧ w.timeout ≤ k.elapsed
    let reason : Prop := (r = 2 ∧ ended) ∨ (r = 1 ∧ ¬ ended ∧ stuck) ∨ (r = 0 ∧ ¬ ended ∧ ¬ stuck ∧ late)
    let fails (P : FRec → Prop) : Prop := ∃ t, exec (.barrierTimeout vf b) s = .next t ∧ (t.part vf).stops = p.stops ++ [.fault]
      ∧ ((t.part vf).barrier b).waits = [] ∧ ((t.part vf).barrier b).arrived = k.arrived ∧ (t.part vf).pt = p.pt
      ∧ (t.part vf).phase = p.phase
      ∧ (∀ w gr, tfind (t.core vf w).shadow gr = (tfind (s.core vf w).shadow gr).map fun x =>
          (x.1, if b < 16 ∧ p.snare = true ∧ p.phasedAt ≠ some p.pt ∧ x.2 = (p.phase + 1) % 128 then p.phase else x.2)) ∧ P (t.part vf).frec
    (Stop.fault ∉ p.stops → k.waits ≠ [] → reason → fails fun f => ∃ x ∈ k.waits,
        f = ⟨0x51, x.core, 0, 2, false, x.baddr, x.ipt, p.pt, b + 16 * r + 256 * ((p.barrierMembers b).filter fun y => !k.arrived.contains y).length⟩)
    ∧ (k.waits = [] → exec (.barrierTimeout vf b) s = .next s)
    ∧ (∃ t, exec (.absenceToken vf b m) s = .next t ∧ ((t.part vf).barrier b).arrived = k.arrived
        ∧ ((t.part vf).barrier b).waits = k.waits
        ∧ ∀ x, x ∈ ((t.part vf).barrier b).tokens ↔ x ∈ k.tokens ∨ (x = m ∧ m ∉ k.arrived))
    ∧ (∃ t, exec (.absenceTokenWithdrawn vf b m) s = .next t ∧ ((t.part vf).barrier b).arrived = k.arrived
        ∧ ((t.part vf).barrier b).waits = k.waits
        ∧ ∀ x, x ∈ ((t.part vf).barrier b).tokens ↔ x ∈ k.tokens ∧ x ≠ m)

/-- A register result is written at its due cycle, kept out of OFF domains and hard-wired registers; nothing else changes (R36; R37; R185; R187). -/
def Obligations.RegisterResultsWritten : Prop :=
  ∀ (s : State) (vf v : Nat) (e : Pend) (d : Dst) (n : Nat),
    let c := s.core vf v
    let lost : Prop := ∃ m, d.domain = some m ∧ (c.dom m = .off ∨ ∃ r, c.dom m = .waking r false)
    Due s vf v Eff.isRegister e → e.eff = .reg d n →
      ∃ t, exec (.registerResult vf v) s = .next t
        ∧ (d.wired = false → ¬ lost → (t.core vf v).read d = n % 2 ^ d.width)
        ∧ (d.wired = true ∨ lost → (t.core vf v).read d = c.read d)
        ∧ (∀ x, x ≠ d → (t.core vf v).read x = c.read x)
        ∧ (∀ r, (t.core vf v).z r = c.z r ∧ (t.core vf v).q r = c.q r ∧ (t.core vf v).h r = c.h r)
        ∧ (t.core vf v).bstore = c.bstore ∧ (t.core vf v).scratch = c.scratch ∧ (t.core vf v).domains = c.domains
        ∧ (t.core vf v).pend = c.pend.erase e
        ∧ (∀ w, w ≠ v → (t.core vf w) = s.core vf w) ∧ (t.part vf).stops = (s.part vf).stops ∧ s.onlyPart t vf

/-- Handles, z copies, phases, sleeps, record-field writes, traps and read errors at their due cycles (R50; R145; R183; R188; R217; R241;
R248; R347). The model's choices: a SLEEP to OFF takes the domain's error marks away (assumption 22), the phase advances once at a PT
(assumption 43), and DETAIL 31:16 of 0x60 is a record's number within its file (assumption 118). -/
def Obligations.OtherResultsPerformed : Prop :=
  ∀ (s : State) (vf v : Nat) (e : Pend) (h z d r fld val code mem index : Nat) (x : Handle) (y : Packed) (st : DState),
    let c := s.core vf v
    let p := s.part vf
    let run (P : State → Prop) : Prop := ∃ t, exec (.registerResult vf v) s = .next t ∧ P t
    let moves : Prop := p.snare = true ∧ p.phasedAt ≠ some p.pt
    Due s vf v Eff.isRegister e →
    let off (u : Core) : Prop := (d = 0 → ∀ n, u.v n = 0) ∧ (d = 1 → ∀ n, u.w n = 0) ∧ (2 ≤ d → d < 6 → u.q (d - 2) = Acc.zero)
      ∧ (d = 6 → ∀ n, u.x n = 0) ∧ (d = 7 → ∀ n, u.y n = 0)
      ∧ (8 ≤ d → d < 24 → ∀ a, a / 65536 = d - 8 → memGet u.scratch a = 0)
      ∧ (24 ≤ d → d < 28 → ∀ n, n < 512 → u.entryOf (d - 24) n = Packed.zero) ∧ (d = 28 → ∀ n, u.z n = Packed.zero)
      ∧ (8 ≤ d → d < 24 → ∀ m ∈ u.bad, m.1 = 0 → m.2 / 256 ≠ d - 8) ∧ ∀ n, u.s n = c.s n ∧ u.k n = c.k n
    (e.eff = .handle h x → run fun t => (t.core vf v).h h = x ∧ (∀ n, n ≠ h → (t.core vf v).h n = c.h n) ∧ (∀ n, (t.core vf v).read n = c.read n))
    ∧ (e.eff = .zres z y → c.dom 28 = .on → run fun t => (t.core vf v).z z = y ∧ (∀ n, n ≠ z → (t.core vf v).z n = c.z n)
        ∧ (∀ n, (t.core vf v).read n = c.read n))
    ∧ (e.eff = .zres z y → c.dom 28 = .off → run fun t => (t.core vf v).sameFiles c)
    ∧ (e.eff = .phase → run fun t => (t.part vf).phase = (if moves then (p.phase + 1) % 128 else p.phase)
        ∧ (∀ w, (t.core vf w).shadow = if moves ∧ p.phase = 127 then [] else (s.core vf w).shadow)
        ∧ (∀ w n, (t.core vf w).read n = (s.core vf w).read n ∧ (t.core vf w).scratch = (s.core vf w).scratch))
    ∧ (e.eff = .dom d st → run fun t => (t.core vf v).dom d = st ∧ (∀ n, n ≠ d → (t.core vf v).dom n = c.dom n)
        ∧ (st ≠ .off → (t.core vf v).sameFiles c ∧ (t.core vf v).scratch = c.scratch)
        ∧ (st = .off → off (t.core vf v)))
    ∧ (e.eff = .rset false r fld val → r < 64 → (4, 64 * 7 + r) ∈ c.bad → Stop.fault ∉ p.stops → run fun t =>
        Stops s t vf ⟨0x60, v, e.slot, 1, false, e.baddr, e.ipt, p.pt, 4 + r * 2 ^ 16⟩ ∧ (t.core vf v).sameFiles c)
    ∧ (e.eff = .rset false r fld val → (4, 64 * 7 + r) ∉ c.bad → run fun t => (t.core vf v).pend = c.pend.erase e
          ++ [{ e with due := e.ipt + 2, eff := .reg (.x r) (setField (c.x r) fld val).toNat }] ∧ (t.core vf v).sameFiles c)
    ∧ (e.eff = .rset true r fld val → (4, 64 * 8 + r) ∉ c.bad → run fun t => (t.core vf v).pend = c.pend.erase e
          ++ [{ e with due := e.ipt + 2, eff := .reg (.y r) (setField (c.y r) fld val).toNat }] ∧ (t.core vf v).sameFiles c)
    ∧ (e.eff = .trap code → Stop.fault ∉ p.stops → run fun t => Stops s t vf ⟨0x70, v, e.slot, 3, false, e.baddr, e.ipt, p.pt, code⟩
        ∧ (t.core vf v).sameFiles c)
    ∧ (e.eff = .readError mem index → Stop.fault ∉ p.stops → run fun t =>
        Stops s t vf ⟨0x60, v, e.slot, 1, false, e.baddr, e.ipt, p.pt, mem + index * 2 ^ 16⟩ ∧ (t.core vf v).sameFiles c)

/-- MPACK, MLDB, multiplies, MCLR, MNEG, MSHR, MLDQ and block conversions: written when they pass their check, else their fault (R162; R164;
R166; R168; R174; R175; R96; R241; R336). The model's choices: that a product of value 0 and bound 0 leaves an accumulator that counts as
empty is the model's reading of R166 against R170 (assumption 88), the cycle of MMAC's 0x60 is that of assumption 22, and its DETAIL
31:16, the lane, that of assumption 118. -/
def Obligations.ProductResultsPerformed : Prop :=
  ∀ (s : State) (vf v : Nat) (e : Pend) (z lane n g bq r bp : Nat) (val : Packed) (a : Acc) (q qe x pe : Int) (acc isW : Bool) (f : Flt),
    let c := s.core vf v
    let p := s.part vf
    let fault (f : Flt) : FRec := ⟨f.code, v, e.slot, 1, false, e.baddr, e.ipt, p.pt, f.detail⟩
    let writes (i : Instr) (P : Core → Prop) : Prop := ∃ t, exec i s = .next t ∧ P (t.core vf v) ∧ (∀ d, (t.core vf v).read d = c.read d)
      ∧ (t.core vf v).scratch = c.scratch ∧ (t.part vf).stops = p.stops
    let fails (i : Instr) (P : FRec → Prop) : Prop := Stop.fault ∉ p.stops →
      ∃ t, exec i s = .next t ∧ (∃ u, Stops s t vf u ∧ P u) ∧ (t.core vf v).sameFiles c
    let newQ (a : Acc) (u : Core) : Prop := u.q lane = a ∧ (∀ k, k ≠ lane → u.q k = c.q k)
    let s1 := mulCombine acc (c.q lane) x pe bp
    let image := c.mldqImage e.ipt lane
    let loaded : Acc := ⟨BitVec.ofNat 4224 image, BitVec.ofNat 16 (image / 2 ^ 4224), image / 2 ^ 4288 % 2 ^ 64⟩
    (∀ (b : Acc) (u ue : Int) (ub : Nat),
        let d := (ue - b.qe.toInt).natAbs
        let empty : Prop := b.q.toInt = 0 ∧ b.bq = 0
        mulCombine false b u ue ub = (u, ue, ub)
        ∧ (empty → mulCombine true b u ue ub = (u, ue, ub))
        ∧ (¬ empty → b.qe.toInt ≤ ue → mulCombine true b u ue ub = (b.q.toInt + u * 2 ^ d, b.qe.toInt, b.bq + ub * 2 ^ d))
        ∧ (¬ empty → ue < b.qe.toInt → mulCombine true b u ue ub = (b.q.toInt * 2 ^ d + u, ue, b.bq * 2 ^ d + ub)))
    ∧ (Due s vf v Eff.isMpack e → e.eff = .mpack z val none → c.dom 28 = .on →
        writes (.mpackResult vf v) fun u => u.z z = val ∧ ∀ k, k ≠ z → u.z k = c.z k)
    ∧ (Due s vf v Eff.isMpack e → e.eff = .mpack z val (some f) → fails (.mpackResult vf v) (· = fault f))
    ∧ (Due s vf v Eff.isMldb e → e.eff = .mldb lane n val none → c.dom (24 + lane) = .on → n < 512 →
        writes (.mldbEntryWrite vf v) fun u => u.entryOf lane n = val ∧ ∀ l k, k < 512 → ¬ (l = lane ∧ k = n) → u.entryOf l k = c.entryOf l k)
    ∧ (Due s vf v Eff.isMldb e → e.eff = .mldb lane n val (some f) → fails (.mldbEntryWrite vf v) (· = fault f))
    ∧ (Due s vf v Eff.isMultiply e → e.eff = .mulRead lane g true x pe bp → lane < 64 → (4, 64 * 10 + lane) ∈ c.bad →
        fails (.multiplyResult vf v) (· = fault ⟨0x60, 4 + lane * 2 ^ 16⟩))
    ∧ (Due s vf v Eff.isMultiply e → e.eff = .mulRead lane g acc x pe bp → (acc = false ∨ (4, 64 * 10 + lane) ∉ c.bad) → writes (.multiplyResult vf v) fun u =>
        u.pend = c.pend.erase e ++ [{ e with due := e.ipt + 16, eff := .mulRes lane g s1.1 s1.2.1 s1.2.2 }] ∧ ∀ k, u.q k = c.q k)
    ∧ (Due s vf v Eff.isMultiply e → e.eff = .mulRes lane g q qe bq → bq < 2 ^ (g - 1) → -(2 ^ 4223 : Int) ≤ q → q < (2 ^ 4223 : Int) →
        -32768 ≤ qe → qe ≤ 32767 → c.dom (2 + lane) = .on → writes (.multiplyResult vf v) fun u =>
          (u.q lane).q.toInt = q ∧ (u.q lane).qe.toInt = qe ∧ (u.q lane).bq = bq ∧ ∀ k, k ≠ lane → u.q k = c.q k)
    ∧ (Due s vf v Eff.isMultiply e → e.eff = .mulRes lane g q qe bq → 2 ^ (g - 1) ≤ bq → fails (.multiplyResult vf v) (·.code = 0x40))
    ∧ (Due s vf v Eff.isMultiply e → e.eff = .mulRes lane g q qe bq → bq < 2 ^ (g - 1) →
        (q < -(2 ^ 4223 : Int) ∨ (2 ^ 4223 : Int) ≤ q ∨ qe < -32768 ∨ 32767 < qe) → fails (.multiplyResult vf v) (· = fault ⟨0x41, lane⟩))
    ∧ (Due s vf v Eff.isAccumulator e → (e.eff = .acc lane a ∨ e.eff = .accChecked lane a none) → c.dom (2 + lane) = .on →
        writes (.accumulatorResult vf v) (newQ a))
    ∧ (Due s vf v Eff.isAccumulator e → e.eff = .accChecked lane a (some f) → fails (.accumulatorResult vf v) (· = fault f))
    ∧ (Due s vf v Eff.isMldq e → e.eff = .mldq lane g → loaded.bq < 2 ^ (g - 1) → c.dom (2 + lane) = .on →
        writes (.mldqResult vf v) (newQ loaded))
    ∧ (Due s vf v Eff.isMldq e → e.eff = .mldq lane g → 2 ^ (g - 1) ≤ loaded.bq →
        fails (.mldqResult vf v) (·.code = 0x40))
    ∧ (Due s vf v Eff.isBlock e → e.eff = .vcvtBlock isW r n none → c.dom 0 = .on → c.dom 1 = .on →
        ∃ t, exec (.vcvtBlockResult vf v) s = .next t ∧ (t.core vf v).read (if isW then .w r else .v r) = n % 2 ^ 2048
          ∧ ∀ d, d ≠ (if isW then .w r else .v r) → (t.core vf v).read d = c.read d)
    ∧ (Due s vf v Eff.isBlock e → e.eff = .vcvtBlock isW r n (some f) → fails (.vcvtBlockResult vf v) (· = fault f))

/-- A touch reads or writes exactly its bytes at its cycle; a race, a poisoned line or an error suppresses it (R124; R127; R145; R161; R164;
R175; R208; R210; R216; R241; R276; R305). While it is open whether the phase advances at this PT, since a barrier wait is not over, an
access that races in the present phase, and at phase 127 any access, is not performed (notes/assumptions/43). -/
def Obligations.TimedReadsAndWrites : Prop :=
  ∀ (s : State) (vf v : Nat) (e : Pend) (d a sz line dst idx cmd r g w n stride start port core land : Nat) (nat isW rev : Bool) (val : Line) (bs : List Byte) (f : Flt),
    let c := s.core vf v
    let p := s.part vf
    let touch := Instr.scratchpadTouch vf v
    let due := Due s vf v Eff.isTouch e
    let at_ (a n : Nat) : Nat := leNat (memRead c.scratch a n)
    let clear (a n : Nat) : Prop := readFault p c v a n = none
    let later (cycle : Nat) (x : Eff) : List Pend := c.pend.erase e ++ [{ e with due := cycle, eff := x }]
    let reads (i : Instr) (P : State → Prop) : Prop := ∃ t, exec i s = .next t ∧ (t.core vf v).scratch = c.scratch
      ∧ (t.core vf v).sameFiles c ∧ (t.part vf).stops = p.stops ∧ P t
    let mark : Nat := if p.snare = true ∧ p.phasedAt ≠ some p.pt ∧ Stop.fault ∉ p.stops ∧ (∃ b, b < 16 ∧ (p.barrier b).waits ≠ [])
      then (p.phase + 1) % 128 else p.phase
    let wrote (t : State) (a : Nat) (bs : List Byte) : Prop := (t.core vf v).sameFiles c ∧ (t.part vf).stops = p.stops
      ∧ t.dram = s.dram ∧ (∀ k, k < bs.length → memGet (t.core vf v).scratch (a + k) = bs.getD k 0)
      ∧ (∀ x, (x < a ∨ a + bs.length ≤ x) → memGet (t.core vf v).scratch x = memGet c.scratch x)
      ∧ (0 < bs.length → ∀ gr, tfind (t.core vf v).shadow gr =
          if p.snare = true ∧ a / 32 ≤ gr ∧ gr ≤ (a + bs.length - 1) / 32 then some (v, mark) else tfind c.shadow gr)
      ∧ ∀ l, l ∈ (t.core vf v).poison ↔ l ∈ c.poison ∧ ¬ (bs.length = 256 ∧ l = a / 256)
    let waits (a n : Nat) (wr : Bool) : Prop := p.phaseUnsettled → (p.phase = 127 ∨ ∃ x, raceFault p c v a n wr = some x) → ∀ kind, ¬ Due s vf v kind e
    let fails (i : Instr) (f : Flt) : Prop := Stop.fault ∉ p.stops → ∃ t, exec i s = .next t
      ∧ Stops s t vf ⟨f.code, v, e.slot, 1, false, e.baddr, e.ipt, p.pt, f.detail⟩ ∧ (t.core vf v).scratch = c.scratch
      ∧ (t.core vf v).sameFiles c ∧ (t.core vf v).pend = c.pend.erase e ∧ t.dram = s.dram
      ∧ (t.core vf v).shadow = c.shadow ∧ (t.core vf v).poison = c.poison
    (∀ (acc x k : Nat) (wr : Bool), 0 < k →
      let quiet : Prop := ∀ gr, ¬ p.racesAt c acc x k gr
      (raceFault p c acc x k wr = none ↔ quiet)
      ∧ (∀ fl, raceFault p c acc x k wr = some fl → ∃ gr other, p.racesAt c acc x k gr ∧ (∀ h, p.racesAt c acc x k h → gr ≤ h)
          ∧ tfind c.shadow gr = some (other, p.phase)
          ∧ fl = ⟨0x50, gr + other * 2 ^ 15 + acc * 2 ^ 24 + p.phase * 2 ^ 33 + if wr then 2 ^ 40 else 0⟩)
      ∧ (∀ fl, raceFault p c acc x k false = some fl → readFault p c acc x k = some fl)
      ∧ (quiet → x / 256 ∈ c.poison → readFault p c acc x k = some ⟨0x53, x / 256⟩)
      ∧ (quiet → x / 256 ∉ c.poison → (0, x / 256) ∈ c.bad → readFault p c acc x k = some ⟨0x60, x / 256 * 2 ^ 16⟩)
      ∧ (quiet → x / 256 ∉ c.poison → (0, x / 256) ∉ c.bad → readFault p c acc x k = none))
    ∧ (due → e.eff = .lds d a sz nat → clear a (2 ^ sz) → nat = true → reads touch fun t =>
        (t.core vf v).pend = later (e.ipt + 4) (.reg (.s d) (at_ a (2 ^ sz))))
    ∧ (due → e.eff = .lds d a sz nat → clear a (2 ^ sz) → nat = false → reads touch fun t =>
        (t.core vf v).pend = later (e.ipt + 4) (.reg (.s d) ((BitVec.ofNat (8 * 2 ^ sz) (at_ a (2 ^ sz))).signExtend 64).toNat))
    ∧ (due → e.eff = .vld isW r line → line < 4096 → clear (256 * line) 256 → reads touch fun t =>
        (t.core vf v).pend = later (e.ipt + 5) (.reg (if isW then .w r else .v r) (at_ (256 * line) 256)))
    ∧ (due → e.eff = .cpyRead line dst → line < 4096 → clear (256 * line) 256 → reads touch fun t =>
        (t.core vf v).pend = later (e.due + 3) (.storeLine dst (BitVec.ofNat 2048 (at_ (256 * line) 256))))
    ∧ (due → e.eff = .rld isW r line idx → line < 4096 → idx < 8 → clear (256 * line + 32 * idx) 32 → reads touch fun t =>
        (t.core vf v).pend = later (e.ipt + 4) (.reg (if isW then .y r else .x r) (recordOf (at_ (256 * line + 32 * idx) 32)).toNat))
    ∧ (due → e.eff = .cpyxRead core line dst → line < 4096 → clear (256 * line) 256 → reads touch fun t =>
        (t.core vf v).pend = later (e.due + 47) (.transit core dst (BitVec.ofNat 2048 (at_ (256 * line) 256))))
    ∧ (due → e.eff = .fsendRead port core line dst land → line < 4096 → clear (256 * line) 256 → reads touch fun t =>
        (t.core vf v).pend = later land (.sent port core dst land (BitVec.ofNat 2048 (at_ (256 * line) 256)))
        ∧ t.outbox = s.outbox ++ (List.range 4).map fun q => .timedFlit vf port core dst land q (at_ (256 * line + 64 * q) 64))
    ∧ (due → e.eff = .mpackRead r line g w n stride start rev → line < 4096 → clear (256 * line) 256 → reads touch fun t =>
        (t.core vf v).pend = later (e.ipt + 6) (.mpack r (packValue g w n start stride rev (at_ (256 * line) 256))
          (packFault g w n start stride (at_ (256 * line) 256) 0 0)))
    ∧ (due → e.eff = .mldbRead core idx line g w → line < 4096 → clear (256 * line) 256 → reads touch fun t =>
        (t.core vf v).pend = later (e.ipt + 8) (.mldb core idx (packValue g w (mldbCount g w) 0 1 false (at_ (256 * line) 256))
          (packFault g w (mldbCount g w) 0 1 (at_ (256 * line) 256) 1 core)))
    ∧ (due → e.eff = .mldqRead core idx line → line < 4096 → clear (256 * line) 256 → reads touch fun t =>
        (t.core vf v).pend = c.pend.erase e
        ∧ tget 0 (t.core vf v).mldqBuf ((4 * e.ipt + core) * 3 + idx) = BitVec.ofNat 2048 (at_ (256 * line) 256))
    ∧ (due → e.eff = .aopRead cmd line sz → line < 4096 → sz < 2 → clear (256 * line) 256 → reads touch fun t =>
        (t.core vf v).pend = c.pend.erase e ∧ (t.core vf v).cmds = c.cmds.map fun k => if k.id = cmd then
          { k with operand := some (at_ (256 * line) (4 * 2 ^ sz), at_ (256 * line + 4 * 2 ^ sz) (4 * 2 ^ sz)) } else k)
    ∧ (due → e.eff = .dwrRead line a → line < 4096 → clear (256 * line) 256 → reads touch fun t =>
        (t.core vf v).pend = c.pend.erase e ∧ t.dram = memWrite s.dram (p.dramAddr a) (memRead c.scratch (256 * line) 256))
    ∧ (due → e.eff = .storeLine line val → line < 4096 → c.dom (8 + line / 256) = .on → raceFault p c v (256 * line) 256 true = none →
        ∃ t, exec touch s = .next t ∧ wrote t (256 * line) (leBytes 256 val.toNat))
    ∧ (due → e.eff = .storeBytes a bs → a < 2 ^ 20 → c.dom (8 + a / 65536) = .on → raceFault p c v a bs.length true = none →
        ∃ t, exec touch s = .next t ∧ wrote t a bs)
    ∧ (e.eff = .lds d a sz nat → waits a (2 ^ sz) false) ∧ (e.eff = .vld isW r line → line < 4096 → waits (256 * line) 256 false)
    ∧ (e.eff = .dwrRead line a → line < 4096 → waits (256 * line) 256 false)
    ∧ (e.eff = .storeLine line val → line < 4096 → waits (256 * line) 256 true)
    ∧ (e.eff = .storeBytes a bs → a < 2 ^ 20 → waits a bs.length true) ∧ (e.eff = .mext a bs → a < 2 ^ 20 → waits a bs.length true)
    ∧ (due → e.eff = .lds d a sz nat → readFault p c v a (2 ^ sz) = some f → fails touch f)
    ∧ (due → e.eff = .vld isW r line → line < 4096 → readFault p c v (256 * line) 256 = some f → fails touch f)
    ∧ (due → e.eff = .storeBytes a bs → a < 2 ^ 20 → raceFault p c v a bs.length true = some f → fails touch f)
    ∧ (Due s vf v Eff.isMext e → e.eff = .mext a bs → a < 2 ^ 20 → c.dom (8 + a / 65536) = .on → raceFault p c v a bs.length true = none →
        ∃ t, exec (.mextWrite vf v) s = .next t ∧ wrote t a bs)
    ∧ (Due s vf v Eff.isMext e → e.eff = .mextFault d → fails (.mextWrite vf v) ⟨0x42, d⟩)
    ∧ (Due s vf v Eff.isEnqRead e → e.eff = .enqRead cmd line idx → line < 4096 → clear (256 * line) 256 → reads (.enqReadPhase vf v) fun t =>
        (t.core vf v).pend = c.pend.erase e ∧ (t.core vf v).cmds = c.cmds.map fun k => if k.id = cmd then
          { k with phase := k.phase.filter (fun j => decide (j ≠ idx)), copies := tput k.copies idx (BitVec.ofNat 2048 (at_ (256 * line) 256)) } else k)
    ∧ (Due s vf v Eff.isEnqFault e → e.eff = .enqFault cmd d → fails (.enqStartCheck vf v) ⟨0x61, d⟩)

/-- A DRD, CPYX or FSEND line lands in its cycle, or meets another access and is suppressed with 0x30 (R125; R126; R212; R242; R276; R305;
R311). A line that meets no other access, its bank ready, and races, or at phase 127 any such line, waits while a barrier wait leaves the
phase open (notes/assumptions/43). The order in which a conflict, a sleeping bank, a race and an array error are looked for is the model's
choice (notes/assumptions/18). -/
def Obligations.LandingsWriteOrConflict : Prop :=
  ∀ (s : State) (vf v : Nat) (l : Landing),
    let c := s.core vf v
    let p := s.part vf
    let i : Instr := match l.via with
      | .drd => .drdLanding vf v
      | .cpyx => .cpyxArrival vf v
      | .fsend => .fsendLanding vf v
    let busy : Prop := (∃ t ∈ c.touches, t.cycle = p.pt ∧ t.place = l.line / 256) ∨ p.pt % 256 = 255
    let rec_ (code detail : Nat) : FRec := ⟨code, v, l.slot, 1, false, l.baddr, l.ipt, p.pt, detail⟩
    let untouched (t : State) : Prop := (t.core vf v).scratch = c.scratch ∧ (t.core vf v).sameFiles c ∧ t.dram = s.dram
    let gone (t : State) : Prop := match l.via with
      | .drd => ∀ e ∈ (t.core vf v).pend, e.due ≤ p.pt → drdLandingOf v e = none
      | .cpyx => ∀ e ∈ (t.core vf l.sender).pend, e.due ≤ p.pt → cpyxLandingOf v l.sender e = none
      | .fsend => ∀ x ∈ (t.part vf).inbound, x.core = v → x.land ≤ p.pt → x.late ≠ 0
    let mark : Nat := if p.snare = true ∧ p.phasedAt ≠ some p.pt ∧ Stop.fault ∉ p.stops ∧ (∃ b, b < 16 ∧ (p.barrier b).waits ≠ [])
      then (p.phase + 1) % 128 else p.phase
    let settled : Prop := p.phaseUnsettled → p.phase ≠ 127
    p.landings v = [l] → l.line < 4096 →
      (p.phaseUnsettled → ¬ busy → (c.dom (8 + l.line / 256)).readyAt p.pt = true →
          (p.phase = 127 ∨ ∃ f, raceFault p c l.sender (256 * l.line) 256 true = some f) → exec i s = .next s)
      ∧ (¬ busy → settled → c.dom (8 + l.line / 256) = .on → raceFault p c l.sender (256 * l.line) 256 true = none → l.bad = none →
        ∃ t, exec i s = .next t ∧ (t.part vf).stops = p.stops ∧ gone t ∧ (t.core vf v).sameFiles c ∧ t.dram = s.dram
          ∧ (∀ k, k < 256 → memGet (t.core vf v).scratch (256 * l.line + k) = BitVec.ofNat 8 (l.val.toNat / 2 ^ (8 * k)))
          ∧ (∀ x, (x < 256 * l.line ∨ 256 * l.line + 256 ≤ x) → memGet (t.core vf v).scratch x = memGet c.scratch x)
          ∧ (l.line ∈ (t.core vf v).poison ↔ l.poisoned = true)
          ∧ (∀ gr, tfind (t.core vf v).shadow gr = if p.snare = true ∧ gr / 8 = l.line then some (l.sender, mark) else tfind c.shadow gr))
      ∧ (busy → Stop.fault ∉ p.stops → ∃ t, exec i s = .next t ∧ untouched t ∧ gone t
          ∧ Stops s t vf (rec_ 0x30 (l.line + (match l.via with | .drd => 0 | _ => l.sender * 2 ^ 16))))
      ∧ (¬ busy → (c.dom (8 + l.line / 256)).readyAt p.pt = false → Stop.fault ∉ p.stops → ∃ t, exec i s = .next t ∧ untouched t
          ∧ Stops s t vf (rec_ 0x10 (c.sleepDetail (8 + l.line / 256))))
      ∧ (∀ f, ¬ busy → ¬ p.phaseUnsettled → (c.dom (8 + l.line / 256)).readyAt p.pt = true → raceFault p c l.sender (256 * l.line) 256 true = some f →
          Stop.fault ∉ p.stops → ∃ t, exec i s = .next t ∧ untouched t ∧ gone t ∧ Stops s t vf (rec_ f.code f.detail))
      ∧ (∀ row, ¬ busy → settled → (c.dom (8 + l.line / 256)).readyAt p.pt = true → raceFault p c l.sender (256 * l.line) 256 true = none →
          l.bad = some row → Stop.fault ∉ p.stops →
          ∃ t, exec i s = .next t ∧ untouched t ∧ gone t ∧ Stops s t vf (rec_ 0x60 (2 + row * 2 ^ 16)))

/-- The watchdog, a missed refresh, a late timed line and a loss not repaid stop the partition with class 2 records (R137; R236; R240; R242; R277; R30). -/
def Obligations.DeadlineFaultsStop : Prop :=
  ∀ (s : State) (vf v : Nat) (tk : Task) (l : InLine),
    let p := s.part vf
    let late : Prop := ∃ ch b, ch < p.vchannels ∧ b ∈ p.programBanks ch ∧ (p.bank ch b).ref.getD p.t0 + 2049 ≤ p.pt
    let run (i : Instr) (code : Nat) (P : FRec → Prop) : Prop := ∃ t, exec i s = .next t ∧ (t.part vf).stops = p.stops ++ [.fault]
      ∧ (t.part vf).frec.code = code ∧ (t.part vf).frec.slot = 7 ∧ (t.part vf).frec.cls = 2 ∧ (t.part vf).frec.stoppt = p.pt ∧ P (t.part vf).frec
      ∧ (t.part vf).pt = p.pt
    Stop.fault ∉ p.stops →
    (p.task = some tk → 0 < tk.watchdog → tk.t0 + tk.watchdog ≤ p.pt → run (.watchdog vf) 0x71 (fun f => f.detail = tk.watchdog ∧ f.pt = p.pt))
    ∧ (p.task = some tk → (tk.watchdog = 0 ∨ p.pt < tk.t0 + tk.watchdog) → exec (.watchdog vf) s = .next s)
    ∧ (late → run (.refreshDeadline vf) 0x33 (fun _ => True))
    ∧ (¬ late → exec (.refreshDeadline vf) s = .next s)
    ∧ (p.lateLines v = [l] → p.owed ≤ 48 → run (.linkTimingFault vf v) 0x52
        (fun f => f.vcore = v ∧ f.detail = l.port % 32 + min l.late 65535 * 2 ^ 16 ∧ f.more = false))
    ∧ (p.lateLines v = [] → 48 < p.owed → run (.linkTimingFault vf v) 0x52
        (fun f => f.vcore = v ∧ f.detail = min p.owed 65535 * 2 ^ 16 ∧ f.more = false))
    ∧ (p.lateLines v = [] → p.owed ≤ 48 → ∃ t, exec (.linkTimingFault vf v) s = .next t ∧ (t.part vf).stops = p.stops
        ∧ (t.part vf).inbound = p.inbound ∧ (t.part vf).debts = p.debts)
    ∧ (∀ x, p.lateLines v = [l] → x ∈ p.inbound → x ≠ l → ∃ t, exec (.linkTimingFault vf v) s = .next t ∧ x ∈ (t.part vf).inbound ∧ l ∉ (t.part vf).inbound)

/-- An engine's scratchpad accesses, pieces behind pages, page walks and flag word: what each moves and how the command goes on (R128; R141;
R144; R155; R200; R201; R202; R209; R215). The model's choices: the command acts again in a later Tabor cycle (assumption 2), a page's WP
does not bind engines (assumption 30), of a piece whose source cannot be moved in part the bytes from that source alone are left out and
BYTES counts each element's bytes (assumption 105), which frame a page takes (assumption 50), the command of a walk that no frame can
serve counts its page as unmapped (assumption 93), BYTES counts a sent piece once it is acknowledged (assumption 60), and a flit bears the
physical core number (assumption 113). -/
def Obligations.EngineAccessesAndFlags : Prop :=
  ∀ (s : State) (vf v id a d : Nat) (k : Cmd) (pc : Piece) (rest : List Piece) (cs : List (Nat × Byte)) (w : List Nat) (y : Byte) (g : Page),
    let c := s.core vf v
    let p := s.part vf
    let next (b : Act) : Prop := c.cmd id = some k ∧ nextAct s vf v k = some b
    let on (k' : Cmd) (t : State) : Prop := ∃ u, s.tabor < u ∧ (t.core vf v).cmd id = some { k' with wake := u }
    let gone (t : State) : Prop := ∀ j ∈ (t.core vf v).cmds, j.id ≠ id
    let marks (t : State) : Prop := (t.core vf v).shadow = c.shadow ∧ (t.core vf v).poison = c.poison ∧ (t.core vf v).sameFiles c
    let run (j : Instr) (P : State → Prop) : Prop := ∃ t, exec j s = .next t ∧ P t
    let scratch := Instr.untimedScratchAccess vf v id
    let piece := Instr.enginePiece vf v id
    let flag := Instr.flagWordWrite vf v id
    let toHost (cs : List (Nat × Byte)) : Mem := cs.foldl (fun m e => memWrite m (g.place e.1) [e.2]) s.host
    let word : Nat := (if k.status = 0 then 1 else k.status) + min k.bytes (2 ^ 32 - 1) * 2 ^ 32
    let bad (st d : Nat) : Prop := ∃ x, (x, d) ∈ pc.bytes ∧ k.source x = .bad st
    let noted (st d : Nat) (j : Cmd) : Cmd := if k.status = 0 ∨ d < k.statusAt then { j with status := st, statusAt := d } else j
    let after (j : Cmd) (t : State) : Prop := ((∀ st d, ¬ bad st d) → (k.cells pc).length = pc.bytes.length ∧ on j t)
      ∧ ((∃ st d, bad st d) → ∃ st d, bad st d ∧ (∀ st' d', bad st' d' → d ≤ d') ∧ on (noted st d j) t)
    let performed (t : State) : Prop := after { k with pieces := rest, unmapped := false, bytes := k.bytes + (k.cells pc).length } t
    let phys := p.phys v
    let dev := recDevice k.dst
    let seq := ((s.stream phys dev k.scope).map fun x => x.seq).getD 0
    let sent (port : Nat) (cells : List (Nat × Byte)) : List Out :=
      (((List.range 4).map fun q => cells.filter fun x => decide (x.1 / 64 % 4 = q)).filter fun l => !l.isEmpty).zipIdx.map fun e =>
        .untimed phys dev k.scope (seq + e.2) port (.write (e.1.map fun x => (g.place x.1, x.2)))
    let untouched (t : State) : Prop := t.host = s.host ∧ t.t1 = s.t1 ∧ t.dram = s.dram ∧ t.remote = s.remote ∧ (t.core vf v).scratch = c.scratch
    let portless (t : State) : Prop := on { k with since := some s.tabor } t ∧ t.outbox = s.outbox ∧ untouched t
    let writes (g : Page) : Prop := next .memWrite ∧ k.pieces = pc :: rest ∧ k.cells pc = (d, y) :: cs ∧ spotOf s vf v k d = .at g
    let readsAt (g : Page) : Prop := next .memRead ∧ k.pieces = pc :: rest ∧ k.wanted pc = a :: w ∧ spotOf s vf v k a = .at g
    let flagAt (g : Page) : Prop := next .flag ∧ k.flagPlace = .inr a ∧ spotOf s vf v k a = .at g
    let queued (t : State) : Prop := on { k with queued := true } t ∧ (t.part vf).t1Queue = p.t1Queue ++ [(g.vch, .cmd v k.id)] ∧ t.t1 = s.t1
    let reads (k' : Cmd) (size : Nat) (f : Nat → Got) (t : State) : Prop := ∃ got, on { k' with got := got, unmapped := false } t
      ∧ (∀ e ∈ k.wanted pc, e / size = a / size → tfind got e = some (f e)) ∧ ∀ e b, tfind k.got e = some b → tfind got e = some b
    (next .scratchWrite → k.pieces = pc :: rest → run scratch fun t =>
        performed t ∧ (t.core vf v).scratch = loadBytes c.scratch (k.cells pc) ∧ marks t)
    ∧ (next .scratchRead → k.pieces = pc :: rest → k.wanted pc = a :: w → run scratch fun t =>
        reads k 256 (fun e => if (0, a / 256) ∈ c.bad ∨ a / 256 ∈ c.poison then .bad 0x80000004 else .byte (memGet c.scratch e)) t
        ∧ (t.core vf v).scratch = c.scratch ∧ marks t)
    ∧ (writes g → g.tier = 2 → run piece fun t => performed t ∧ t.host = toHost (k.cells pc) ∧ t.t1 = s.t1 ∧ t.dram = s.dram)
    ∧ (∀ z ∈ s.streams, ∀ f ∈ z.unacked, c.cmd id = some k → (∀ n m, k.kind ≠ .aop n m) → k.pieces = pc :: rest → k.cells pc = (d, y) :: cs →
        recSpace k.dst ≠ 0 → spotOf s vf v k d = .at g → g.tier ≠ 3 → z.incoming = false → z.core = phys → f.cmd = k.id → nextAct s vf v k ≠ some .memWrite)
    ∧ (next .memWrite → k.pieces = pc :: rest → k.cells pc = [] → run piece fun t => performed t ∧ t.host = s.host ∧ t.t1 = s.t1 ∧ t.dram = s.dram)
    ∧ (writes g → g.tier = 1 → run piece queued)
    ∧ (∀ port, writes g → g.tier = 3 → s.portFor phys dev k.scope = some port → run piece fun t => t.outbox = s.outbox ++ sent port (k.cells pc)
        ∧ after { k with pieces := rest, unmapped := false, since := none } t ∧ untouched t)
    ∧ (writes g → g.tier = 3 → s.portFor phys dev k.scope = none → run piece portless)
    ∧ (writes g → g.tier = 0 → run piece fun t => on (k.failed 0x80000001) t ∧ t.host = s.host ∧ t.dram = s.dram)
    ∧ (next .memWrite → k.pieces = pc :: rest → k.cells pc = (d, y) :: cs → spotOf s vf v k d = .nowhere → run piece fun t =>
        on (k.failed 0x80000002) t ∧ t.host = s.host ∧ t.dram = s.dram)
    ∧ (readsAt g → g.tier = 2 → run piece fun t => reads { k with since := none } 256 (fun e => .byte (memGet s.host (g.place e))) t ∧ untouched t)
    ∧ (readsAt g → g.tier = 1 → run piece queued)
    ∧ (readsAt g → g.tier = 3 → s.livePort (recDevice k.src) ≠ none → run piece fun t => untouched t
        ∧ reads { k with since := none } 256 (fun e => .byte (memGet s.remote (recDevice k.src * 2 ^ 64 + g.place e))) t)
    ∧ (readsAt g → g.tier = 3 → s.livePort (recDevice k.src) = none → run piece portless)
    ∧ (readsAt g → g.tier = 0 → run piece (reads k 65536 fun _ => .bad 0x80000001))
    ∧ (next .memRead → k.pieces = pc :: rest → k.wanted pc = a :: w → spotOf s vf v k a = .nowhere → run piece
        (reads k 65536 fun _ => .bad 0x80000002))
    ∧ (next .walk → p.pageAt (k.needs / 65536) = some g → g.resident = true → run (.engineWalk vf v id) fun t =>
        on k t ∧ (vf, g) ∈ tget [] t.towerTlb (p.tower v) ∧ t.dram = s.dram)
    ∧ (∀ frame, next .walk → p.pageAt (k.needs / 65536) = some g → g.resident = false → p.frameFor (g.va / 65536) g.size = some frame →
        run (.engineWalk vf v id) fun t => on k t ∧ (t.part vf).pageAt (k.needs / 65536) = some { g with phys := frame.1, resident := true }
          ∧ (vf, { g with phys := frame.1, resident := true }) ∈ tget [] t.towerTlb (p.tower v) ∧ t.host = s.host ∧ t.t1 = s.t1)
    ∧ (next .walk → p.pageAt (k.needs / 65536) = some g → g.resident = false → (p.joined (g.va / 65536) g.size).frameFor (g.va / 65536) g.size = none →
        p.victims g = [] → p.failing = none → run (.engineWalk vf v id) fun t => on { k with unmapped := true } t
          ∧ (t.part vf).failing = some (0x100, s.tabor) ∧ (t.part vf).stops = p.stops ++ [.fail] ∧ untouched t)
    ∧ (next .walk → p.pageAt (k.needs / 65536) = none → run (.engineWalk vf v id) fun t => on { k with unmapped := true } t)
    ∧ (next .flag → k.flagPlace = .inl a → run flag fun t => gone t ∧ (t.core vf v).scratch = loadBytes c.scratch (numCells a 8 word) ∧ marks t)
    ∧ (flagAt g → g.tier = 1 → run flag queued)
    ∧ (∀ port, flagAt g → g.tier = 3 → s.portFor phys dev k.scope = some port → run flag fun t => t.outbox = s.outbox ++ sent port (numCells a 8 word)
        ∧ on { k with resultDone := true } t ∧ untouched t)
    ∧ (flagAt g → g.tier = 3 → s.portFor phys dev k.scope = none → run flag portless)
    ∧ (flagAt g → g.tier = 2 → run flag fun t => gone t ∧ t.host = toHost (numCells a 8 word))
    ∧ (next .flag → k.flagPlace = .inr a → (spotOf s vf v k a = .nowhere ∨ (flagAt g ∧ g.tier = 0)) → p.failing = none →
        run flag fun t => gone t ∧ (t.part vf).failing.isSome = true ∧ (t.part vf).stops = p.stops ++ [.fail] ∧ t.host = s.host)

/-- AOP performs once at its location; a service port serves its oldest request; dead ports and drains end commands (R142; R201; R203; R204;
R207; R210; R253; R278; R298). The model's choices: an AOP is performed whatever the page's WP (assumption 30), what waits at a port
beside engine commands (assumption 98), that a lost source ends a command as a lost destination does and flits to a live device are
awaited (assumption 112), that a cancelled command stays until its flag is written (assumption 100), that a port is open in every cycle
while PT stands (assumption 45), and that a flit bears the physical core number (assumption 113). -/
def Obligations.AtomicsPortsAndDrains : Prop :=
  ∀ (s : State) (vf v id vch fn size n a i st hi u : Nat) (k j : Cmd) (g : Page) (e : Nat × T1Req) (q : List (Nat × T1Req)) (op : Nat × Nat) (b : Act)
    (pc : Piece) (rest : List Piece) (w : List Nat) (m : Node) (im : Image) (x : After),
    let c := s.core vf v
    let p := s.part vf
    let next (b : Act) : Prop := c.cmd id = some k ∧ nextAct s vf v k = some b
    let perform := Instr.aopPerform vf v id
    let run (j : Instr) (P : State → Prop) : Prop := ∃ t, exec j s = .next t ∧ P t
    let at_ := recBase k.dst
    let old (f : Nat → Byte) := leNat ((List.range n).map fun i => f (at_ + i))
    let new (old : Nat) : Nat := match fn with
      | 0 => (old + op.1) % 2 ^ (8 * n)
      | 1 => if (BitVec.ofNat (8 * n) op.1).toInt < (BitVec.ofNat (8 * n) old).toInt then op.1 else old
      | 2 => if (BitVec.ofNat (8 * n) old).toInt < (BitVec.ofNat (8 * n) op.1).toInt then op.1 else old
      | 3 => op.1
      | 4 => if old = op.1 then op.2 else old
      | 5 => old &&& op.1
      | _ => old ||| op.1
    let isAop : Prop := k.kind = .aop fn size ∧ n = 4 * 2 ^ size ∧ k.operand = some op
    let t2 (a : Nat) := memGet s.host (g.place a)
    let t1 (a : Nat) := memGet s.t1 (g.t1Place p a)
    let delivered (old : Nat) (t : State) : Prop := ∃ k', (t.core vf v).cmd id = some k' ∧ k'.old = some old ∧ k'.bytes = n ∧ k'.pieces = k.pieces
    let toT1 (cs : List (Nat × Byte)) : Mem := cs.foldl (fun m e => memWrite m (g.t1Place p e.1) [e.2]) s.t1
    let failedWith (st : Nat) (t : State) : Prop := ∃ k', (t.core vf v).cmd id = some k' ∧ (k.status = 0 → k'.status = st) ∧ k'.resultDone = true
    let gone (t : State) : Prop := ∀ j ∈ (t.core vf v).cmds, j.id ≠ id
    let word : Nat := (if k.status = 0 then 1 else k.status) + min k.bytes (2 ^ 32 - 1) * 2 ^ 32
    let phys := p.phys v
    let dev := recDevice k.dst
    let seq := ((s.stream phys dev k.scope).map fun x => x.seq).getD 0
    let enq : Prop := ∃ kind, k.kind = .enq kind
    let sent (y : Sent) : Prop := y.cmd = k.id ∧ ∃ r ∈ s.streams, r.incoming = false ∧ r.core = phys ∧ y ∈ r.unacked
    let lost (y : Sent) : Prop := y.cmd = k.id ∧ ∃ r ∈ s.streams, r.incoming = false ∧ r.core = phys ∧ s.livePort r.dev = none ∧ y ∈ r.unacked
    let flagOnly : Prop := k.pieces = [] ∧ enq ∧ (k.resultDone = true ∨ ∀ y, ¬ sent y)
    let fewer (t : State) : Prop := (∀ r ∈ s.streams, s.livePort r.dev ≠ none → r ∈ t.streams)
      ∧ ∀ r ∈ t.streams, r.incoming = false → r.core = phys → s.livePort r.dev = none → ∀ y ∈ r.unacked, y.cmd ≠ k.id
    let same (t : State) : Prop := t.host = s.host ∧ t.t1 = s.t1 ∧ t.dram = s.dram ∧ t.remote = s.remote
    let to_ := s.part u
    let badRow : Prop := (2 ^ 40 + g.t1Place p k.needs / 4096) ∈ s.dramBad
    let open_ : Prop := (p.stops ≠ [] ∨ (p.pt % 8 = 7 ∧ s.stretchUntil ≤ s.tabor)) ∧ tget 0 p.served vch ≤ s.tabor
    let served : Prop := (p.t1Queue.filter fun r => decide (r.1 = vch)) = e :: q ∧ open_
    let servedAt : Prop := served ∧ e.2 = .cmd v id ∧ c.cmd id = some k ∧ p.pageAt (k.needs / 65536) = some g ∧ g.tier = 1
    (next .perform → isAop → spotOf s vf v k at_ = .at g → g.tier = 2 → run perform fun t =>
        t.host = (numCells at_ n (new (old t2))).foldl (fun m e => memWrite m (g.place e.1) [e.2]) s.host ∧ delivered (old t2) t ∧ t.dram = s.dram)
    ∧ (next .perform → spotOf s vf v k at_ = .at g → g.tier = 0 → run perform fun t => t.host = s.host ∧ t.dram = s.dram ∧ failedWith 0x80000001 t)
    ∧ (next .perform → spotOf s vf v k at_ = .nowhere → run perform fun t => t.host = s.host ∧ failedWith 0x80000002 t)
    ∧ (next .perform → spotOf s vf v k at_ = .at g → g.tier = 1 → run perform fun t => same t
        ∧ (t.part vf).t1Queue = p.t1Queue ++ [(g.vch, .cmd v k.id)] ∧ ∃ k', (t.core vf v).cmd id = some k' ∧ k'.queued = true ∧ k'.old = k.old)
    ∧ (∀ port, next .perform → isAop → spotOf s vf v k at_ = .at g → g.tier = 3 → s.portFor phys dev k.scope = some port → run perform fun t => same t
        ∧ t.outbox = s.outbox ++ [.untimed phys dev k.scope seq port (.aop (g.place at_) fn n op.1 op.2)]
        ∧ ∃ k', (t.core vf v).cmd id = some k' ∧ k'.old = k.old ∧ k'.status = k.status)
    ∧ (served → e.2 = .cmd v id → run (.serviceWindow vf vch) fun t => (∀ x ∈ (t.part vf).t1Queue, x ∈ p.t1Queue.erase e)
        ∧ (∀ x ∈ p.t1Queue.erase e, x.2 ≠ e.2 → x ∈ (t.part vf).t1Queue) ∧ tget 0 (t.part vf).served vch = s.tabor + 1)
    ∧ (servedAt → (∀ f z, k.kind ≠ .aop f z) → k.pieces = pc :: rest → k.wanted pc = [] → run (.serviceWindow vf vch) fun t =>
        t.t1 = toT1 (k.cells pc) ∧ t.host = s.host ∧ t.dram = s.dram
        ∧ ∃ k', (t.core vf v).cmd id = some k' ∧ k'.pieces = rest ∧ k'.queued = false ∧ k'.bytes = k.bytes + (k.cells pc).length)
    ∧ (servedAt → (∀ f z, k.kind ≠ .aop f z) → k.pieces = pc :: rest → k.wanted pc = a :: w → run (.serviceWindow vf vch) fun t => same t
        ∧ ∃ k', (t.core vf v).cmd id = some k' ∧ k'.pieces = k.pieces ∧ k'.queued = false
          ∧ ∀ z ∈ k.wanted pc, z / 256 = a / 256 → (badRow → tfind k'.got z = some (.bad 0x80000004)) ∧ (¬ badRow → tfind k'.got z = some (.byte (t1 z))))
    ∧ (servedAt → (∀ f z, k.kind ≠ .aop f z) → k.pieces = [] → run (.serviceWindow vf vch) fun t => gone t ∧ t.t1 = toT1 (numCells k.needs 8 word))
    ∧ (served → e.2 = .word m st hi x → (x = .refused ∨ x = .plain) → m.done % 8 = 0 → p.pageAt (m.done / 65536) = some g → g.tier = 1 →
        tfind p.outChans g.vch = none → run (.serviceWindow vf vch) fun t => t.t1 = toT1 (numCells m.done 8 (st + hi % 2 ^ 32 * 2 ^ 32))
          ∧ t.host = s.host ∧ (t.part vf).t1Queue = p.t1Queue.erase e ∧ (t.part vf).queue = p.queue)
    ∧ (served → e.2 = .launch u a → to_.live = true → to_.tenant = p.tenant → (∃ h, to_.resid = .bound h) →
        s.refusesNode u (virtualRead s vf a 64) = false → to_.pendingNodes.length < 256 → run (.serviceWindow vf vch) fun t => same t
          ∧ (t.part u).queue = to_.queue ++ [nodeOf (virtualRead s vf a 64)])
    ∧ (served → e.2 = .launch u a → (to_.live = false ∨ to_.tenant ≠ p.tenant) → run (.serviceWindow vf vch) fun t => same t
        ∧ ∀ z, (t.part z).queue = (s.part z).queue)
    ∧ (served → e.2 = .arg i → p.loading = some (m, st) → tfind s.images m.image = some im → i < 16 → u < im.cores → p.isLocal u = true →
        run (.serviceWindow vf vch) fun t => same t
          ∧ ∀ z, z < 256 → memGet (t.core vf u).scratch (256 * i + z) = virtualByte s vf (m.argAddr + 256 * i + z))
    ∧ (served → s.inTurn e.2 = false → exec (.serviceWindow vf vch) s = .next s)
    ∧ (servedAt → isAop → ¬ badRow → run (.serviceWindow vf vch) fun t => t.t1 = toT1 (numCells at_ n (new (old t1))) ∧ delivered (old t1) t)
    ∧ (servedAt → isAop → badRow → run (.serviceWindow vf vch) fun t => t.t1 = s.t1 ∧ failedWith 0x80000004 t)
    ∧ (((p.t1Queue.filter fun r => decide (r.1 = vch)) = [] ∨ ¬ open_) → exec (.serviceWindow vf vch) s = .next s)
    ∧ (next .giveUp → ¬ flagOnly → run (.destinationUnreachable vf v id) fun t => t.remote = s.remote ∧ t.host = s.host ∧ fewer t
        ∧ ∃ k' z, (t.core vf v).cmd id = some k' ∧ k'.pieces = [] ∧ k'.bytes = k.bytes
          ∧ k'.status = (if k.status = 0 ∨ z < k.statusAt then 0x80000005 else k.status)
          ∧ (z = k.lowest ∨ ∃ y, lost y ∧ z = y.addr) ∧ (k.pieces ≠ [] → z ≤ k.lowest) ∧ (∀ y, lost y → z ≤ y.addr)
          ∧ (k.pieces = [] → (∃ y, lost y) → ∃ y, lost y ∧ z = y.addr))
    ∧ (next .giveUp → flagOnly → run (.destinationUnreachable vf v id) fun t => gone t ∧ same t ∧ fewer t)
    ∧ (p.drainOver s.tabor = true → run (.drainTimeout vf) fun t => same t ∧ ∀ z,
        ((t.core vf z).cmds.map fun x => x.id) = ((s.core vf z).cmds.map fun x => x.id) ∧ (t.core vf z).scratch = (s.core vf z).scratch
        ∧ ∀ y ∈ (t.core vf z).cmds, y.status = 0x80000003 ∧ ∃ x ∈ (s.core vf z).cmds, x.id = y.id ∧ y.bytes = x.bytes
          ∧ (x.status ≠ 0x80000003 → y.pieces = [] ∧ y.phase = [] ∧ y.queued = false))
    ∧ (p.drainOver s.tabor = false → exec (.drainTimeout vf) s = .next s)
    ∧ (j ∈ c.cmds → j.id < k.id → k.rel = true → nextAct s vf v k = some b → b ≠ .scratchWrite ∧ b ≠ .memWrite ∧ b ≠ .perform ∧ b ≠ .flag)
    ∧ (j ∈ c.cmds → j.id < k.id → k.acq = true → nextAct s vf v k = some b →
        b ≠ .scratchRead ∧ b ≠ .memRead ∧ b ≠ .perform ∧ b ≠ .scratchWrite ∧ b ≠ .memWrite)

/-- An expected untimed flit is performed once and acknowledged, any other discarded; replay, ports down and trained (R212; R272; R278; R15;
R11; R132; R142). The model's choices: a received flit acts at its address on this device's own T1 memory, and on nothing beyond it
(assumption 59), which reaches as far as the service banks (assumption 111), waits at a service port only where a bound partition has its
channel (assumption 98), a port being open in every cycle while PT stands (assumption 45), and a stream bears the physical core number
(assumption 113). -/
def Obligations.UntimedStreamsOncePerFlit : Prop :=
  ∀ (s : State) (vf dev core scope seq port dom cls a n fn x y w ch : Nat) (f : Flit) (fs : List Flit) (cs : Mem) (st : Stream)
    (q : List (Nat × T1Req)),
    let got := Instr.untimedFlitReceived dev core scope seq
    let same (t : Stream) : Bool := t.incoming && decide (t.core = core ∧ t.dev = dev ∧ t.scope = scope)
    let expected (s : State) : Nat := ((s.streams.filter same).head?.map fun t => t.seq).getD 0
    let old := leNat (memRead s.t1 a n)
    let run (j : Instr) (P : State → Prop) : Prop := ∃ t, exec j s = .next t ∧ P t
    let phys := (s.part vf).phys core
    let unclaimed (f : Flit) : Prop := ∀ e ∈ s.parts, e.2.isBound = true → ∀ c, c < e.2.channels → e.2.channel c ≠ f.addr / 2 ^ 32
    let near (x : Nat) : Prop := x / 2 ^ 32 < 128 ∧ ∃ r ∈ s.parts, ∃ k ∈ r.2.chanTable, k.2 = x / 2 ^ 32
      ∧ x % 2 ^ 32 / 65536 < 4096 * (List.range 16).countP fun b => (tget 0 r.2.service k.1).testBit b
    let wrote (t : State) : Prop := t.t1 = writeCells s.t1 0 (cs.filter fun x => s.isNear x.1)
    let served (f : Flit) : Prop := ((s.part w).stops ≠ [] ∨ ((s.part w).pt % 8 = 7 ∧ s.stretchUntil ≤ s.tabor)) ∧ tget 0 (s.part w).served ch ≤ s.tabor
      ∧ s.inTurn (.flit core dev scope seq f) = true
      ∧ ((s.part w).t1Queue.filter fun r => decide (r.1 = ch)) = (ch, .flit core dev scope seq f) :: q
    let padded (p : Port) : Port := if p.up = true ∧ p.dom = dom ∧ dom ≠ 0 then { p with cls := cls } else p
    (∀ x, s.isNear x = true ↔ near x)
    ∧ (s.flits = .write cs :: fs → unclaimed (.write cs) → seq = expected s → run got fun t => t.flits = fs ∧ wrote t
        ∧ t.outbox = s.outbox ++ [.ack core dev scope seq 0] ∧ expected t = seq + 1 ∧ t.dram = s.dram ∧ t.host = s.host)
    ∧ (s.flits = .aop a fn n x y :: fs → unclaimed (.aop a fn n x y) → (∀ i, i < n → near (a + i)) → seq = expected s → run got fun t => t.flits = fs
        ∧ t.t1 = memWrite s.t1 a (leBytes n (aopNew fn (8 * n) old x y)) ∧ t.outbox = s.outbox ++ [.ack core dev scope seq old] ∧ expected t = seq + 1)
    ∧ (s.flits = .aop a fn n x y :: fs → unclaimed (.aop a fn n x y) → (∃ i, i < n ∧ ¬ near (a + i)) → seq = expected s → run got fun t => t.flits = fs ∧ t.t1 = s.t1
        ∧ (∃ z, t.outbox = s.outbox ++ [.ack core dev scope seq z]) ∧ expected t = seq + 1)
    ∧ (s.flits = f :: fs → s.flitPort f = some (w, ch) → seq = expected s → run got fun t => t.flits = fs ∧ t.t1 = s.t1 ∧ t.outbox = s.outbox
        ∧ expected t = seq + 1 ∧ (t.part w).t1Queue = (s.part w).t1Queue ++ [(ch, .flit core dev scope seq f)])
    ∧ (served (.write cs) → run (.serviceWindow w ch) fun t => wrote t ∧ t.outbox = s.outbox ++ [.ack core dev scope seq 0]
        ∧ (t.part w).t1Queue = (s.part w).t1Queue.erase (ch, .flit core dev scope seq (.write cs)))
    ∧ (served (.aop a fn n x y) → (∀ i, i < n → near (a + i)) → run (.serviceWindow w ch) fun t => t.t1 = memWrite s.t1 a (leBytes n (aopNew fn (8 * n) old x y))
        ∧ t.outbox = s.outbox ++ [.ack core dev scope seq old])
    ∧ (served (.aop a fn n x y) → (∃ i, i < n ∧ ¬ near (a + i)) → run (.serviceWindow w ch) fun t => t.t1 = s.t1
        ∧ ∃ z, t.outbox = s.outbox ++ [.ack core dev scope seq z])
    ∧ (s.flits = f :: fs → seq ≠ expected s → run got fun t => t.flits = fs ∧ t.t1 = s.t1 ∧ t.outbox = s.outbox ∧ t.streams = s.streams)
    ∧ (s.flits = [] → exec got s = .next s)
    ∧ (s.stream phys dev scope = some st → run (.streamReplay vf core dev scope seq) fun t => t.streams = s.streams
        ∧ t.outbox = s.outbox ++ (st.unacked.filter fun z => decide (seq ≤ z.seq)).map fun z => .untimed phys dev scope z.seq st.port z.flit)
    ∧ (s.stream phys dev scope = none → exec (.streamReplay vf core dev scope seq) s = .next s)
    ∧ (run (.portDown port) fun t => (tget Port.fresh t.ports port).up = false ∧ (∀ q, q ≠ port → tget Port.fresh t.ports q = tget Port.fresh s.ports q)
        ∧ (∀ z ∈ s.streams, z.unacked ≠ [] → z ∈ t.streams) ∧ t.adopted = s.adopted ∧ ∀ w c, (t.core w c).scratch = (s.core w c).scratch)
    ∧ (run (.portTraining port dom cls) fun t => tget Port.fresh t.ports (port % 32) = ⟨true, dom, cls⟩
        ∧ (∀ q, q ≠ port % 32 → tget Port.fresh t.ports q = padded (tget Port.fresh s.ports q)) ∧ (∀ z ∈ s.streams, z.unacked ≠ [] → z ∈ t.streams)
        ∧ ((∀ e ∈ s.ports, ¬ (e.2.up = true ∧ e.2.dom = dom)) → dom ∉ t.adopted) ∧ (∀ z, z ≠ dom → (z ∈ t.adopted ↔ z ∈ s.adopted)))

/-- REFRESH_DONE, REFRESH_KEEPER and MAINTENANCE_CYCLE (R31; R138; R312). -/
def Obligations.RefreshesEndAndKeepersKeep : Prop :=
  ∀ (s : State) (vf vch b till c d w : Nat),
    let p := s.part vf
    let run (j : Instr) (P : State → Prop) : Prop := ∃ t, exec j s = .next t ∧ t.dram = s.dram ∧ (t.part w).pt = (s.part w).pt ∧ P t
    (b < 16 → (p.bank vch b).st = .refreshing till → till ≤ p.pt → run (.refreshDone vf vch b) fun t => ((t.part vf).bank vch b).st = .idle
        ∧ ((t.part vf).bank vch b).ref = (p.bank vch b).ref ∧ (d < 16 → ¬ (c = vch ∧ d = b) → (t.part vf).bank c d = p.bank c d))
    ∧ ((p.bank vch b).st ≠ .refreshing till ∨ p.pt < till → (∀ r, (p.bank vch b).st = .refreshing r → r = till) →
        run (.refreshDone vf vch b) fun t => (t.part vf).bank vch b = p.bank vch b)
    ∧ (p.task = none → run (.refreshKeeper vf) fun t => ((t.part vf).bank c d).st = .idle)
    ∧ (p.task ≠ none → run (.refreshKeeper vf) fun t => (t.part vf).bank c d = p.bank c d)
    ∧ (run (.maintenanceCycle vf) fun t => t.part w = s.part w)

/-- A hold is armed for the first beat boundary D ahead, starts there, lasts 256 n Tabor cycles, and ends (R17; R21; R22; R23; R26). That a
request to an unbound partition, or with the Belfry down, does nothing is the model's reading (assumptions 84 and 65). -/
def Obligations.HoldsArmedRunAndEnd : Prop :=
  ∀ (s : State) (vf n b len ends : Nat),
    let p := s.part vf
    let d : Nat := match p.cls with | 0 => 64 | 1 => 600 | 2 => 1800 | _ => 6000
    let armed (m : Nat) (t : State) : Prop :=
      ∃ B, (t.part vf).hold = some (B, 256 * m) ∧ (t.part vf).holdNext = none ∧ B % 1024 = 0 ∧ p.pt + d ≤ B ∧ B < p.pt + d + 1024
    let same (t : State) : Prop := (t.part vf).pt = p.pt ∧ (∀ c, t.core vf c = s.core vf c) ∧ s.onlyPart t vf
    let run (j : Instr) (P : State → Prop) : Prop := ∃ t, exec j s = .next t ∧ same t ∧ P t
    (s.fatal = 0 → p.isBound = true → 1 ≤ n → n ≤ 4096 → (∀ x ∈ p.stops, x.isHold = false) → run (.holdRequest vf n) fun t =>
        armed n t ∧ (t.part vf).stops = p.stops)
    ∧ (s.fatal = 0 → p.isBound = true → 1 ≤ n → n ≤ 4096 → (∃ x ∈ p.stops, x.isHold = true) → run (.holdRequest vf n) fun t =>
        (t.part vf).holdNext = some n ∧ (t.part vf).hold = p.hold ∧ (t.part vf).stops = p.stops)
    ∧ ((n = 0 ∨ 4096 < n ∨ p.isBound = false ∨ s.fatal ≠ 0) → exec (.holdRequest vf n) s = .next s)
    ∧ (p.hold = some (b, len) → b ≤ p.pt → run (.holdStart vf) fun t => (t.part vf).stops = p.stops ++ [.hold (s.tabor + len)] ∧ (t.part vf).hold = none)
    ∧ ((p.hold = none ∨ (p.hold = some (b, len) ∧ p.pt < b)) → run (.holdStart vf) fun t => (t.part vf).stops = p.stops ∧ (t.part vf).hold = p.hold)
    ∧ (.hold ends ∈ p.stops → ends ≤ s.tabor → run (.holdEnd vf) fun t =>
        ∀ x, x ∈ (t.part vf).stops ↔ x ∈ p.stops ∧ ∀ e, x = .hold e → s.tabor < e)
    ∧ (p.stops = [.hold ends] → ends ≤ s.tabor → p.holdNext = some n → run (.holdEnd vf) fun t =>
        armed n t ∧ (t.part vf).stops = [])
    ∧ ((∀ e, .hold e ∈ p.stops → s.tabor < e) → exec (.holdEnd vf) s = .next s)

/-- Stop notices, alignment flits and pauses, droop stretches and sync flits (R15; R28; R29; R30; R355). The model's choices: that devices at
one PT resume by messages (assumption 109) and are excused from a late notice (assumption 110), whose turn it is, when the next flit is
due and what a device beyond X − D does, a notice to a device in a hold or behind a flit, and the flit to one that stays stopped
(assumption 67), what an alignment repays (48), how a Tabor is brought within 2 counts (49), and that a pause sends no stop notice (90). -/
def Obligations.DevicesAlignAndDroop : Prop :=
  ∀ (s : State) (vf dev pt x b n ends cycles lost dom val : Nat),
    let p := s.part vf
    let d := p.delay
    let beat (after B : Nat) : Prop := B % 1024 = 0 ∧ after ≤ B ∧ B < after + 1024
    let run (j : Instr) (P : State → Prop) : Prop := ∃ t, exec j s = .next t ∧ (t.part vf).pt = p.pt ∧ (∀ c, t.core vf c = s.core vf c) ∧ P t
    let told (ss : List Stop) : Prop := ∃ y ∈ ss, y.announced = true
    let alone : Prop := (∀ m ∈ p.mates, (tfind (tput p.peers dev pt) m.1).isSome = true) ∧ ∀ e ∈ tput p.peers dev pt, p.pt < e.2
    let excused : Prop := tfind p.excused dev = some pt
    let level : Prop := ∃ e ∈ p.peers, e.2 = p.pt
    let turn : Prop := (∀ m ∈ p.mates, (tfind p.peers m.1).isSome = true) ∧ ∀ e ∈ p.peers, p.pt ≤ e.2
    let agreed : Prop := (∃ y, p.readyAt = some y ∧ y ≤ s.tabor) ∧ ∀ e ∈ p.peers, e.2 = p.pt → e.1 ∈ p.readies
    let aligning : Prop := p.stops ≠ [] ∧ ∀ y ∈ p.stops, y = .align
    let free : Prop := p.cls ≠ 0 ∧ p.isBound = true ∧ p.untold = false ∧ p.preemptNews = none ∧ (p.loaded s.tabor = false ∨ p.loadedAt ≠ none)
    let ready : Prop := aligning ∧ turn ∧ level ∧ p.readyAt = none
    let goes : Prop := turn ∧ (¬ level ∨ (aligning ∧ agreed))
    let passed : Prop := (tfind p.peers dev).isSome = true ∧ pt < p.pt ∧ p.pt < pt + d
    let named (q : Part) : Prop := ∃ B, beat (pt + d) B ∧ q.alignAt = some (match p.alignAt with | none => B | some a => min a B)
    let clear : Prop := (∀ h, p.hold = some h → x ≤ h.1) ∧ ∀ e ∈ p.pauses, x ≤ e.1
    let others : Prop := ∀ m ∈ p.mates, (tfind p.peers m.1).isSome = true
    let loses : Prop := p.cls ≠ 0 ∧ p.isBound = true ∧ p.stops = [] ∧ (p.mates = [] ∨ ¬ others)
    let inside : Prop := dom ≠ 0 ∧ ∃ e ∈ s.ports, e.2.up = true ∧ e.2.dom = dom
    let ahead : Int := (BitVec.ofNat 64 s.reading - BitVec.ofNat 64 val).toInt
    (p.cls ≠ 0 → ¬ excused → p.stops = [] → run (.stopNotice vf dev pt) fun t => (t.part vf).stops = [] ∧ tfind (t.part vf).peers dev = some pt ∧ named (t.part vf))
    ∧ ((p.cls = 0 ∨ (¬ excused ∧ told p.stops ∧ (.align ∉ p.stops ∨ ¬ alone))) → run (.stopNotice vf dev pt) fun t => (t.part vf).stops = p.stops
        ∧ (p.cls = 0 ∨ ¬ passed → (t.part vf).alignAt = p.alignAt) ∧ (p.cls ≠ 0 → passed → named (t.part vf)) ∧ t.outbox = s.outbox)
    ∧ (p.cls ≠ 0 → ¬ excused → .align ∈ p.stops → alone → run (.stopNotice vf dev pt) fun t => (t.part vf).stops = p.stops.filter (fun y => !y.isAlign)
        ∧ t.outbox = s.outbox)
    ∧ (p.cls ≠ 0 → ¬ excused → p.stops ≠ [] → ¬ told p.stops → run (.stopNotice vf dev pt) fun t => t.outbox = s.outbox ++ [.stopNotice vf p.pt]
        ∧ (alone → (t.part vf).stops = p.stops) ∧ (¬ alone → (t.part vf).stops = p.stops ++ [.align]))
    ∧ (p.cls ≠ 0 → excused → run (.stopNotice vf dev pt) fun t => (t.part vf).stops = p.stops ∧ (t.part vf).peers = p.peers
        ∧ (t.part vf).alignAt = p.alignAt ∧ (t.part vf).readyAt = p.readyAt ∧ t.outbox = s.outbox ∧ tfind (t.part vf).excused dev = none)
    ∧ (p.alone = true ↔ p.cls = 0 ∨ (turn ∧ ¬ level))
    ∧ (free → ready → ∃ t, tellMove s vf = some t ∧ t.outbox = s.outbox ++ [.ready vf] ∧ (t.part vf).readyAt = some (s.tabor + d)
        ∧ (t.part vf).stops = p.stops ∧ (t.part vf).pt = p.pt)
    ∧ (free → ¬ ready → .align ∈ p.stops → goes → ∃ t, tellMove s vf = some t ∧ (t.part vf).stops = p.stops.filter (fun y => !y.isAlign)
        ∧ t.outbox = s.outbox ∧ (t.part vf).pt = p.pt)
    ∧ (∀ t, tellMove s vf = some t → ¬ goes → (t.part vf).stops = p.stops)
    ∧ (p.stops = [] → (∀ y, p.flitTo = some y → y ≤ p.pt) → p.nextPeer = some x → x ≤ p.pt + d → clear → run (.alignmentFlitSend vf) fun t =>
        (others → (t.part vf).pauses = [] ∧ (t.part vf).debts = []) ∧ (¬ others → (t.part vf).pauses = p.pauses ∧ (t.part vf).debts = p.debts)
        ∧ t.outbox = s.outbox ++ [.alignFlit vf x] ∧ (t.part vf).flitTo = some x ∧ (∀ e ∈ (t.part vf).peers, e.2 ≠ x)
        ∧ (t.part vf).stops = if x = p.pt + d then [] else [.pause (s.tabor + (p.pt + d - x))])
    ∧ ((p.stops ≠ [] ∨ (∃ y, p.flitTo = some y ∧ p.pt < y) ∨ p.nextPeer = none ∨ (p.nextPeer = some x ∧ (p.pt + d < x ∨ ¬ clear))) → exec (.alignmentFlitSend vf) s = .next s)
    ∧ (run (.alignmentFlitArrival vf) fun t => (t.part vf).stops = p.stops.filter (fun y => !y.isAlign) ∧ (t.part vf).debts = []
        ∧ (p.cls = 0 ∨ ¬ told (p.stops.filter fun y => !y.isAlign) → t.outbox = s.outbox)
        ∧ (p.cls ≠ 0 → told (p.stops.filter fun y => !y.isAlign) → t.outbox = s.outbox ++ [.stopNotice vf p.pt]))
    ∧ (let t := beginAlign vf s
      (t.part vf).stops = p.stops ++ [.align] ∧ (t.part vf).pauses = [] ∧ (t.part vf).alignAt = none ∧ (t.part vf).pt = p.pt
        ∧ t.outbox = s.outbox ++ if p.cls = 0 then [] else [.stopNotice vf p.pt])
    ∧ (loses → p.lose.losing = p.losing + 1) ∧ (¬ loses → p.lose = p)
    ∧ (p.cls ≠ 0 → run (.stretchNotice vf n) fun t => ∃ B, (t.part vf).pauses = p.pauses ++ [(B, n)] ∧ beat (p.pt + d) B)
    ∧ (p.pauses = [(b, n)] → b ≤ p.pt → run (.alignmentPause vf) fun t => (t.part vf).stops = p.stops ++ [.pause (s.tabor + n)] ∧ (t.part vf).pauses = []
        ∧ t.outbox = s.outbox)
    ∧ ((∀ e ∈ p.pauses, p.pt < e.1) → run (.alignmentPause vf) fun t => (t.part vf).stops = p.stops ∧ (t.part vf).pauses = p.pauses)
    ∧ (.pause ends ∈ p.stops → ends ≤ s.tabor → run (.alignmentPauseEnd vf) fun t =>
        ∀ y, y ∈ (t.part vf).stops ↔ y ∈ p.stops ∧ ∀ e, y = .pause e → s.tabor < e)
    ∧ (s.mayDroop = true → cycles ≤ 8 → lost ≤ 4 → run (.droopStretch cycles lost) fun t => t.stretchUntil = s.tabor + lost
        ∧ t.lastDroop = some s.tabor ∧ (t.part vf).stops = p.stops)
    ∧ (∀ y, s.lastDroop = some y → s.tabor < y + 1024 → exec (.droopStretch cycles lost) s = .next s)
    ∧ (val < 2 ^ 64 → dom ∉ s.adopted → inside → run (.syncFlit dom val) fun t =>
        t.reading = val ∧ dom ∈ t.adopted)
    ∧ (val < 2 ^ 64 → dom ∈ s.adopted → inside → run (.syncFlit dom val) fun t =>
        t.reading = (if ahead < -2 then (val + (2 ^ 64 - 2)) % 2 ^ 64 else s.reading))
    ∧ (¬ inside → exec (.syncFlit dom val) s = .next s)

/-- FAULT_HANDLER resolves a miss, keeps a debug break, fails a task otherwise; RAIL_ERROR and BELFRY_PANIC (R12; R152; R237; R246; R247;
R291). The model's choices: the function's vector fires for a record only under features 1 and 2 together (assumption 51); no handler runs
after a rail error or a panic (assumption 65); a failure ends in one step once the commands are drained (assumption 70); whose turn it is,
and that devices at one PT resume together (assumptions 67 and 109); a page of tier 1, 2 or 3 resolves a miss too (assumption 95), and
PROW is the page's 16 row bits (assumption 29); what counts as pending from the fault on (assumption 125); the queue stays frozen until a
word that waits at a port is written (assumption 98). -/
def Obligations.FaultsHandled : Prop :=
  ∀ (s : State) (vf code tab : Nat) (g : Page) (tk : Task),
    let p := s.part vf
    let r := p.frec
    let n := r.detail % 16
    let h := (s.core vf r.vcore).h n
    let due : Prop := s.fatal = 0 ∧ p.failing = none ∧ Stop.fault ∈ p.stops ∧ p.handlerAt ≠ none
    let run (j : Instr) (P : State → Prop) : Prop := ∃ t, exec j s = .next t ∧ P t
    let f := Instr.faultHandler vf
    let notFault (y : Stop) : Bool := decide (y ≠ .fault)
    let fails : Prop := s.fatal = 0 ∧ p.failing = some (code, tab) ∧ p.drained = true ∧ p.task = some tk ∧ tk.node.done % 8 = 0
      ∧ p.pageAt (tk.node.done / 65536) = some g
    let off (t : State) : Prop := (t.part vf).task = none ∧ (t.part vf).failing = none ∧ Stop.fault ∉ (t.part vf).stops
      ∧ (∀ c d, (t.core vf c).dom d = .off) ∧ ∀ c, (t.core vf c).pend = [] ∧ (t.core vf c).cmds = []
    (due → r.code = 0x21 → p.pageAt (h.vch * 65536 + h.vrow) = some g → g.resident = true → p.endAfter = false → run f fun t =>
        (t.core vf r.vcore).h n = ⟨.valid, g.rp, g.wp, g.size, g.tier, g.va / 65536 % 128, g.va % 65536, g.phys % 65536⟩
        ∧ (∀ x, x ≠ n → (t.core vf r.vcore).h x = (s.core vf r.vcore).h x) ∧ ((t.part vf).stops = p.stops.filter notFault ∨ (t.part vf).stops = p.stops.filter notFault ++ [.align])
        ∧ (p.alone = true ∨ (∃ y ∈ p.stops, y ≠ .fault ∧ y.announced = true) → (t.part vf).stops = p.stops.filter notFault)
        ∧ (p.alone = false → (∀ y ∈ p.stops, y ≠ .fault → y.announced = false) → (t.part vf).stops = p.stops.filter notFault ++ [.align])
        ∧ (t.part vf).task = p.task ∧ (t.part vf).pt = p.pt ∧ t.dram = s.dram)
    ∧ (due → r.code = 0x72 → run f fun t => (t.part vf).stops = p.stops ∧ (t.part vf).handlerAt = none ∧ (t.part vf).task = p.task
        ∧ t.outbox = s.outbox ++ (if p.features / 2 % 2 = 1 ∧ p.features / 4 % 2 = 1 then [.msixVf vf] else []) ++ [.msixPf (vf / 64) 1] ∧ ∀ c, t.core vf c = s.core vf c)
    ∧ (due → r.code ≠ 0x21 → r.code ≠ 0x72 → run f fun t => (t.part vf).failing = some (r.code, s.tabor) ∧ (t.part vf).qfrozen = true
        ∧ (t.part vf).stops = p.stops ∧ (t.part vf).task = p.task ∧ ∀ c, t.core vf c = s.core vf c)
    ∧ (s.fatal = 0 → p.failing = some (code, tab) → p.drained = false → exec f s = .next s)
    ∧ (fails → g.tier = 2 → (∀ e ∈ s.parts, ∀ m ∈ e.2.queue, tk.node.id ∉ m.deps) → (∀ e ∈ s.parts, ∀ m x, e.2.loading = some (m, x) → tk.node.id ∉ m.deps) → (p.pcmd ≠ 1 ∨ p.pres ≠ 0 ∨ p.t1Queue = []) → run f fun t =>
          off t ∧ (t.part vf).qfrozen = false ∧ t.host = (numCells tk.node.done 8 (0x80000010 + code % 2 ^ 32 * 2 ^ 32)).foldl (fun m e => memWrite m (g.place e.1) [e.2]) s.host)
    ∧ (∀ w m x, fails → g.tier = 2 → w ≠ vf → (s.part w).loading = some (m, x) → tk.node.id ∈ m.deps → run f fun t => (t.part w).loading = none
          ∧ (t.part w).task = (s.part w).task)
    ∧ (fails → g.tier = 1 → p.isBound = true → run f fun t => off t ∧ (t.part vf).qfrozen = p.qfrozen ∧ t.host = s.host ∧ t.t1 = s.t1
          ∧ (g.vch, .word tk.node 0x80000010 code (.failed (p.stops.any Stop.isFault))) ∈ (t.part vf).t1Queue)
    ∧ (∀ w m x, s.mayStart w = true → (s.part w).loading = some (m, x) → Stop.fault ∈ p.stops → r.code ≠ 0x21 → r.code ≠ 0x72 → p.task = some tk →
        p.live = true → tk.node.id ∉ m.deps)
    ∧ (s.fatal ≠ 0 → exec f s = .next s)
    ∧ (run .railError fun t => t.fatal % 2 = 1 ∧ (p.live = true → Stop.rail ∈ (t.part vf).stops) ∧ .fatal 1 ∈ t.outbox
        ∧ (t.part vf).pt = p.pt ∧ ∀ c, t.core vf c = s.core vf c)
    ∧ (run .belfryPanic fun t => t.fatal / 2 % 2 = 1 ∧ (t.part vf).handlerAt = none ∧ .fatal 2 ∈ t.outbox ∧ (t.part vf).stops = p.stops
        ∧ (t.part vf).pt = p.pt ∧ ∀ c, t.core vf c = s.core vf c)

/-- PAGE_MOVE keeps every byte of the page at its new rows; unmapping takes it away; its handles become MISS; a pinned page is never moved
(R152; R153). A pinned page does not move, and a T1 page not beyond the service banks of its channel: how many these are, and that a T0
page holds nothing in their rows, is the model's choice (assumption 111). Others (assumption 61): only pages of a bound partition move,
while the Belfry serves, and how a page of another tier is placed. -/
def Obligations.PagesMoveAndUnmap : Prop :=
  ∀ (s : State) (vf va prow c n a : Nat) (g : Page) (f : Nat × Nat),
    let p := s.part vf
    let h := (s.core vf c).h n
    let rows := pageUnits g.size
    let frames := p.freeFrames.filter fun x => decide (x.1 = va / 65536 * 65536 + prow ∧ g.size ≤ x.2)
    let run (j : Instr) (P : State → Prop) : Prop := ∃ t, exec j s = .next t ∧ P t
    let named : Prop := h.st = .valid ∧ h.vch * 65536 + h.vrow = va
    let forgotten (t : State) : Prop := (named → (t.core vf c).h n = ⟨.miss, false, false, h.size, 0, h.vch, h.vrow, 0⟩)
      ∧ (¬ named → (t.core vf c).h n = h) ∧ (∀ x ∈ (t.core vf c).tlb, x.va ≠ va) ∧ (∀ e ∈ t.towerTlb, ∀ x ∈ e.2, x.1 = vf → x.2.va ≠ va)
      ∧ (t.core vf c).scratch = (s.core vf c).scratch ∧ (t.part vf).pt = p.pt
    let moved : Page := { g with phys := g.movedTo prow, resident := true }
    let room : Prop := g.tier ≠ 1 ∨ moved.row + 64 ^ g.size ≤ 4096 * (List.range 16).countP fun b => (tget 0 p.service moved.vch).testBit b
    (p.pages.filter fun x => decide (x.va = va)) = [g] → p.isBound = true → s.fatal = 0 →
    (run (.pageMove vf va 1 prow) fun t => forgotten t ∧ (∀ x ∈ (t.part vf).pages, x.va ≠ va) ∧ (t.part vf).banks = p.banks)
    ∧ ( p.pinned g = false → g.tier = 0 → g.resident = true → frames.head? = some f → prow + rows ≤ 65536 → g.row + rows ≤ 65536 →
        Memory.wf s.dram = true → g.vch = va / 65536 → tfind p.outChans g.vch = none →
        run (.pageMove vf va 0 prow) fun t => forgotten t
          ∧ ∃ g', g' ∈ (t.part vf).pages ∧ g'.va = va ∧ g'.row = prow ∧ g'.vch = va / 65536 ∧ g'.size = g.size ∧ g'.rp = g.rp ∧ g'.wp = g.wp
            ∧ (va ≤ a / 65536 → a / 65536 < va + rows → timedByte t vf g' a = timedByte s vf g a))
    ∧ (g.tier ≠ 0 → room → pageLegal p.channels moved = true → (∀ x ∈ p.pages, x.va ≠ va → moved.clashes x = false) → run (.pageMove vf va 0 prow) fun t =>
        forgotten t ∧ moved ∈ (t.part vf).pages ∧ (g.tier = 2 → Memory.wf s.host = true → a < 65536 * rows →
          memGet t.host (65536 * prow + a) = memGet s.host (65536 * g.phys + a)))
    ∧ (g.tier = 1 → ¬ room → exec (.pageMove vf va 0 prow) s = .next s)
    ∧ (p.pinned g = true → exec (.pageMove vf va 0 prow) s = .next s)

/-- QSUB and LAUNCH nodes accepted or refused; dispatch, T0 at a beat boundary, and completion when all is done (R84; R227; R229; R230; R231;
R232; R233; R235; R279). The model's choices: loading ends at a later Tabor cycle (assumption 2); what the loader refuses beyond size and
unmapped rows, namely another latency class than the partition's, no port of the class, a mismatched group, a CPYX that leaves a device,
and timed data in service banks (assumption 81); nothing is accepted after a fatal error (assumption 65); a chosen wake delays no
completion (assumption 76); loading on one of several devices ends D after all is in place, of which it tells the others (assumption 103);
banks beyond the image's service mask, where T1 pages need them, which hold no T0 rows (assumption 111); words and nodes behind a T1 page
wait at its service port, and a node is pending until its word is written (assumption 98); which refusal comes first, and the word of an
unaligned DONE (assumption 116); a QSUB address or a LAUNCH node that is unaligned or in another tier (assumption 108); a QSUB copy leaves
T1 as it is (assumption 46); the cores of other devices end by report (assumption 47); a LAUNCH into a deleted partition (assumption 117);
failed dependences (assumption 125). -/
def Obligations.NodesAcceptedAndTasksRun : Prop :=
  ∀ (s : State) (vf v addr t : Nat) (n m : Node) (im : Image) (tk : Task) (g : Page) (l : Nat × Nat × Nat × Nat) (ls : List (Nat × Nat × Nat × Nat)),
    let p := s.part vf
    let c := s.core vf v
    let run (j : Instr) (P : State → Prop) : Prop := ∃ u, exec j s = .next u ∧ P u
    let word := leNat (memRead s.host addr 64)
    let bound : Prop := ∃ x, p.resid = .bound x
    let done (n : Node) (status : Nat) (u : State) : Prop := u.host =
      (numCells n.done 8 status).foldl (fun m e => memWrite m (g.place e.1) [e.2]) s.host
    let here (n : Node) : Prop := n.done % 8 = 0 ∧ p.pageAt (n.done / 65536) = some g ∧ g.tier = 2
    let new := nodeOf word
    let pending (i : Nat) : Prop := ∃ e ∈ s.parts, (∃ m ∈ e.2.queue, m.id = i) ∨ (∃ m x, e.2.loading = some (m, x) ∧ m.id = i)
      ∨ (∃ tk, e.2.task = some tk ∧ tk.node.id = i) ∨ ∃ r ∈ e.2.t1Queue, ∃ m st hi x, r.2 = .word m st hi x ∧ x ≠ .refused ∧ m.id = i
    let behindT1 (n : Node) : Prop := p.pageAt (n.done / 65536) = some g ∧ g.tier = 1
    let waits (n : Node) (status : Nat) (x : After) (u : State) : Prop := (u.part vf).queue = p.queue ∧ u.host = s.host ∧ u.t1 = s.t1
      ∧ (g.vch, .word n status 0 x) ∈ (u.part vf).t1Queue
    let store (x : Section) : Core := { Core.fresh with store := codeTable x.code, limit := x.code.length }
    let leaves (x : Section) : Prop := ∃ (k : Nat) (e : Nat × Sticky) (y : Guard) (core ss ds src dst cnt : Nat),
      (store x).afterBundles k 0 < x.code.length
      ∧ e ∈ (store x).presentOps ((store x).word ((store x).afterBundles k 0)) 7 ((store x).afterBundles k 0 + 1)
      ∧ decodeOp e.1 e.2.word.toNat e.2.ext.toNat = .ok (.cpyx y core ss ds src dst cnt)
      ∧ core < im.cores ∧ ∃ w, w < im.cores ∧ x.first ≤ w ∧ w ≤ x.last ∧ p.isLocal w ≠ p.isLocal core
    let q := s.part l.2.1
    let ended : Prop := p.pcmd ≠ 1 ∨ p.pres ≠ 0 ∨ p.t1Queue = []
    let loadedAll : Prop := (∀ r ∈ p.t1Queue, ∀ i, r.2 ≠ .arg i) ∧ (p.cls = 0 ∨ ∃ own, p.loadedAt = some own ∧ own ≤ p.pt
      ∧ ∀ d ∈ p.mates, ∃ x, tfind p.loads d.1 = some x ∧ x ≤ p.pt)
    let spared : Prop := m.id ∉ s.doomed s.pendingIds.length s.failedIds
    let takes : Prop := p.live = true ∧ (p.features ≠ 0 ∨ p.featuresNext ≠ none) ∧ s.fatal = 0 ∧ bound
    let free : Prop := p.task = none ∧ p.loading = none ∧ p.qfrozen = false ∧ p.corrupt = false ∧ s.fatal = 0 ∧ p.live = true ∧ bound
    (new.id = word % 2 ^ 32 ∧ new.image = word / 2 ^ 32 % 2 ^ 32 ∧ new.argAddr = word / 2 ^ 64 % 2 ^ 64 ∧ new.argLines = word / 2 ^ 128 % 32
        ∧ new.deps = (List.range (word / 2 ^ 133 % 8)).map (fun i => word / 2 ^ (256 + 32 * i) % 2 ^ 32) ∧ new.done = word / 2 ^ 384 % 2 ^ 64)
    ∧ (s.refusesNode vf word = false ↔ (word / 2 ^ 136 % 2 ^ 120 = 0 ∧ word / 2 ^ 448 % 2 ^ 64 = 0 ∧ new.argLines ≤ 16 ∧ word / 2 ^ 133 % 8 ≤ 4
        ∧ new.argAddr % 256 = 0 ∧ new.done % 8 = 0) ∧ ¬ pending new.id ∧ (new.image = 0 ∨ ∃ im, tfind s.images new.image = some im
          ∧ tget 0 s.imageTenant new.image = p.tenant ∧ im.cores ≤ p.cores ∧ im.vchannels ≤ p.channels))
    ∧ (s.ready n = true ↔ ∀ i ∈ n.deps, ¬ pending i)
    ∧ (s.refusesImage p im = false ↔ im.cores ≤ p.cores ∧ im.vchannels ≤ p.channels ∧ im.latencyClass = p.cls
        ∧ (∀ x ∈ im.timed, ∃ g, p.pageAt (x.vch * 65536 + x.row) = some g ∧ g.tier = 0 ∧ p.serviceOf im x.vch / 2 ^ x.bank % 2 = 0)
        ∧ (p.cls ≠ 0 → (∃ e ∈ s.ports, e.2.up = true ∧ e.2.dom ≠ 0 ∧ e.2.cls = p.delay) ∧ (∀ e ∈ p.mates, e.2 = (p.cores, p.channels, p.cls))
          ∧ ∀ x ∈ im.sections, ¬ leaves x))
    ∧ (∀ c units, (∀ x ∈ p.pages, x.tier = 1 → x.vch = c → x.row + 64 ^ x.size ≤ units) →
        (units = 0 ∨ ∃ x ∈ p.pages, x.tier = 1 ∧ x.vch = c ∧ x.row + 64 ^ x.size = units) →
        let mask := im.service.getD c 0 % 65536
        let ones (y : Nat) : Nat := (List.range 16).countP fun b => y.testBit b
        (units ≤ 4096 * ones mask → p.serviceOf im c = mask) ∧ (∀ b, mask.testBit b = true → (p.serviceOf im c).testBit b = true)
        ∧ (units ≤ 65536 → units ≤ 4096 * ones (p.serviceOf im c)))
    ∧ (let u := setService vf im s
      let mask (k : Nat × Nat) : Nat := tget 0 (u.part vf).service k.1
      (∀ c, c < p.channels → tget 0 (u.part vf).service c = p.serviceOf im c) ∧ ∀ a,
        ((∃ k ∈ p.chanTable, k.2 = a / 2 ^ 32 ∧ (mask k).testBit (a / 2 ^ 28 % 16) = true) → memGet u.dram a = 0)
        ∧ ((∀ k ∈ p.chanTable, k.2 = a / 2 ^ 32 → (mask k).testBit (a / 2 ^ 28 % 16) = false) → memGet u.dram a = memGet s.dram a)
        ∧ ((∃ k ∈ p.chanTable, k.2 = a / 2 ^ 32 ∧ 4096 * (List.range 16).countP (fun b => (mask k).testBit b) ≤ a % 2 ^ 32 / 65536) → memGet u.t1 a = 0)
        ∧ ((∀ k ∈ p.chanTable, k.2 = a / 2 ^ 32 → a % 2 ^ 32 / 65536 < 4096 * (List.range 16).countP (fun b => (mask k).testBit b)) → memGet u.t1 a = memGet s.t1 a))
    ∧ (p.cls ≠ 0 → p.isBound = true → p.untold = false → p.preemptNews = none → p.loaded s.tabor = true → p.loadedAt = none →
        ∃ u, tellMove s vf = some u ∧ (u.part vf).loadedAt = some (p.pt + p.delay) ∧ u.outbox = s.outbox ++ [.loaded vf (p.pt + p.delay)])
    ∧ (p.finished = true ↔ p.task ≠ none ∧ (∀ k, k < p.taskCores → p.condOf k = .ended) ∧ p.inbound = [] ∧ Stop.fault ∉ p.stops ∧ p.failing = none
        ∧ ∀ e ∈ p.coreOf, e.2.cmds = [] ∧ ∀ f ∈ e.2.pend, ∃ d, f.eff = .wakeStart d)
    ∧ (takes → s.refusesNode vf word = false → p.pendingNodes.length < 256 → run (.qsubWrite vf addr) fun u =>
        (u.part vf).queue = p.queue ++ [nodeOf word] ∧ (u.part vf).task = p.task ∧ u.host = s.host)
    ∧ (takes → s.refusesNode vf word = true → here (nodeOf word) → run (.qsubWrite vf addr) fun u =>
        (u.part vf).queue = p.queue ∧ done (nodeOf word) 0x80000012 u)
    ∧ (takes → s.refusesNode vf word = false → 256 ≤ p.pendingNodes.length → here (nodeOf word) →
        run (.qsubWrite vf addr) fun u => (u.part vf).queue = p.queue ∧ done (nodeOf word) 0x80000013 u)
    ∧ (takes → s.refusesNode vf word = true → behindT1 (nodeOf word) → run (.qsubWrite vf addr) (waits (nodeOf word) 0x80000012 .refused))
    ∧ ((p.live = false ∨ (p.features = 0 ∧ p.featuresNext = none) ∨ s.fatal ≠ 0) → exec (.qsubWrite vf addr) s = .next s)
    ∧ (c.launches.filter (c.launchReady s.tabor) = l :: ls → p.portOf l.2.2.1 = none → q.live = true → q.tenant = p.tenant → (∃ x, q.resid = .bound x) →
        s.refusesNode l.2.1 (virtualRead s vf l.2.2.1 64) = false → q.pendingNodes.length < 256 → run (.launchNodeRead vf v) fun u =>
          (u.part l.2.1).queue = q.queue ++ [nodeOf (virtualRead s vf l.2.2.1 64)] ∧ (u.core vf v).launches = c.launches.erase l)
    ∧ (c.launches.filter (c.launchReady s.tabor) = l :: ls → p.portOf l.2.2.1 = none → (q.live = false ∨ q.tenant ≠ p.tenant) →
        run (.launchNodeRead vf v) fun u => (∀ w, (u.part w).queue = (s.part w).queue) ∧ (u.core vf v).launches = c.launches.erase l)
    ∧ (c.launches.filter (c.launchReady s.tabor) = l :: ls → p.isBound = true → p.pageAt (l.2.2.1 / 65536) = some g → g.tier = 1 →
        run (.launchNodeRead vf v) fun u => (∀ w, (u.part w).queue = (s.part w).queue) ∧ (u.core vf v).launches = c.launches.erase l
          ∧ (u.part vf).t1Queue = p.t1Queue ++ [(g.vch, .launch l.2.1 l.2.2.1)])
    ∧ ((∀ x ∈ c.launches, s.tabor < x.2.2.2 ∨ ∃ k ∈ c.cmds, k.id < x.1) → exec (.launchNodeRead vf v) s = .next s)
    ∧ (s.nextNode vf = some n → n.image = 0 → here n → run (.taskDispatch vf) fun u => (u.part vf).queue = p.queue.erase n ∧ done n 1 u
        ∧ (u.part vf).task = p.task)
    ∧ (free → p.queue.filter s.ready = n :: (p.queue.filter s.ready).tail → (∀ x ∈ p.queue, x.image ≠ 0) → tfind s.images n.image = some im →
        s.refusesImage p im = false → run (.taskDispatch vf) fun u => (u.part vf).queue = p.queue.erase n
          ∧ (∃ t, s.tabor < t ∧ (u.part vf).loading = some (n, t)) ∧ (∀ c, c < p.channels → tget 0 (u.part vf).service c = p.serviceOf im c)
          ∧ (u.part vf).task = none ∧ (u.part vf).pt = p.pt)
    ∧ (p.loading = some (m, t) → t ≤ s.tabor → p.pt % 1024 = 0 → p.task = none → tfind s.images m.image = some im → loadedAll → spared → run (.taskStart vf) fun u =>
        (u.part vf).task = some ⟨m, m.image, im.cores, im.vchannels, im.stage, im.budget, im.watchdog, im.clampable, im.snare, p.pt⟩
        ∧ (u.part vf).loading = none ∧ (u.part vf).phase = 0 ∧ (∀ x b, ((u.part vf).bank x b) = Bank.fresh) ∧ (u.part vf).pt = p.pt
        ∧ (∀ k, k < im.cores → p.isLocal k = true → (u.core vf k).cond = .running)
        ∧ ∀ k, im.cores ≤ k ∨ p.isLocal k = false → u.core vf k = s.core vf k)
    ∧ ((p.loading = none ∨ (p.loading = some (m, t) ∧ s.tabor < t) ∨ p.pt % 1024 ≠ 0 ∨ ¬ loadedAll ∨ (p.loading = some (m, t) ∧ ¬ spared)) → run (.taskStart vf) fun u => (u.part vf).task = p.task ∧ (u.part vf).loading = p.loading)
    ∧ (p.finished = true → p.task = some tk → here tk.node → ended → run (.taskCompletion vf) fun u => (u.part vf).task = none ∧ done tk.node 1 u
        ∧ (∀ k d, (u.core vf k).dom d = .off) ∧ (u.part vf).queue = p.queue)
    ∧ (p.finished = true → p.task = some tk → behindT1 tk.node → p.isBound = true → run (.taskCompletion vf) fun u => (u.part vf).task = none
        ∧ waits tk.node 1 .task u ∧ ∀ k d, (u.core vf k).dom d = .off)
    ∧ (p.task = some tk → (∃ k, k < tk.cores ∧ p.isLocal k = true ∧ (s.core vf k).cond ≠ .ended) → exec (.taskCompletion vf) s = .next s)

/-- Requests arm CLAMP or a forced stop; the park freeze, the park deadline and the forced stop freeze the partition (R249; R250; R251; R252;
R264; R223). The model's choices: a forced stop stands at the later of the PT named and D ahead, and a request does nothing for an unbound
partition or one already asked (assumption 84), nor after a fatal error (assumption 65); a partition whose cores have all ended counts as
parked out under CLAMP, and the cores of other devices by their reports (assumption 47). -/
def Obligations.PreemptionsFreeze : Prop :=
  ∀ (s : State) (vf at_ b stop d : Nat) (tk : Task) (r : Preempt),
    let p := s.part vf
    let run (j : Instr) (P : State → Prop) : Prop := ∃ t, exec j s = .next t ∧ (t.part vf).pt = p.pt ∧ (∀ c, t.core vf c = s.core vf c) ∧ P t
    let frozen (t : State) (parked : Bool) : Prop := (t.part vf).stops = p.stops ++ [.preempt]
      ∧ (t.part vf).preempt = some { r with parked := parked, frozen := some s.tabor }
    let under : Prop := p.task = some tk ∧ Stop.fault ∉ p.stops ∧ p.failing = none ∧ p.preempt = some r ∧ r.frozen = none
    let parkedOut : Prop := (∀ c, c < tk.cores → p.condOf c ≠ .running) ∧ (p.clampOn = true ∨ ∃ c, c < tk.cores ∧ p.condOf c = .parked) ∧ p.quiet = true
    (s.fatal = 0 → p.isBound = true → p.task = some tk → tk.clampable = some d → p.forceAlways = false → p.preempt = none →
        run (.preemptionRequest vf at_) fun t => ∃ B, (t.part vf).preempt = some ⟨some B, none, 0, false, none⟩ ∧ B % 1024 = 0
          ∧ p.pt + p.delay ≤ B ∧ B < p.pt + p.delay + 1024 ∧ (t.part vf).stops = p.stops)
    ∧ (s.fatal = 0 → p.isBound = true → p.task = some tk → (tk.clampable = none ∨ p.forceAlways = true) → p.preempt = none →
        run (.preemptionRequest vf at_) fun t => (t.part vf).preempt = some ⟨none, some (max at_ (p.pt + p.delay)), 0, false, none⟩
          ∧ (t.part vf).stops = p.stops)
    ∧ (s.fatal = 0 → p.isBound = true → p.task = none → p.loading = none → ∃ t, exec (.preemptionRequest vf at_) s = .next t
        ∧ (t.part vf).resid = .switchedOut ∧ (t.part vf).pt = p.pt
        ∧ ∀ c, (∀ x, (t.core vf c).read x = (s.core vf c).read x) ∧ (∀ n, (t.core vf c).z n = (s.core vf c).z n ∧ (t.core vf c).q n = (s.core vf c).q n)
          ∧ (t.core vf c).scratch = (s.core vf c).scratch)
    ∧ ((s.fatal ≠ 0 ∨ p.isBound = false ∨ (p.preempt ≠ none ∧ (p.task ≠ none ∨ p.loading ≠ none))) → exec (.preemptionRequest vf at_) s = .next s)
    ∧ (p.preempt = some r → r.clampAt = some b → b ≤ p.pt → run (.clampEffect vf) fun t => (t.part vf).clampOn = true ∧ (t.part vf).stops = p.stops)
    ∧ (p.preempt = some r → (r.clampAt = none ∨ (r.clampAt = some b ∧ p.pt < b)) → run (.clampEffect vf) fun t => (t.part vf).clampOn = p.clampOn)
    ∧ (under → parkedOut → run (.parkFreeze vf) fun t => frozen t true)
    ∧ (p.task = some tk → Stop.fault ∉ p.stops → p.failing = none → p.preempt = none → r = ⟨none, none, 0, false, none⟩ → parkedOut →
        run (.parkFreeze vf) fun t => frozen t true)
    ∧ (under → ¬ parkedOut → exec (.parkFreeze vf) s = .next s)
    ∧ (under → p.clampOn = true → r.clampAt = some b → tk.clampable = some d → d ≤ p.pt - b + r.count → ¬ parkedOut →
        run (.parkDeadline vf) fun t => frozen t false)
    ∧ (under → r.clampAt = some b → tk.clampable = some d → p.pt - b + r.count < d → exec (.parkDeadline vf) s = .next s)
    ∧ (under → r.forcedAt = some stop → stop ≤ p.pt → run (.forcedStop vf) fun t => frozen t false)
    ∧ (s.fatal = 0 → under → r.forcedAt = some stop → stop ≤ p.pt → limitMove s vf 12 = some (.run (.forcedStop vf) (s.atStage vf (.limits 13))))
    ∧ (s.fatal = 0 → s.mayStart vf = true → limitMove s vf 9 = some (.run (.taskStart vf) (s.atStage vf (.limits 10))))
    ∧ (under → (r.forcedAt = none ∨ (r.forcedAt = some stop ∧ p.pt < stop)) → exec (.forcedStop vf) s = .next s)

/-- CONTEXT_SAVE unbinds with all state kept; RESUME goes on at the saved PT; CHANNEL_REASSIGNMENT shows no other tenant's data (R138; R254;
R255; R256; R261; R264; R265; R121; R251). RESUME of a switched-out partition, while the Belfry serves, for which as many cores (4 or
more) and channels as it needs and a hard partition are free, with no barrier wait open, binds it at the same PT, CLAMP clear, each parked
core running again, every register of a core that held no clamp record as it was, every later pre-emption of the task forced if the saved
kI of its clamp records differ (those of other devices as reported, assumption 47), and the instruction store of each running core loaded
again from the image, without errors; its channels then hold no T0 row in a service bank, and no T1 byte beyond these (assumption 111).
That a channel of the same tenant is left unchanged is the model's reading of R138 against R265 (assumption 89); a command cancelled with
its flag still to be written counts as drained (assumption 100); what waits at a service port is served before a channel can pass on
(assumption 98); which hard partitions there are (assumption 52), and that none resumes after a fatal error (assumption 65). -/
def Obligations.ContextsSavedAndResumed : Prop :=
  ∀ (s : State) (vf v ch n : Nat) (r : Preempt) (tk : Task) (im : Image) (x : Section),
    let p := s.part vf
    let c := s.core vf v
    let run (j : Instr) (P : State → Prop) : Prop := ∃ t, exec j s = .next t ∧ P t
    let kept (u : Core) : Prop := (∀ d, u.read d = c.read d) ∧ (∀ n, u.z n = c.z n ∧ u.q n = c.q n) ∧ u.bstore = c.bstore ∧ u.scratch = c.scratch
      ∧ u.domains = c.domains ∧ u.rstack = c.rstack ∧ u.notices = c.notices ∧ u.shadow = c.shadow ∧ u.poison = c.poison
    let saved (x : DWord) : Prop := (∃ e ∈ p.coreOf, ∃ k, e.2.clamp = some k ∧ k.savedKi = x) ∨ ∃ e ∈ p.awayKi, e.2 = x
    let bare (h : Handle) : Handle := ⟨h.st, false, false, h.size, 0, h.vch, h.vrow, 0⟩
    let used (k : Nat) (f : Part → Table Nat) : Prop := ∃ e ∈ s.parts, e.2.isBound = true ∧ ∃ y ∈ f e.2, y.2 = k
    let unused (n : Nat) (f : Part → Table Nat) (ks : List Nat) : Prop := ks.Nodup ∧ ∀ k, k ∈ ks ↔ k < n ∧ ¬ used k f
    let own : Nat := if p.cls = 0 then p.cores else (keys p.coreTable).length
    let room : Prop := 4 ≤ own ∧ (∃ ks, unused 512 Part.coreTable ks ∧ own ≤ ks.length) ∧ (∃ ks, unused 128 Part.chanTable ks ∧ p.channels ≤ ks.length)
      ∧ ∃ k, k < 40 ∧ ∀ e ∈ s.parts, e.2.live = true → e.2.resid ≠ .bound k
    let resumes : Prop := p.live = true ∧ p.resid = .switchedOut ∧ s.fatal = 0 ∧ room
    let mask (t : State) (k : Nat) : Nat := tget 0 (t.part vf).service k
    let idle : Prop := Stop.fault ∉ p.stops ∧ p.failing = none
    (∀ (e : Pend) (h a : Nat) (y : Handle), e.eff = .xlt h a y → e.virtual = { e with eff := .xlt h a ⟨y.st, false, false, 0, 0, 0, 0, 0⟩ })
    ∧ (∀ e : Pend, (∀ h a y, e.eff ≠ .xlt h a y) → e.virtual = e)
    ∧ (p.isBound = true → idle → p.preempt = some r → r.frozen ≠ none → p.drained = true → run (.contextSave vf) fun t =>
        (t.part vf).resid = .switchedOut ∧ (t.part vf).pt = p.pt ∧ (t.part vf).task = p.task ∧ (t.part vf).phase = p.phase
        ∧ (t.part vf).barriers = p.barriers ∧ (t.part vf).hold = none ∧ kept (t.core vf v) ∧ (t.core vf v).store = c.store
        ∧ (t.core vf v).pend = c.pend.map Pend.virtual ∧ (∀ n, (t.core vf v).h n = bare (c.h n))
        ∧ ((∀ r ∈ p.t1Queue, (∀ y st hi z, r.2 ≠ .word y st hi z) ∧ ∀ q a, r.2 ≠ .launch q a) → t.dram = s.dram))
    ∧ ((p.preempt = none ∨ (p.preempt = some r ∧ r.frozen = none) ∨ p.drained = false) → exec (.contextSave vf) s = .next s)
    ∧ (resumes → p.waiting = false → run (.resume vf) fun t => (∃ x, (t.part vf).resid = .bound x) ∧ (t.part vf).pt = p.pt
        ∧ (t.part vf).task = p.task ∧ (t.part vf).clampOn = false ∧ (t.part vf).preempt = none
        ∧ ((t.part vf).forceAlways = true ↔ p.forceAlways = true ∨ ∃ x y, saved x ∧ saved y ∧ x ≠ y)
        ∧ (c.clamp = none → kept (t.core vf v) ∧ ((∀ b, (p.barrier b).abroad = []) → (t.core vf v).pend.length = c.pend.length))
        ∧ (∀ k ∈ (t.part vf).chanTable, ∀ a, a / 2 ^ 32 = k.2 → ((mask t k.1).testBit (a / 2 ^ 28 % 16) = true → memGet t.dram a = 0)
            ∧ (4096 * (List.range 16).countP (fun b => (mask t k.1).testBit b) ≤ a % 2 ^ 32 / 65536 → memGet t.t1 a = 0))
        ∧ (p.cls = 0 → p.stops = [] → (t.part vf).stops = [])
        ∧ (p.task = some tk → tfind s.images tk.image = some im → sectionOf im v = some x → c.cond = .running ∨ c.cond = .parked →
            (t.core vf v).store = codeTable (x.code.take c.limit) ∧ ∀ e ∈ (t.core vf v).bad, e.1 ≠ 3)
        ∧ (c.cond = .parked → (t.core vf v).cond = .running ∧ (t.core vf v).clamp = none)
        ∧ (c.cond = .parked → c.clamp = none → (t.core vf v).next = c.parkAt)
        ∧ (c.cond ≠ .parked → (t.core vf v).cond = c.cond ∧ (t.core vf v).next = c.next)
        ∧ (∀ n, ((t.core vf v).h n).st = .invalid ↔ (c.h n).st = .invalid))
    ∧ (¬ resumes → exec (.resume vf) s = .next s)
    ∧ (ch ∈ s.usedChannels → exec (.channelReassignment ch vf) s = .next s)
    ∧ (ch ∉ s.usedChannels → tget p.tenant s.chanTenant ch ≠ p.tenant → run (.channelReassignment ch vf) fun t =>
        (∀ a, a / 2 ^ 32 = ch → memGet t.dram a = 0 ∧ memGet t.t1 a = 0) ∧ (∀ a, a / 2 ^ 32 ≠ ch → memGet t.dram a = memGet s.dram a
          ∧ memGet t.t1 a = memGet s.t1 a) ∧ tget n t.chanTenant ch = p.tenant ∧ ∀ w, (t.core w v).scratch = (s.core w v).scratch)
    ∧ (ch ∉ s.usedChannels → tget p.tenant s.chanTenant ch = p.tenant → run (.channelReassignment ch vf) fun t => t.dram = s.dram ∧ t.t1 = s.t1)

/-- END_SLICE, RESHAPE, PAGE_OUT and COLD_RESTORE: STATE, RESULT, and what each leaves of the context (R262; R263; R264; R266; R267; R268;
R269). The model's choices: a refused command is shown in PCMD, but for a busy one, and page-out without feature 4 gets RESULT 3
(assumption 42); paging ends at a later Tabor cycle (assumption 2), and none begins to be read back after a fatal error (assumption 65). -/
def Obligations.ManagementCommands : Prop :=
  ∀ (s : State) (vf v m y : Nat) (tk : Task),
    let p := s.part vf
    let run (j : Instr) (P : State → Prop) : Prop := ∃ t, exec j s = .next t ∧ (t.part vf).pt = p.pt ∧ P t
    let takes : Prop := p.live = true ∧ p.pres ≠ 0
    let result (t : State) (cmd res : Nat) : Prop := (t.part vf).pcmd = cmd ∧ (t.part vf).pres = res
    let away : Prop := p.resid = .switchedOut
    let paging : Prop := p.live = true ∧ (p.resid = .pagingOut ∨ p.resid = .pagingIn)
    let same (t : State) : Prop := (t.part vf).cores = p.cores ∧ (t.part vf).task = p.task ∧ ∀ c, t.core vf c = s.core vf c
    let core := s.core vf v
    (takes → p.status = 0 → run (.endSlice vf) fun t => result t 1 1 ∧ (t.part vf).resid = .switchedOut)
    ∧ (takes → p.status = 1 → s.fatal = 0 → p.preempt = none → p.isBound = true → run (.endSlice vf) fun t => result t 1 0
        ∧ (t.part vf).preempt ≠ none ∧ (t.part vf).resid = p.resid ∧ same t)
    ∧ (takes → p.status = 2 → run (.endSlice vf) fun t => result t 1 0 ∧ (t.part vf).endAfter = true ∧ same t)
    ∧ (takes → 3 ≤ p.status → p.status ≤ 4 → run (.endSlice vf) fun t => result t 1 4 ∧ (t.part vf).resid = p.resid ∧ same t)
    ∧ (paging → (run (.endSlice vf) fun t => result t p.pcmd 2 ∧ same t) ∧ (run (.reshape vf m) fun t => result t p.pcmd 2 ∧ same t)
        ∧ (p.resid = .pagingIn ∨ (p.resumeAt = some y ∧ s.tabor < y) → run (.pageOut vf) fun t => result t p.pcmd 2 ∧ same t))
    ∧ (p.pres = 0 → p.status < 5 → exec (.endSlice vf) s = .next s ∧ run (.reshape vf m) fun t => result t p.pcmd 0 ∧ same t)
    ∧ (takes → p.status < 3 → run (.reshape vf m) fun t => result t 2 4 ∧ same t)
    ∧ (takes → away → p.reshapable m = false → run (.reshape vf m) fun t => result t 2 3 ∧ same t)
    ∧ (takes → away → p.reshapable m = true → p.task = some tk → run (.reshape vf m) fun t => result t 2 1 ∧ (t.part vf).cores = m
        ∧ (t.part vf).task = some { tk with cores := min tk.cores m, budget := min tk.budget (4 * m) }
        ∧ (m ≤ v → t.core vf v = Core.fresh)
        ∧ ((0, s.core vf 0) ∈ p.coreOf → ∀ e ∈ p.coreOf, m ≤ e.1 → ∀ l ∈ e.2.launches, (0, l.2) ∈ (t.core vf 0).launches)
        ∧ (v < m → (v, core) ∈ p.coreOf → (t.core vf v).scratch = core.scratch ∧ (t.core vf v).bstore = core.bstore
          ∧ ((t.core vf v).k 13).toNat = min (core.k 13).toNat m ∧ (∀ n, n ≠ 13 → (t.core vf v).k n = core.k n) ∧ (t.core vf v).next = core.next))
    ∧ (takes → p.status < 3 → run (.pageOut vf) fun t => result t 3 4 ∧ same t)
    ∧ (takes → away → p.feature 4 = false → run (.pageOut vf) fun t => result t 3 3 ∧ same t ∧ (t.part vf).resid = .switchedOut)
    ∧ (takes → away → p.feature 4 = true → run (.pageOut vf) fun t => result t 3 0 ∧ same t ∧ (t.part vf).resid = .pagingOut
        ∧ ∃ w, s.tabor < w ∧ (t.part vf).resumeAt = some w)
    ∧ (p.resid = .pagingOut → p.resumeAt = some y → y ≤ s.tabor → p.pres = 0 → p.wantRestore = false → run (.pageOut vf) fun t =>
        (t.part vf).resid = .cold ∧ (t.part vf).pres = 1 ∧ (t.part vf).digest ≠ none ∧ same t)
    ∧ (p.resid = .pagingOut → p.resumeAt = some y → y ≤ s.tabor → p.corrupt = false → p.wantRestore = true → run (.pageOut vf) fun t =>
        (s.fatal = 0 → (t.part vf).resid = .pagingIn) ∧ (s.fatal ≠ 0 → (t.part vf).resid = .cold) ∧ same t)
    ∧ (p.resid = .cold → (p.corrupt = true ∨ s.fatal ≠ 0) → exec (.coldRestore vf) s = .next s)
    ∧ (p.resid = .cold → p.corrupt = false → s.fatal = 0 → run (.coldRestore vf) fun t => (t.part vf).resid = .pagingIn ∧ same t ∧ ∃ w, s.tabor < w ∧ (t.part vf).resumeAt = some w)
    ∧ (p.resid = .pagingIn → p.resumeAt = some y → y ≤ s.tabor → run (.coldRestore vf) fun t => same t
        ∧ (((t.part vf).resid = .switchedOut ∧ (t.part vf).digest = none) ∨ ((t.part vf).resid = .cold ∧ (t.part vf).pres = 5 ∧ (t.part vf).corrupt = true)))

/-- Features, the energy meter, the power cap, plain register writes and the thermal policy (R191; R192; R193; R279; R280; R287; R288). The
meter adds its charges, even in the freeze of a rail error, and saturates at 2^64 - 1 until cleared; that a clear leaves the held half is
the model's choice (assumption 120). The model's choices: when a hot condition clears (assumption 66), writes of half registers
(assumption 64), the full meter (assumption 79), and what a meter that no partition has reads (assumption 80). -/
def Obligations.HostRegistersAndMeters : Prop :=
  ∀ (s : State) (vf amount val i temp power : Nat),
    let p := s.part vf
    let run (j : Instr) (P : State → Prop) : Prop := ∃ t, exec j s = .next t ∧ (∀ w, (t.part w).pt = (s.part w).pt)
      ∧ (∀ c, t.core vf c = s.core vf c) ∧ P t
    let served : Prop := s.bstat = 7 ∧ vf < 128
    let ready : Prop := served ∧ p.live = true
    let stray (j : Instr) : Prop := ∃ t x, exec j s = .next t ∧ t.outbox = s.outbox ++ [.mmioRead vf x] ∧ ∀ w, t.part w = s.part w
    let acc : Nat := p.accepted
    let busy : Prop := p.task ≠ none ∨ p.loading ≠ none ∨ p.queue ≠ [] ∨ ∃ r ∈ p.t1Queue, ∃ m st hi x, r.2 = .word m st hi x ∧ x ≠ .refused
    (served → acc % 2 = 1 → acc < 64 → ¬ busy → run (.featureCommit vf) fun t =>
        (t.part vf).factOk = true ∧ (t.part vf).features = acc ∧ (t.part vf).featuresNext = none)
    ∧ (served → acc % 2 = 1 → acc < 64 → busy → run (.featureCommit vf) fun t =>
        (t.part vf).factOk = true ∧ (t.part vf).features = p.features ∧ (t.part vf).featuresNext = some acc)
    ∧ (served → (acc % 2 = 0 ∨ 64 ≤ acc) → run (.featureCommit vf) fun t => (t.part vf).factOk = false ∧ (t.part vf).features = p.features)
    ∧ (served → hostRead vf 0x200 s = s.emit (.mmioRead vf 0x3F))
    ∧ (served → i < 8 → hostRead vf (0x220 + 4 * i) s = s.emit (.mmioRead vf (tget 0 p.facc i).toNat))
    ∧ (served → p.live = false → stray (.emloRead vf) ∧ stray (.emhiRead vf) ∧ exec (.energyMeterClear vf) s = .next s)
    ∧ (ready → run (.emloRead vf) fun t => t.outbox = s.outbox ++ [.mmioRead vf (p.meter % 2 ^ 32)] ∧ (t.part vf).meterHold = some (p.meter / 2 ^ 32)
        ∧ (t.part vf).meter = p.meter)
    ∧ (ready → p.meterHold = some val → run (.emhiRead vf) fun t => t.outbox = s.outbox ++ [.mmioRead vf val] ∧ (t.part vf).meterHold = none)
    ∧ (ready → p.meterHold = none → run (.emhiRead vf) fun t => t.outbox = s.outbox ++ [.mmioRead vf (p.meter / 2 ^ 32)] ∧ (t.part vf).meterHold = none)
    ∧ (ready → run (.energyMeterClear vf) fun t => (t.part vf).meter = 0 ∧ (t.part vf).meterSat = false ∧ (t.part vf).meterHold = p.meterHold)
    ∧ (p.live = true → p.meterSat = false → p.meter + amount < 2 ^ 64 → run (.energyMeterCharge vf amount) fun t =>
        (t.part vf).meter = p.meter + amount ∧ (t.part vf).meterSat = false)
    ∧ (p.live = true → p.meterSat = false → 2 ^ 64 ≤ p.meter + amount → run (.energyMeterCharge vf amount) fun t =>
        (t.part vf).meter = 2 ^ 64 - 1 ∧ (t.part vf).meterSat = true)
    ∧ (p.meterSat = true → run (.energyMeterCharge vf amount) fun t => (t.part vf).meter = p.meter)
    ∧ (s.bstat = 7 → takeInput (.event (.energyMeterCharge vf amount)) s = .run (.energyMeterCharge vf amount) s
        ∧ takeInput (.event (.energyMeterClear vf)) s = .run (.energyMeterClear vf) s)
    ∧ (s.bstat = 7 → 500 ≤ val → val ≤ 3000 → run (.pcapWrite val) fun t => t.pcap = val)
    ∧ (val < 2 ^ 12 → (val < 500 ∨ 3000 < val) → exec (.pcapWrite val) s = .next s)
    ∧ (served → i < 8 → run (.mmioWrite vf (0x220 + 4 * i) val) fun t => tget 0 (t.part vf).facc i = BitVec.ofNat 32 val
        ∧ (t.part vf).features = p.features ∧ t.mail = s.mail)
    ∧ (served → (i < 0x220 ∨ 0x240 ≤ i) → exec (.mmioWrite vf i val) s = .next s)
    ∧ (s.bstat = 7 → i < 2 → run (.mmioWrite (128 + i) 0x010 val) fun t => (tget Mailbox.fresh t.mail i).addr % 2 ^ 32 = val % 2 ^ 32
        ∧ (tget Mailbox.fresh t.mail i).addr / 2 ^ 32 = (tget Mailbox.fresh s.mail i).addr / 2 ^ 32 % 2 ^ 32
        ∧ (tget Mailbox.fresh t.mail i).go = (tget Mailbox.fresh s.mail i).go)
    ∧ (s.fatal = 0 → (105 ≤ temp ∨ s.pcap < power) → run (.thermalSample temp power) fun t => t.holdLevel = min (s.holdLevel + 1) 4096 ∧ t.calm = 0)
    ∧ (s.fatal = 0 → temp < 100 → (s.hotBelow = 0 ∨ s.hotBelow = 2) → power ≤ s.pcap → 15 ≤ s.calm → run (.thermalSample temp power) fun t =>
        t.holdLevel = s.holdLevel - 1 ∧ t.hotBelow = 0)

/-- Mailbox codes 1 to 4 and unknown codes: STATUS, GO and vector 0; images and tenants created and deleted; refusals change nothing (R226;
R289; R290). The model's choices: the order of the checks (assumption 54), what makes an image malformed (assumptions 57 and 85), that a
tenant may go while channels hold what it left, which are then no tenant's (assumption 89), and that the least unused tenant number is
given (assumption 106). -/
def Obligations.MailboxImagesAndTenants : Prop :=
  ∀ (s : State) (pf n code : Nat) (im : Image) (i : Instr),
    let legal (code n : Nat) : Prop := s.mailQueue.head? = some pf ∧ s.mailCode pf = code ∧ s.blockLegal pf n = true
    let answers (i : Instr) (status : Nat) (P : State → Prop) : Prop := ∃ t, exec i s = .next t ∧ (tget Mailbox.fresh t.mail pf).status = status
      ∧ (tget Mailbox.fresh t.mail pf).go = false ∧ t.mailQueue = s.mailQueue.erase pf ∧ t.outbox = s.outbox ++ [.msixPf pf 0]
      ∧ (∀ w, t.part w = s.part w) ∧ P t
    let refuses (i : Instr) (status : Nat) : Prop := answers i status fun t => t.images = s.images ∧ t.tenants = s.tenants ∧ t.host = s.host
    let tenant := s.param pf 96 8
    let file := Config.parseImage (memRead s.host (s.param pf 0 64) (s.param pf 64 32))
    let known (k : Nat) : Prop := (tfind s.tenants k).isSome = true
    let image := s.param pf 0 32
    let gone := s.param pf 0 8
    (s.mailQueue.head? = some pf → Config.busError s.oracle = true → refuses (.mailboxUnknownCode pf) 9)
    ∧ (s.mailQueue.head? = some pf → Config.busError s.oracle = false → (s.mailCode pf = 0 ∨ 13 < s.mailCode pf) → refuses (.mailboxUnknownCode pf) 2)
    ∧ (((i, code, n) = (.registerImage pf, 1, 13) ∨ (i, code, n) = (.unregisterImage pf, 2, 4) ∨ (i, code, n) = (.createTenant pf, 3, 0)
        ∨ (i, code, n) = (.deleteTenant pf, 4, 1)) → s.mailQueue.head? = some pf → s.mailCode pf = code → s.blockLegal pf n = false → refuses i 3)
    ∧ (legal 1 13 → known tenant → file = some im → imageLegal im = true → (∃ q ∈ s.partsOf tenant, im.cores ≤ q.cores) →
        (∃ q ∈ s.partsOf tenant, im.vchannels ≤ q.channels) → Config.imageStoreFull s.oracle = false → 12 ≤ s.replyRoom pf →
        answers (.registerImage pf) 1 fun t => ∃ k, 0 < k ∧ tfind s.images k = none ∧ tfind t.images k = some im ∧ tfind t.imageTenant k = some tenant
          ∧ (∀ j, j ≠ k → tfind t.images j = tfind s.images j) ∧ t.host = memWrite s.host (s.replyAddr pf) (leBytes 8 4 ++ leBytes 4 k))
    ∧ (legal 1 13 → (¬ known tenant ∨ file = none ∨ (file = some im ∧ imageLegal im = false)) → refuses (.registerImage pf) 3)
    ∧ (legal 1 13 → known tenant → file = some im → imageLegal im = true → (Config.imageStoreFull s.oracle = true
        ∨ (∀ q ∈ s.partsOf tenant, q.cores < im.cores) ∨ ∀ q ∈ s.partsOf tenant, q.channels < im.vchannels) →
        refuses (.registerImage pf) 6)
    ∧ (legal 2 4 → tfind s.images image = none → refuses (.unregisterImage pf) 3)
    ∧ (legal 2 4 → tfind s.images image = some im → (∃ e ∈ s.parts, ∃ x ∈ e.2.pendingNodes, x.image = image) → refuses (.unregisterImage pf) 4)
    ∧ (legal 2 4 → tfind s.images image = some im → (∀ e ∈ s.parts, ∀ x ∈ e.2.pendingNodes, x.image ≠ image) →
        answers (.unregisterImage pf) 1 fun t => tfind t.images image = none ∧ ∀ j, j ≠ image → tfind t.images j = tfind s.images j)
    ∧ (legal 3 0 → 1 ≤ n → n ≤ 255 → ¬ known n → (∀ k, 1 ≤ k → k < n → known k) → 9 ≤ s.replyRoom pf →
        answers (.createTenant pf) 1 fun t => tfind t.tenants n = some ⟨Config.entropy s.oracle % 2 ^ 512, []⟩
          ∧ (∀ j, j ≠ n → tfind t.tenants j = tfind s.tenants j) ∧ t.host = memWrite s.host (s.replyAddr pf) (leBytes 8 1 ++ leBytes 1 n))
    ∧ (legal 3 0 → (∀ k, 1 ≤ k → k ≤ 255 → known k) → refuses (.createTenant pf) 6)
    ∧ (legal 4 1 → ¬ known gone → refuses (.deleteTenant pf) 3)
    ∧ (legal 4 1 → known gone → ((∃ e ∈ s.imageTenant, e.2 = gone) ∨ s.partsOf gone ≠ []) → refuses (.deleteTenant pf) 4)
    ∧ (legal 4 1 → known gone → (∀ e ∈ s.imageTenant, e.2 ≠ gone) → s.partsOf gone = [] → answers (.deleteTenant pf) 1 fun t =>
        tfind t.tenants gone = none ∧ (gone ≠ 0 → ∀ e ∈ t.chanTenant, e.2 ≠ gone) ∧ ∀ j, j ≠ gone → tfind t.tenants j = tfind s.tenants j)

/-- Mailbox codes 5, 6 and 11 to 13: partitions created at PT 0 and deleted; debug breaks enabled, masked and released (R258; R259; R262;
R289; R290; R291). The model's choices: which cores and channels are bound (assumption 52), the deletion of a context that cannot be read
(assumption 53), STATUS 3 for a group that is zero where the class is not, or the reverse, and the order 3 before 4 before 6 (assumption
54), whose turn it is, and that devices at one PT resume together (assumptions 67 and 109), that a partition created after a rail error
stands frozen (assumption 82), and that it has as many service banks as its T1 pages need (assumption 111). -/
def Obligations.MailboxPartitionsAndDebug : Prop :=
  ∀ (s : State) (pf : Nat),
    let legal (code n : Nat) : Prop := s.mailQueue.head? = some pf ∧ s.mailCode pf = code ∧ s.blockLegal pf n = true
    let answers (i : Instr) (status : Nat) (P : State → Prop) : Prop := ∃ t, exec i s = .next t ∧ (tget Mailbox.fresh t.mail pf).status = status
      ∧ (tget Mailbox.fresh t.mail pf).go = false ∧ t.mailQueue = s.mailQueue.erase pf ∧ P t
    let refuses (i : Instr) (status : Nat) : Prop := answers i status fun t => (∀ w, t.part w = s.part w) ∧ t.tenants = s.tenants
    let tenant := s.param pf 0 8
    let n := s.param pf 8 10
    let c := s.param pf 18 8
    let new := s.param pf 26 7
    let good : Prop := (tfind s.tenants tenant).isSome = true ∧ 4 ≤ n ∧ n ≤ 512 ∧ c ≤ 128 ∧ s.param pf 33 31 = 0 ∧ s.param pf 98 6 = 0
    let single : Prop := s.param pf 64 32 = 0 ∧ s.param pf 96 2 = 0
    let vf := s.param pf 0 7
    let p := s.part vf
    let notFault (y : Stop) : Bool := decide (y ≠ .fault)
    let broke : Prop := Stop.fault ∈ p.stops ∧ p.frec.code = 0x72
    let pending : Prop := p.queue ≠ [] ∨ p.task ≠ none ∨ p.loading ≠ none ∨ ∃ r ∈ p.t1Queue, ∃ m st hi x, r.2 = .word m st hi x ∧ x ≠ .refused
    let create := Instr.createLogicalPartition pf
    (legal 5 13 → good → single → (s.part new).live = false → s.hasRoom n c = true → answers create 1 fun t =>
        (t.part new).live = true ∧ (t.part new).tenant = tenant ∧ (t.part new).cores = n ∧ (t.part new).channels = c ∧ (t.part new).pt = 0
        ∧ (t.part new).task = none ∧ (t.part new).queue = [] ∧ (∃ h, (t.part new).resid = .bound h ∧ h ∉ s.usedHard)
        ∧ (t.part new).facc = (s.part new).facc ∧ (t.part new).features = (s.part new).features
        ∧ (∀ x ∈ (t.part new).pages, x.tier = 1 →
            x.row + 64 ^ x.size ≤ 4096 * (List.range 16).countP fun b => (tget 0 (t.part new).service x.vch).testBit b)
        ∧ (∀ x ∈ (t.part new).stops, x = .rail) ∧ ∀ w v, w ≠ new → (t.part w).pt = (s.part w).pt ∧ t.core w v = s.core w v)
    ∧ (legal 5 13 → (¬ good ∨ decide (s.param pf 64 32 = 0) ≠ decide (s.param pf 96 2 = 0)) → refuses create 3)
    ∧ (legal 5 13 → good → single → (s.part new).live = true → refuses create 4)
    ∧ (legal 5 13 → good → single → (s.part new).live = false → s.hasRoom n c = false → refuses create 6)
    ∧ (legal 6 1 → s.param pf 7 1 = 0 → p.live = true → (p.status = 0 ∨ p.status = 3 ∨ p.status = 4) →
        (¬ pending ∨ (p.status = 4 ∧ p.corrupt = true)) → answers (.deleteLogicalPartition pf) 1 fun t =>
          t.part vf = { Part.fresh with facc := p.facc, factOk := p.factOk, features := p.features, featuresNext := p.featuresNext } ∧ ∀ w v, w ≠ vf → (t.part w).pt = (s.part w).pt
          ∧ (t.core w v).scratch = (s.core w v).scratch)
    ∧ (legal 6 1 → s.param pf 7 1 = 0 → (p.live = false ∨ p.status = 1 ∨ p.status = 2 ∨ 5 ≤ p.status
        ∨ (pending ∧ (p.status = 4 → p.corrupt = false))) →
        refuses (.deleteLogicalPartition pf) 4)
    ∧ (legal 11 1 → p.live = true → p.feature 5 = true → s.param pf 7 1 = 1 → answers (.debugEnable pf) 1 fun t =>
        (t.part vf).debug = true ∧ (t.part vf).breakMask = BitVec.allOnes 64 ∧ (t.part vf).stops = p.stops)
    ∧ (legal 11 1 → p.live = true → p.feature 5 = true → s.param pf 7 1 = 0 → ¬ broke → answers (.debugEnable pf) 1 fun t =>
        (t.part vf).debug = false ∧ (t.part vf).stops = p.stops)
    ∧ (legal 11 1 → (p.live = false ∨ p.feature 5 = false) → refuses (.debugEnable pf) 4)
    ∧ (legal 12 16 → s.param pf 7 57 = 0 → p.live = true → p.debug = true → p.feature 5 = true → answers (.setBreakMask pf) 1 fun t =>
        (t.part vf).breakMask = BitVec.ofNat 64 (s.param pf 64 64) ∧ (t.part vf).debug = true ∧ (t.part vf).stops = p.stops)
    ∧ (legal 12 16 → s.param pf 7 57 = 0 → (p.live = false ∨ p.debug = false ∨ p.feature 5 = false) → refuses (.setBreakMask pf) 4)
    ∧ (legal 13 1 → s.param pf 7 1 = 0 → broke → p.endAfter = false → answers (.debugRelease pf) 1 fun t =>
        (p.alone = true ∨ (∃ y ∈ p.stops, y ≠ .fault ∧ y.announced = true) → (t.part vf).stops = p.stops.filter notFault)
        ∧ (p.alone = false → (∀ y ∈ p.stops, y ≠ .fault → y.announced = false) → (t.part vf).stops = p.stops.filter notFault ++ [.align])
        ∧ (t.part vf).pt = p.pt ∧ ∀ v, t.core vf v = s.core vf v)
    ∧ (legal 13 1 → s.param pf 7 1 = 0 → ¬ broke → refuses (.debugRelease pf) 4)

/-- Mailbox codes 7 to 10, PACKAGE_RESET and POWER_LOSS: nonces, life-cycle changes, reports, the wipe and boot (R282; R283; R284; R285; R286;
R289; R290). The model's choices: memory reads zero after the wipe (assumption 7), the order of a change's checks (54). -/
def Obligations.LifeCycleResetAndAttestation : Prop :=
  ∀ (s : State) (pf m sig : Nat) (image : List Byte),
    let legal (code n : Nat) : Prop := s.mailQueue.head? = some pf ∧ s.mailCode pf = code ∧ s.blockLegal pf n = true
    let run (j : Instr) (P : State → Prop) : Prop := ∃ t, exec j s = .next t ∧ P t
    let status (t : State) : Nat := (tget Mailbox.fresh t.mail pf).status
    let target := s.param pf 0 8
    let allowed : Prop := (s.lcs, target) ∈ [(0, 1), (0, 3), (1, 2), (1, 3), (2, 1), (2, 3)]
    let quiet : Prop := ∀ e ∈ s.parts, e.2.live = true → e.2.status = 0 ∨ e.2.status = 3
    let signed_ : Prop := ∃ n, s.nonce = some n ∧ Config.verify s.lcKey (leBytes 3 s.deviceId ++ leBytes 1 s.lcs ++ leBytes 1 target ++ leBytes 32 n) (s.blockField pf 65 29792) = true
    let wiped (t : State) : Prop := t.parts = [] ∧ t.tenants = [] ∧ t.images = [] ∧ t.dram = [] ∧ t.t1 = [] ∧ t.tabor = 0 ∧ t.nonce = none
      ∧ t.host = s.host ∧ t.remote = s.remote ∧ t.lcsErr = false
    let refused (t : State) (code : Nat) : Prop := status t = code ∧ t.lcsErr = true ∧ t.nonce = none ∧ t.lcs = s.lcs ∧ t.seeds = s.seeds
      ∧ t.parts = s.parts ∧ t.dram = s.dram
    let change := Instr.lifeCycleChange pf
    let nonce := Config.entropy s.oracle % 2 ^ 256
    (legal 7 0 → 40 ≤ s.replyRoom pf → run (.lifeCycleNonce pf) fun t => status t = 1 ∧ t.nonce = some nonce
        ∧ t.host = memWrite s.host (s.replyAddr pf) (leBytes 8 32 ++ leBytes 32 nonce) ∧ t.parts = s.parts)
    ∧ (legal 8 29793 → 3 < target → run change fun t => refused t 3)
    ∧ (legal 8 29793 → target ≤ 3 → ¬ allowed → run change fun t => refused t 7)
    ∧ (legal 8 29793 → allowed → ¬ quiet → run change fun t => refused t 4)
    ∧ (legal 8 29793 → allowed → quiet → ¬ signed_ → run change fun t => refused t 5)
    ∧ (legal 8 29793 → allowed → quiet → signed_ → run change fun t => wiped t ∧ t.lcs = target
        ∧ (s.seeds ≠ none → t.seeds = s.seeds) ∧ (s.seeds = none → (t.seeds = none ↔ target ≠ 1)))
    ∧ (legal 9 32 → (s.lcs = 0 ∨ s.lcs = 3 ∨ s.seeds = none) → run (.attestationReport pf) fun t => status t = 7 ∧ t.host = s.host)
    ∧ (legal 9 32 → (s.lcs = 1 ∨ s.lcs = 2) → s.seeds ≠ none → 19208 ≤ s.replyRoom pf → run (.attestationReport pf) fun t => status t = 1
        ∧ ∃ bytes, bytes.length = 19200 ∧ t.host = memWrite s.host (s.replyAddr pf) (leBytes 8 19200 ++ bytes) ∧ t.parts = s.parts)
    ∧ (legal 10 0 → (s.lcs = 0 ∨ s.lcs = 3 ∨ s.seeds = none) → run (.attestationKey pf) fun t => status t = 7 ∧ t.host = s.host)
    ∧ (legal 10 0 → (s.lcs = 1 ∨ s.lcs = 2) → s.seeds ≠ none → 29832 ≤ s.replyRoom pf → run (.attestationKey pf) fun t => status t = 1
        ∧ ∃ bytes, bytes.length = 29824 ∧ t.host = memWrite s.host (s.replyAddr pf) (leBytes 8 29824 ++ bytes) ∧ t.parts = s.parts)
    ∧ (run .packageReset fun t => wiped t ∧ t.lcs = s.lcs ∧ t.seeds = s.seeds ∧ t.powered = true ∧ t.booting = false ∧ t.fatal = 0)
    ∧ (Config.firmware s.oracle = some (m, image, sig) → Config.verify s.fwKey image sig = true → s.minVersion ≤ m → run .packageReset fun t => t.bstat = 7
        ∧ tget 0 t.meas 1 = shake256 (leBytes 64 0 ++ leBytes 64 (shake256 image 512)) 512
        ∧ tget 0 t.meas 3 = shake256 (leBytes 64 0 ++ leBytes 64 (shake256 (leBytes 1 s.lcs) 512)) 512)
    ∧ (Config.firmware s.oracle = some (m, image, sig) → (Config.verify s.fwKey image sig = false ∨ m < s.minVersion) → run .packageReset fun t => t.bstat = 3)
    ∧ (Config.firmware s.oracle = none → run .packageReset fun t => t.bstat = 2)
    ∧ (run .powerLoss fun t => wiped t ∧ t.powered = false ∧ t.lcs = s.lcs ∧ t.seeds = s.seeds)
    ∧ (s.powered = false → (∀ e ∈ s.inbox, e.2 ≠ .event .packageReset) → step s = .fault .noPower)

/-- VSHL, VSHR and VSAR: every lane shifted by its own count, no count wrapped, whatever the type (R105). -/
def Obligations.LaneShifts : Prop :=
  (∀ t x y i : Nat, i < lanes t →
    let w := laneBits t
    let a : BitVec w := BitVec.ofNat w (lane w x i)
    let n := lane w y i
    lane w (vShl t x y) i = (a <<< n).toNat
    ∧ lane w (vShr t x y) i = (a >>> n).toNat
    ∧ lane w (vSar t x y) i = (a.sshiftRight n).toNat
    ∧ (w ≤ n → lane w (vShl t x y) i = 0 ∧ lane w (vShr t x y) i = 0
        ∧ lane w (vSar t x y) i = if a.msb then 2 ^ w - 1 else 0))
  ∧ ∀ (s : State) (g : Guard) (d a b t : Nat),
    let c := s.hereCore
    let sl := s.cursor.slot
    let dst := if sl = 3 then Dst.w d else Dst.v d
    Delivers s g (.vshl g d a b t) id [(2, .reg dst (vShl t (c.vn sl a) (c.vn sl b)))]
    ∧ Delivers s g (.vshr g d a b t) id [(2, .reg dst (vShr t (c.vn sl a) (c.vn sl b)))]
    ∧ Delivers s g (.vsar g d a b t) id [(2, .reg dst (vSar t (c.vn sl a) (c.vn sl b)))]

/-- VRNG: lane i is the draw for the key and counter that its operands hold, lanes 4 to 63 of B unread (R111). -/
def Obligations.DrawsPerLane : Prop :=
  (∀ x y i : Nat, i < 32 →
    lane 64 (vRng x y) i
      = peal (lane 32 y 0) (lane 32 y 1) (lane 64 x i % 2 ^ 32) (lane 64 x i / 2 ^ 32) (lane 32 y 2) (lane 32 y 3))
  ∧ (∀ x y z : Nat, y % 2 ^ 128 = z % 2 ^ 128 → vRng x y = vRng x z)
  ∧ (∀ (g : Guard) (sl d a b t : Nat), Instr.legal sl (.vrng g d a b t) = true → t = 7)
  ∧ ∀ (s : State) (g : Guard) (d a b : Nat),
    let c := s.hereCore
    let sl := s.cursor.slot
    let dst := if sl = 3 then Dst.w d else Dst.v d
    Delivers s g (.vrng g d a b 7) id [(6, .reg dst (vRng (c.vn sl a) (c.vn sl b)))]

/-- An op whose condition is false only applies its step; an encoding fault is raised all the same (R39). -/
def Obligations.FalseCondition : Prop :=
  ∀ (s : State) (vf v sl : Nat) (i : Instr) (e : DecodeError) (xs : List Issuing) (heavy : Option (Issuing × Bad)) (a : Int),
    let c := s.hereCore
    let here := c.slot s.cursor.slot
    let g := guardOf here.word.toNat
    let x : Issuing := ⟨v, sl, a, (s.core vf v).slot sl⟩
    let w := x.st.word.toNat
    let y := x.st.ext.toNat
    c.holds g = xor (c.p (bits here.word.toNat 20 5)) (decide (bits here.word.toNat 19 1 = 1))
    ∧ (decodeOp s.cursor.slot here.word.toNat here.ext.toNat = .ok i → c.holds g = false → (g.pred = 0 ∨ (4, 64 * 12 + g.pred) ∉ c.bad) →
        (passes s g i = !taskLimit s.here i)
        ∧ ((∀ h, i ≠ .nop h) → taskLimit s.here i = false → exec i s = .next (s.onHere fun u => u.setSlot s.cursor.slot (stepOf i here))))
    ∧ (decodeOp sl w y = .error e →
        ∃ b, opBad s vf xs heavy x = some b ∧ b.code = (if e = .reservedField then 2 else 1) ∧ b.detail = w + 2 ^ 32 * y)
    ∧ (decodeOp sl w y = .ok i → taskLimit (s.part vf) i = true → ∃ b, opBad s vf xs heavy x = some b ∧ b.code = 1)

/-- When the checks of an issue pass, which fault the first that fails gives, and that it stops the partition here and changes no core or
memory (R47; R238; R241; R242; R125; R126; R134; R136; R151; R169; R178; R177). Where p[PRED] holds an uncorrectable error, an op other
than NOP that passes its checks takes its step and has in flight for the next cycle the error of memory 4 that this read meets, whatever
the condition: the cycle is the model's choice (assumption 22). -/
def Obligations.FailingCheckIsPrecise : Prop :=
  ∀ (s : State) (i j : Instr) (b : Bad) (g0 : Guard) (d n a sz off im : Nat),
    let c := s.hereCore
    let here := c.slot s.cursor.slot
    let g := guardOf here.word.toNat
    (decodeOp s.cursor.slot here.word.toNat here.ext.toNat = .ok i →
      opCheck s s.cursor.vf s.cursor.core s.cursor.slot here g i = some b →
      ∃ t, exec i s = .next t ∧ s.onlyPart t s.cursor.vf ∧ (∀ v, t.core s.cursor.vf v = s.core s.cursor.vf v)
        ∧ t.here.pt = s.here.pt ∧ t.here.stage = s.here.stage ∧ t.cursor = s.cursor
        ∧ (s.here.recording (issueFault s.here s.cursor.core s.cursor.slot b) = false →
            t.here.frec = ⟨b.code, s.cursor.core, s.cursor.slot, 0, false, c.cur, s.here.pt, s.here.pt, b.detail⟩
            ∧ t.here.stops.contains .fault = true))
    ∧ (decodeOp s.cursor.slot here.word.toNat here.ext.toNat = .ok i → g.pred ≠ 0 → (4, 64 * 12 + g.pred) ∈ c.bad → passes s g i = true → (∀ h, i ≠ .nop h) →
        exec i s = .next (s.onHere fun u => (u.issue s.here.pt s.cursor.slot [(1, .readError 4 g.pred)]).setSlot s.cursor.slot (stepOf i here)))
    ∧ (j.inMap .s = true → (∀ g d a nat size off, j ≠ .lds g d a nat size off) → (∀ g v a size off, j ≠ .sts g v a size off) →
        (∀ g f d r u, j ≠ .xcpS g f d r u) → passes s g0 j = true)
    ∧ passes s g0 (.kli g0 d n) = true
    ∧ (let p := s.here
      let sl := s.cursor.slot
      let own := touchesOf c sl p.pt p.t0 here i
      let awake := c.allAwake sl p.pt own i
      let access := accessible p c sl i
      let load := loadAllowed p c p.pt i
      let timely := p.commandTimely p.pt i
      let alone := p.channelClear p.pt i
      let banks := c.banksClear own
      let interval := c.intervalKept p.pt i
      let stack := stackFits s p c i
      (passes s g0 i = true ↔ withinTask p i ∧
        (c.holds g0 = true → awake ∧ access ∧ load ∧ timely ∧ alone ∧ banks ∧ interval ∧ stack))
      ∧ (opCheck s s.cursor.vf s.cursor.core sl here g0 i = some b →
        (¬ withinTask p i → b.code = 1)
        ∧ (withinTask p i → ¬ awake → b.code = 0x10)
        ∧ (withinTask p i → awake → ¬ access → match i with
            | .dact _ vch bank h row =>
              let x := c.h h
              let may : Prop := x.rp = true ∧ x.tier = 0 ∧ x.vch = vch ∧ ¬ p.serves vch bank
              (x.st = .invalid → b.code = 0x20) ∧ (x.st = .miss → b.code = 0x21) ∧ (x.st = .valid → ¬ may → b.code = 0x22)
              ∧ (x.st = .valid → may → b.code = 0x23 ∧ b.detail = row * 2 ^ 16)
            | .drd _ vch bank _ _ _ | .dwr _ vch bank _ _ _ | .dpre _ vch bank _ | .dref _ vch bank => b.code = 0x22 ∧ b.detail = vch + 128 * bank
            | _ => b.code = 0x23)
        ∧ (withinTask p i → awake → access → ¬ load → match i with
            | .leave _ _ => b.code = 0x12
            | _ => b.code = 0x11)
        ∧ (withinTask p i → awake → access → load → ¬ timely → b.code = 0x31)
        ∧ (withinTask p i → awake → access → load → timely → ¬ alone → b.code = 0x32)
        ∧ (withinTask p i → awake → access → load → timely → alone → ¬ banks → b.code = 0x30)
        ∧ (withinTask p i → awake → access → load → timely → alone → banks → ¬ interval → b.code = 0x34)
        ∧ (withinTask p i → awake → access → load → timely → alone → banks → interval → ¬ stack → match i with
            | .launch _ _ _ => b.code = 0x64
            | _ => b.code = 0x62)))
    ∧ (let pt := s.here.pt
      let sl := s.cursor.slot
      let touches (j : Instr) : List Touch := touchesOf c sl pt s.here.t0 here j
      let x : Nat := ((((c.s a).toNat : Int) + (BitVec.ofNat 20 off).toInt) % 2 ^ 20).toNat / 2 ^ sz * 2 ^ sz
      let line (base bits : Nat) : Nat := (((base / 256 : Nat) : Int) + (BitVec.ofNat bits off).toInt + (here.adv1 : Int)) % 4096 |>.toNat
      let vline : Nat := line (if sl = 3 then c.ib a else c.ia a) 11
      let mline : Nat := line (c.im im) 13
      let near : Nat := (n + here.adv1) % 4096
      touches (.lds g0 d a im sz off) = [⟨pt + 1, x / 65536, x / 256⟩] ∧ touches (.sts g0 d a sz off) = [⟨pt + 2, x / 65536, x / 256⟩]
      ∧ touches (.vld g0 d a off) = [⟨pt + 1, vline / 256, vline⟩] ∧ touches (.vst g0 d a off) = [⟨pt + 3, vline / 256, vline⟩]
      ∧ touches (.mpack g0 d im off n sz sz sz sz) = [⟨pt + 1, mline / 256, mline⟩]
      ∧ touches (.mmul g0 a d n) = [⟨pt, 16 + a, n⟩] ∧ touches (.mmac g0 a d n) = [⟨pt, 16 + a, n⟩]
      ∧ touches (.dwr g0 d a im n sz) = [⟨pt + 2, near / 256, near⟩]
      ∧ touches (.cpy g0 sz sz n im 0) = [⟨pt + 1, near / 256, near⟩, ⟨pt + 4, (im + here.adv2) % 4096 / 256, (im + here.adv2) % 4096⟩])

/-- Every well-formed op has words that its slot decodes to it, and only those: no bit of an encoding is dropped (R53; R57; R58; R59; R60; R62; R63; R64; R65; R66; R67; R68). -/
def Obligations.DecodeEncodeAgree : Prop :=
  (∀ (sl : Nat) (i : Instr), i.wellFormed sl = true →
    ∃ w x, encode i = some (w, x) ∧ w < 2 ^ 32 ∧ x < 2 ^ 32 ∧ decodeOp sl w x = .ok i)
  ∧ ∀ (sl w x : Nat) (i : Instr), decodeOp sl w x = .ok i → i.wellFormed sl = true ∧ encode i = some (w, x)

/-- Words written out from the encodings decode to the ops they stand for, and words that are none are refused (R53; R60; R62; R63; R65; R67; R68; R69; R165). -/
def Obligations.DecodedWords : Prop :=
  let g : Guard := ⟨0, 0⟩
  decodeOp 1 0x0200A282 0 = .ok (.add g 5 5 1)
  ∧ decodeOp 1 0x0C00C284 0 = .ok (.mul g 6 5 2)
  ∧ decodeOp 1 0x34000C90 0 = .ok (.xcpS g 0 3 9 0)
  ∧ decodeOp 2 0xB4004004 0x00100000 = .ok (.vldLong g 1 0 4 1)
  ∧ decodeOp 2 0xBE011020 7 = .ok (.xcpVLane g 1 4 2 0 7)
  ∧ decodeOp 0 0x10000123 0 = .ok (.trap g 0x123)
  ∧ decodeOp 0 0x26011800 0 = .ok (.launch g 2 3)
  ∧ decodeOp 0 0x20000000 0 = .ok (.bara g 0)
  ∧ decodeOp 0 0x22008000 0 = .ok (.barw g 1)
  ∧ decodeOp 0 0xA2010000 4 = .ok (.barwTimeout g 2 4)
  ∧ decodeOp 0 0xAC010000 0x3F = .ok (.kli g 2 63)
  ∧ decodeOp 0 0x24000000 0 = .ok (.phase g)
  ∧ decodeOp 0 0x0E000000 0 = .ok (.endOp g)
  ∧ decodeOp 4 0x0C028220 0 = .ok (.mmac g 1 2 17)
  ∧ decodeOp 5 0x96018300 0x00A00B01 = .ok (.aop g 3 0 1 2 0 0 10 11 1)
  ∧ decodeOp 6 0x960121E0 0x01401500 = .ok (.aop g 2 4 0 3 1 1 20 21 0)
  ∧ decodeOp 0 0x4A000000 0 = .error .illegalEncoding
  ∧ decodeOp 0 0x12000001 0 = .error .reservedField
  ∧ decodeOp 1 0x0200A283 0 = .error .illegalEncoding
  ∧ decodeOp 1 0xAC04A188 0 = .error .illegalEncoding
  ∧ decodeOp 2 0x40000000 0 = .error .illegalEncoding
  ∧ decodeOp 4 0x02000000 0 = .error .illegalEncoding
  ∧ decodeOp 4 0x8C028220 0 = .error .illegalEncoding
  ∧ decodeOp 5 0x0C003601 0 = .error .illegalEncoding

/-- A step runs the op that its slot's words decode to, and the words are those at the bundle's address (R34; R40; R53; R59; R71). -/
def Obligations.StepRunsDecodedOp : Prop :=
  ∀ (s : State) (vf v sl : Nat) (vs : List Nat) (rest : List (Nat × Nat)) (i : Instr),
    let p := s.part vf
    let pls := p.running.map (planOf p)
    let ready := s.powered = true ∧ s.booting = false ∧ s.arrived = none ∧ s.mailQueue = [] ∧ s.cursor.todo = vf :: vs
      ∧ s.fatal % 2 = 0 ∧ s.samples = false
      ∧ p.stops.any (Stop.waitDone s.tabor) = false ∧ tellMove s vf = none ∧ wallEvent s vf = none ∧ p.isBound = true ∧ p.sliceOver = false ∧ s.stretchUntil ≤ s.tabor
      ∧ p.losing = 0
    let at_ (t : State) : State := { t.atStage vf (.ops rest) with cursor := ⟨vf, v, sl, vf :: vs⟩ }
    (ready → p.stage = .ops ((v, sl) :: rest) →
      decodeOp sl ((p.core v).slot sl).word.toNat ((p.core v).slot sl).ext.toNat = .ok i → step s = exec i (at_ s))
    ∧ (ready → p.stage = .issue → p.stops = [] → issueFaults s vf pls = [] →
      breaksOf p vf pls [] = [] →
      (p.begin pls).stage = .ops ((v, sl) :: rest) →
      decodeOp sl (((p.begin pls).core v).slot sl).word.toNat (((p.begin pls).core v).slot sl).ext.toNat = .ok i →
      step s = exec i (at_ (s.setPart vf (p.begin pls))))
    ∧ ∀ (c : Core) (a : Int), sl < 7 →
      c.presentOps (2 ^ sl) 7 a
        = [(sl, ⟨BitVec.ofNat 32 (c.word a), BitVec.ofNat 32 (if bits (c.word a) 31 1 = 1 then c.word (a + 1) else 0), 0, 0⟩)]

/-- What the issue of any op leaves unchanged: memory, other partitions and cores, every register, and most of its own core (R35; R36; R37; R39; R47; R239). -/
def Obligations.IssueFrame : Prop :=
  ∀ (s t : State) (i : Instr), (encode i).isSome = true → exec i s = .next t →
    let p := s.here
    let q := t.part s.cursor.vf
    let c := s.hereCore
    let u := t.core s.cursor.vf s.cursor.core
    { t with parts := s.parts, outbox := s.outbox, oracle := s.oracle } = s
    ∧ (∀ w, w ≠ s.cursor.vf → t.part w = s.part w)
    ∧ { q with coreOf := p.coreOf, alignAt := p.alignAt, flitTo := p.flitTo, readyAt := p.readyAt, readies := p.readies, stops := p.stops, frec := p.frec, handlerAt := p.handlerAt, barriers := p.barriers,
               banks := p.banks, chans := p.chans, leaves := p.leaves, portLand := p.portLand } = p
    ∧ (∀ w, w ≠ s.cursor.core → t.core s.cursor.vf w = s.core s.cursor.vf w)
    ∧ { u with kregs := c.kregs, next := c.next, pending := c.pending, rstack := c.rstack, loop := c.loop, clamp := c.clamp,
               parkAt := c.parkAt, leaving := c.leaving, broke := c.broke, domains := c.domains, wakes := c.wakes, lastMul := c.lastMul,
               notices := c.notices, tlb := c.tlb, cmds := c.cmds, cmdCount := c.cmdCount, fences := c.fences, launches := c.launches,
               sticky := c.sticky, pend := c.pend, touches := c.touches } = c
    ∧ (∀ n, (∀ g ki body stages cl res, i ≠ .loop g n ki body stages cl res) → u.k n = c.k n)
    ∧ ((∀ g dom mode, i ≠ .wake g dom mode) → u.domains = c.domains)
    ∧ (i.inMap .k = false →
        { u with lastMul := c.lastMul, notices := c.notices, cmds := c.cmds, cmdCount := c.cmdCount, sticky := c.sticky, pend := c.pend,
                 touches := c.touches } = c)

/-- Every step moves the Tabor and each PT by at most one, and a stopped partition's PT stands (R14; R16; R17; R29). -/
def Obligations.ClocksAdvance : Prop :=
  ∀ (s t : State), step s = .next t →
    let resets : Prop := ∃ u pf, nextMove s = some (.run .packageReset u) ∨ nextMove s = some (.run .powerLoss u)
      ∨ nextMove s = some (.run (.lifeCycleChange pf) u)
    let restarts (vf : Nat) : Prop := resets ∨ ∃ u pf, (nextMove s = some (.run (.createLogicalPartition pf) u) ∧ u.param pf 26 7 = vf)
      ∨ (nextMove s = some (.run (.deleteLogicalPartition pf) u) ∧ u.param pf 0 7 = vf)
    (t.tabor = s.tabor ∨ t.tabor = s.tabor + 1 ∨ (t.tabor = 0 ∧ resets))
    ∧ ∀ vf, (t.part vf).pt = (s.part vf).pt ∨ ((t.part vf).pt = 0 ∧ restarts vf)
        ∨ ((t.part vf).pt = (s.part vf).pt + 1 ∧ (s.part vf).stage = .done ∧ s.cursor.todo.head? = some vf ∧ s.stretchUntil ≤ s.tabor
            ∧ (s.part vf).isBound = true)
    ∧ ∀ vf, (s.part vf).stops ≠ [] → (s.part vf).stage ≠ .done → (t.part vf).pt = (s.part vf).pt ∨ ((t.part vf).pt = 0 ∧ restarts vf)

/-- Every step keeps every memory in canonical form: addresses rising, no entry equal to what an unlisted address reads as (R123; R127; R131; R138). -/
def Obligations.MemoriesStayCanonical : Prop :=
  ∀ (s t : State), s.memOk = true → step s = .next t → t.memOk = true

/-- The package after reset: clocks at zero, nothing created, every register zero but G and p0, and the boot comes next (R14; R36; R137; R183;
R282; R286). The register values for which the spec states none (assumption 1) and the life-cycle state of a new part (assumption 12) are
the model's choices. -/
def Obligations.ResetState : Prop :=
  let r := State.reset
  r.memOk = true ∧ r.powered = true ∧ r.booting = true ∧ r.tabor = 0 ∧ r.parts = [] ∧ r.tenants = [] ∧ r.images = []
  ∧ r.ports = [] ∧ r.dram = [] ∧ r.t1 = [] ∧ r.lcs = 0 ∧ r.seeds = none ∧ r.bstat = 0
  ∧ (∀ vf v d, (r.core vf v).read d = if d = .g then 6 else if d = .p 0 then 1 else 0)
  ∧ (∀ vf v d, (r.core vf v).dom d = .off) ∧ (∀ vf ch b, ((r.part vf).bank ch b).st = .idle)
  ∧ step r = exec .packageReset r
end

