-- ==== Sys2Proof/Laws/Exec.lean ====
section
/-! SUPPORT. The meaning that the dispatch gives each instruction, one equation for each. -/

namespace Sys2Proof.Machine

variable (s : State)

@[simp] theorem exec_nop (g : Guard) : exec (.nop g) s = execNop g s := rfl
@[simp] theorem exec_br (g : Guard) (off : Nat) : exec (.br g off) s = execBr g off s := rfl
@[simp] theorem exec_brk (g : Guard) (ka : Nat) : exec (.brk g ka) s = execBrk g ka s := rfl
@[simp] theorem exec_call (g : Guard) (off : Nat) : exec (.call g off) s = execCall g off s := rfl
@[simp] theorem exec_ret (g : Guard) : exec (.ret g) s = execRet g s := rfl
@[simp] theorem exec_loop (g : Guard) (kn ki body stages cl res : Nat) : exec (.loop g kn ki body stages cl res) s = execLoop g kn ki body stages cl res s := rfl
@[simp] theorem exec_yieldOp (g : Guard) : exec (.yieldOp g) s = execYieldOp g s := rfl
@[simp] theorem exec_endOp (g : Guard) : exec (.endOp g) s = execEndOp g s := rfl
@[simp] theorem exec_trap (g : Guard) (code : Nat) : exec (.trap g code) s = execTrap g code s := rfl
@[simp] theorem exec_wake (g : Guard) (dom mode : Nat) : exec (.wake g dom mode) s = execWake g dom mode s := rfl
@[simp] theorem exec_sleep (g : Guard) (dom mode : Nat) : exec (.sleep g dom mode) s = execSleep g dom mode s := rfl
@[simp] theorem exec_wstat (g : Guard) (kd dom : Nat) : exec (.wstat g kd dom) s = execWstat g kd dom s := rfl
@[simp] theorem exec_leave (g : Guard) (mask : Nat) : exec (.leave g mask) s = execLeave g mask s := rfl
@[simp] theorem exec_xlt (g : Guard) (hd ka : Nat) : exec (.xlt g hd ka) s = execXlt g hd ka s := rfl
@[simp] theorem exec_hinv (g : Guard) (hd : Nat) : exec (.hinv g hd) s = execHinv g hd s := rfl
@[simp] theorem exec_setfmt (g : Guard) (ka : Nat) : exec (.setfmt g ka) s = execSetfmt g ka s := rfl
@[simp] theorem exec_setfmtLong (g : Guard) (val : Nat) : exec (.setfmtLong g val) s = execSetfmtLong g val s := rfl
@[simp] theorem exec_bara (g : Guard) (bar : Nat) : exec (.bara g bar) s = execBara g bar s := rfl
@[simp] theorem exec_barw (g : Guard) (bar : Nat) : exec (.barw g bar) s = execBarw g bar s := rfl
@[simp] theorem exec_barwTimeout (g : Guard) (bar beats : Nat) : exec (.barwTimeout g bar beats) s = execBarwTimeout g bar beats s := rfl
@[simp] theorem exec_phase (g : Guard) : exec (.phase g) s = execPhase g s := rfl
@[simp] theorem exec_launch (g : Guard) (kq kn : Nat) : exec (.launch g kq kn) s = execLaunch g kq kn s := rfl
@[simp] theorem exec_fence (g : Guard) (scope kind : Nat) : exec (.fence g scope kind) s = execFence g scope kind s := rfl
@[simp] theorem exec_tabr (g : Guard) (kd clk : Nat) : exec (.tabr g kd clk) s = execTabr g kd clk s := rfl
@[simp] theorem exec_kli (g : Guard) (kd imm : Nat) : exec (.kli g kd imm) s = execKli g kd imm s := rfl
@[simp] theorem exec_kcp (g : Guard) (kd ka : Nat) : exec (.kcp g kd ka) s = execKcp g kd ka s := rfl
@[simp] theorem exec_xcpK (g : Guard) (f d r u : Nat) : exec (.xcpK g f d r u) s = execXcpK g f d r u s := rfl
@[simp] theorem exec_add (g : Guard) (d a b : Nat) : exec (.add g d a b) s = execAdd g d a b s := rfl
@[simp] theorem exec_addImm (g : Guard) (d a imm : Nat) : exec (.addImm g d a imm) s = execAddImm g d a imm s := rfl
@[simp] theorem exec_addi (g : Guard) (d a imm : Nat) : exec (.addi g d a imm) s = execAddi g d a imm s := rfl
@[simp] theorem exec_sub (g : Guard) (d a b : Nat) : exec (.sub g d a b) s = execSub g d a b s := rfl
@[simp] theorem exec_subImm (g : Guard) (d a imm : Nat) : exec (.subImm g d a imm) s = execSubImm g d a imm s := rfl
@[simp] theorem exec_adc (g : Guard) (d a b ci co : Nat) : exec (.adc g d a b ci co) s = execAdc g d a b ci co s := rfl
@[simp] theorem exec_sbb (g : Guard) (d a b ci co : Nat) : exec (.sbb g d a b ci co) s = execSbb g d a b ci co s := rfl
@[simp] theorem exec_mul (g : Guard) (d a b : Nat) : exec (.mul g d a b) s = execMul g d a b s := rfl
@[simp] theorem exec_mulImm (g : Guard) (d a imm : Nat) : exec (.mulImm g d a imm) s = execMulImm g d a imm s := rfl
@[simp] theorem exec_mulh (g : Guard) (d a b nat : Nat) : exec (.mulh g d a b nat) s = execMulh g d a b nat s := rfl
@[simp] theorem exec_div (g : Guard) (d a b nat : Nat) : exec (.div g d a b nat) s = execDiv g d a b nat s := rfl
@[simp] theorem exec_andOp (g : Guard) (d a b : Nat) : exec (.andOp g d a b) s = execAndOp g d a b s := rfl
@[simp] theorem exec_andImm (g : Guard) (d a imm : Nat) : exec (.andImm g d a imm) s = execAndImm g d a imm s := rfl
@[simp] theorem exec_orOp (g : Guard) (d a b : Nat) : exec (.orOp g d a b) s = execOrOp g d a b s := rfl
@[simp] theorem exec_orImm (g : Guard) (d a imm : Nat) : exec (.orImm g d a imm) s = execOrImm g d a imm s := rfl
@[simp] theorem exec_xorOp (g : Guard) (d a b : Nat) : exec (.xorOp g d a b) s = execXorOp g d a b s := rfl
@[simp] theorem exec_xorImm (g : Guard) (d a imm : Nat) : exec (.xorImm g d a imm) s = execXorImm g d a imm s := rfl
@[simp] theorem exec_shl (g : Guard) (d a b : Nat) : exec (.shl g d a b) s = execShl g d a b s := rfl
@[simp] theorem exec_shlImm (g : Guard) (d a imm : Nat) : exec (.shlImm g d a imm) s = execShlImm g d a imm s := rfl
@[simp] theorem exec_shr (g : Guard) (d a b : Nat) : exec (.shr g d a b) s = execShr g d a b s := rfl
@[simp] theorem exec_shrImm (g : Guard) (d a imm : Nat) : exec (.shrImm g d a imm) s = execShrImm g d a imm s := rfl
@[simp] theorem exec_sar (g : Guard) (d a b : Nat) : exec (.sar g d a b) s = execSar g d a b s := rfl
@[simp] theorem exec_sarImm (g : Guard) (d a imm : Nat) : exec (.sarImm g d a imm) s = execSarImm g d a imm s := rfl
@[simp] theorem exec_minOp (g : Guard) (d a b nat : Nat) : exec (.minOp g d a b nat) s = execMinOp g d a b nat s := rfl
@[simp] theorem exec_maxOp (g : Guard) (d a b nat : Nat) : exec (.maxOp g d a b nat) s = execMaxOp g d a b nat s := rfl
@[simp] theorem exec_clz (g : Guard) (d a : Nat) : exec (.clz g d a) s = execClz g d a s := rfl
@[simp] theorem exec_popc (g : Guard) (d a : Nat) : exec (.popc g d a) s = execPopc g d a s := rfl
@[simp] theorem exec_li (g : Guard) (d imm : Nat) : exec (.li g d imm) s = execLi g d imm s := rfl
@[simp] theorem exec_lih (g : Guard) (d imm : Nat) : exec (.lih g d imm) s = execLih g d imm s := rfl
@[simp] theorem exec_sel (g : Guard) (d a b p : Nat) : exec (.sel g d a b p) s = execSel g d a b p s := rfl
@[simp] theorem exec_cmp (g : Guard) (d a b nat cond isImm imm : Nat) : exec (.cmp g d a b nat cond isImm imm) s = execCmp g d a b nat cond isImm imm s := rfl
@[simp] theorem exec_plog (g : Guard) (pd pa pb tt : Nat) : exec (.plog g pd pa pb tt) s = execPlog g pd pa pb tt s := rfl
@[simp] theorem exec_lds (g : Guard) (d a nat size off : Nat) : exec (.lds g d a nat size off) s = execLds g d a nat size off s := rfl
@[simp] theorem exec_sts (g : Guard) (d a size off : Nat) : exec (.sts g d a size off) s = execSts g d a size off s := rfl
@[simp] theorem exec_xcpS (g : Guard) (f d r u : Nat) : exec (.xcpS g f d r u) s = execXcpS g f d r u s := rfl
@[simp] theorem exec_vadd (g : Guard) (d a b t : Nat) : exec (.vadd g d a b t) s = execVadd g d a b t s := rfl
@[simp] theorem exec_vaddLong (g : Guard) (d a b t na aa nb ab clp sc rm rmo : Nat) : exec (.vaddLong g d a b t na aa nb ab clp sc rm rmo) s = execVaddLong g d a b t na aa nb ab clp sc rm rmo s := rfl
@[simp] theorem exec_vsub (g : Guard) (d a b t : Nat) : exec (.vsub g d a b t) s = execVsub g d a b t s := rfl
@[simp] theorem exec_vsubLong (g : Guard) (d a b t na aa nb ab clp sc rm rmo : Nat) : exec (.vsubLong g d a b t na aa nb ab clp sc rm rmo) s = execVsubLong g d a b t na aa nb ab clp sc rm rmo s := rfl
@[simp] theorem exec_vmul (g : Guard) (d a b t : Nat) : exec (.vmul g d a b t) s = execVmul g d a b t s := rfl
@[simp] theorem exec_vmulLong (g : Guard) (d a b t na aa nb ab clp sc rm rmo : Nat) : exec (.vmulLong g d a b t na aa nb ab clp sc rm rmo) s = execVmulLong g d a b t na aa nb ab clp sc rm rmo s := rfl
@[simp] theorem exec_vfma (g : Guard) (d a b t c na aa nb ab nc ac clp sc rm rmo : Nat) : exec (.vfma g d a b t c na aa nb ab nc ac clp sc rm rmo) s = execVfma g d a b t c na aa nb ab nc ac clp sc rm rmo s := rfl
@[simp] theorem exec_vmin (g : Guard) (d a b t : Nat) : exec (.vmin g d a b t) s = execVmin g d a b t s := rfl
@[simp] theorem exec_vminLong (g : Guard) (d a b t na aa nb ab clp sc rm rmo : Nat) : exec (.vminLong g d a b t na aa nb ab clp sc rm rmo) s = execVminLong g d a b t na aa nb ab clp sc rm rmo s := rfl
@[simp] theorem exec_vmax (g : Guard) (d a b t : Nat) : exec (.vmax g d a b t) s = execVmax g d a b t s := rfl
@[simp] theorem exec_vmaxLong (g : Guard) (d a b t na aa nb ab clp sc rm rmo : Nat) : exec (.vmaxLong g d a b t na aa nb ab clp sc rm rmo) s = execVmaxLong g d a b t na aa nb ab clp sc rm rmo s := rfl
@[simp] theorem exec_vand (g : Guard) (d a b t : Nat) : exec (.vand g d a b t) s = execVand g d a b t s := rfl
@[simp] theorem exec_vor (g : Guard) (d a b t : Nat) : exec (.vor g d a b t) s = execVor g d a b t s := rfl
@[simp] theorem exec_vxor (g : Guard) (d a b t : Nat) : exec (.vxor g d a b t) s = execVxor g d a b t s := rfl
@[simp] theorem exec_vshl (g : Guard) (d a b t : Nat) : exec (.vshl g d a b t) s = execVshl g d a b t s := rfl
@[simp] theorem exec_vshr (g : Guard) (d a b t : Nat) : exec (.vshr g d a b t) s = execVshr g d a b t s := rfl
@[simp] theorem exec_vsar (g : Guard) (d a b t : Nat) : exec (.vsar g d a b t) s = execVsar g d a b t s := rfl
@[simp] theorem exec_vcmp (g : Guard) (d a b t na aa nb ab cond : Nat) : exec (.vcmp g d a b t na aa nb ab cond) s = execVcmp g d a b t na aa nb ab cond s := rfl
@[simp] theorem exec_vsel (g : Guard) (d a b t c : Nat) : exec (.vsel g d a b t c) s = execVsel g d a b t c s := rfl
@[simp] theorem exec_vcvt (g : Guard) (d a t na aa clp sc rm rmo dc : Nat) : exec (.vcvt g d a t na aa clp sc rm rmo dc) s = execVcvt g d a t na aa clp sc rm rmo dc s := rfl
@[simp] theorem exec_vrcp (g : Guard) (d a t : Nat) : exec (.vrcp g d a t) s = execVrcp g d a t s := rfl
@[simp] theorem exec_vrcpLong (g : Guard) (d a t na aa clp sc rm rmo : Nat) : exec (.vrcpLong g d a t na aa clp sc rm rmo) s = execVrcpLong g d a t na aa clp sc rm rmo s := rfl
@[simp] theorem exec_vrsq (g : Guard) (d a t : Nat) : exec (.vrsq g d a t) s = execVrsq g d a t s := rfl
@[simp] theorem exec_vrsqLong (g : Guard) (d a t na aa clp sc rm rmo : Nat) : exec (.vrsqLong g d a t na aa clp sc rm rmo) s = execVrsqLong g d a t na aa clp sc rm rmo s := rfl
@[simp] theorem exec_vexp (g : Guard) (d a t : Nat) : exec (.vexp g d a t) s = execVexp g d a t s := rfl
@[simp] theorem exec_vexpLong (g : Guard) (d a t na aa clp sc rm rmo : Nat) : exec (.vexpLong g d a t na aa clp sc rm rmo) s = execVexpLong g d a t na aa clp sc rm rmo s := rfl
@[simp] theorem exec_vlog (g : Guard) (d a t : Nat) : exec (.vlog g d a t) s = execVlog g d a t s := rfl
@[simp] theorem exec_vlogLong (g : Guard) (d a t na aa clp sc rm rmo : Nat) : exec (.vlogLong g d a t na aa clp sc rm rmo) s = execVlogLong g d a t na aa clp sc rm rmo s := rfl
@[simp] theorem exec_vsum (g : Guard) (d a t : Nat) : exec (.vsum g d a t) s = execVsum g d a t s := rfl
@[simp] theorem exec_vsumLong (g : Guard) (d a t na aa clp sc rm rmo : Nat) : exec (.vsumLong g d a t na aa clp sc rm rmo) s = execVsumLong g d a t na aa clp sc rm rmo s := rfl
@[simp] theorem exec_vrmax (g : Guard) (d a t : Nat) : exec (.vrmax g d a t) s = execVrmax g d a t s := rfl
@[simp] theorem exec_vrmaxLong (g : Guard) (d a t na aa : Nat) : exec (.vrmaxLong g d a t na aa) s = execVrmaxLong g d a t na aa s := rfl
@[simp] theorem exec_vperm (g : Guard) (d a b t : Nat) : exec (.vperm g d a b t) s = execVperm g d a b t s := rfl
@[simp] theorem exec_vbcast (g : Guard) (d a t : Nat) : exec (.vbcast g d a t) s = execVbcast g d a t s := rfl
@[simp] theorem exec_vbcastLong (g : Guard) (d a t lane : Nat) : exec (.vbcastLong g d a t lane) s = execVbcastLong g d a t lane s := rfl
@[simp] theorem exec_viota (g : Guard) (d t : Nat) : exec (.viota g d t) s = execViota g d t s := rfl
@[simp] theorem exec_vli (g : Guard) (d t imm : Nat) : exec (.vli g d t imm) s = execVli g d t imm s := rfl
@[simp] theorem exec_vld (g : Guard) (r ar off : Nat) : exec (.vld g r ar off) s = execVld g r ar off s := rfl
@[simp] theorem exec_vldLong (g : Guard) (r ar off step : Nat) : exec (.vldLong g r ar off step) s = execVldLong g r ar off step s := rfl
@[simp] theorem exec_vst (g : Guard) (r ar off : Nat) : exec (.vst g r ar off) s = execVst g r ar off s := rfl
@[simp] theorem exec_vstLong (g : Guard) (r ar off step : Nat) : exec (.vstLong g r ar off step) s = execVstLong g r ar off step s := rfl
@[simp] theorem exec_vrng (g : Guard) (d a b t : Nat) : exec (.vrng g d a b t) s = execVrng g d a b t s := rfl
@[simp] theorem exec_vpopc (g : Guard) (d a t : Nat) : exec (.vpopc g d a t) s = execVpopc g d a t s := rfl
@[simp] theorem exec_vany (g : Guard) (pd a : Nat) : exec (.vany g pd a) s = execVany g pd a s := rfl
@[simp] theorem exec_xcpV (g : Guard) (f d r u : Nat) : exec (.xcpV g f d r u) s = execXcpV g f d r u s := rfl
@[simp] theorem exec_xcpVLane (g : Guard) (f d r u lane : Nat) : exec (.xcpVLane g f d r u lane) s = execXcpVLane g f d r u lane s := rfl
@[simp] theorem exec_mgw (g : Guard) (gw : Nat) : exec (.mgw g gw) s = execMgw g gw s := rfl
@[simp] theorem exec_mgreq (g : Guard) (ma mb n : Nat) : exec (.mgreq g ma mb n) s = execMgreq g ma mb n s := rfl
@[simp] theorem exec_mpack (g : Guard) (z im off n rev str start step : Nat) : exec (.mpack g z im off n rev str start step) s = execMpack g z im off n rev str start step s := rfl
@[simp] theorem exec_mldb (g : Guard) (lane entry im : Nat) : exec (.mldb g lane entry im) s = execMldb g lane entry im s := rfl
@[simp] theorem exec_mldbLong (g : Guard) (lane entry im off lstep estep : Nat) : exec (.mldbLong g lane entry im off lstep estep) s = execMldbLong g lane entry im off lstep estep s := rfl
@[simp] theorem exec_mmul (g : Guard) (q z e : Nat) : exec (.mmul g q z e) s = execMmul g q z e s := rfl
@[simp] theorem exec_mmac (g : Guard) (q z e : Nat) : exec (.mmac g q z e) s = execMmac g q z e s := rfl
@[simp] theorem exec_mclr (g : Guard) (q : Nat) : exec (.mclr g q) s = execMclr g q s := rfl
@[simp] theorem exec_mext (g : Guard) (q im first count wide off : Nat) : exec (.mext g q im first count wide off) s = execMext g q im first count wide off s := rfl
@[simp] theorem exec_mcvt (g : Guard) (q im first count off : Nat) : exec (.mcvt g q im first count off) s = execMcvt g q im first count off s := rfl
@[simp] theorem exec_mshr (g : Guard) (q k : Nat) : exec (.mshr g q k) s = execMshr g q k s := rfl
@[simp] theorem exec_mneg (g : Guard) (q : Nat) : exec (.mneg g q) s = execMneg g q s := rfl
@[simp] theorem exec_mldq (g : Guard) (q im : Nat) : exec (.mldq g q im) s = execMldq g q im s := rfl
@[simp] theorem exec_mldqLong (g : Guard) (q im off : Nat) : exec (.mldqLong g q im off) s = execMldqLong g q im off s := rfl
@[simp] theorem exec_mstq (g : Guard) (q im : Nat) : exec (.mstq g q im) s = execMstq g q im s := rfl
@[simp] theorem exec_mstqLong (g : Guard) (q im off : Nat) : exec (.mstqLong g q im off) s = execMstqLong g q im off s := rfl
@[simp] theorem exec_xcpM (g : Guard) (f d r u : Nat) : exec (.xcpM g f d r u) s = execXcpM g f d r u s := rfl
@[simp] theorem exec_cpy (g : Guard) (sstep dstep src dst cnt : Nat) : exec (.cpy g sstep dstep src dst cnt) s = execCpy g sstep dstep src dst cnt s := rfl
@[simp] theorem exec_cpyx (g : Guard) (core sstep dstep src dst cnt : Nat) : exec (.cpyx g core sstep dstep src dst cnt) s = execCpyx g core sstep dstep src dst cnt s := rfl
@[simp] theorem exec_dact (g : Guard) (vch bank h row : Nat) : exec (.dact g vch bank h row) s = execDact g vch bank h row s := rfl
@[simp] theorem exec_drd (g : Guard) (vch bank col line step : Nat) : exec (.drd g vch bank col line step) s = execDrd g vch bank col line step s := rfl
@[simp] theorem exec_dwr (g : Guard) (vch bank col line step : Nat) : exec (.dwr g vch bank col line step) s = execDwr g vch bank col line step s := rfl
@[simp] theorem exec_dpre (g : Guard) (vch bank all : Nat) : exec (.dpre g vch bank all) s = execDpre g vch bank all s := rfl
@[simp] theorem exec_dref (g : Guard) (vch bank : Nat) : exec (.dref g vch bank) s = execDref g vch bank s := rfl
@[simp] theorem exec_rld (g : Guard) (r line idx : Nat) : exec (.rld g r line idx) s = execRld g r line idx s := rfl
@[simp] theorem exec_rset (g : Guard) (r fld val : Nat) : exec (.rset g r fld val) s = execRset g r fld val s := rfl
@[simp] theorem exec_enq (g : Guard) (rs rd scope acq rel kind off : Nat) : exec (.enq g rs rd scope acq rel kind off) s = execEnq g rs rd scope acq rel kind off s := rfl
@[simp] theorem exec_aop (g : Guard) (r fn size scope acq rel opl resl foff : Nat) : exec (.aop g r fn size scope acq rel opl resl foff) s = execAop g r fn size scope acq rel opl resl foff s := rfl
@[simp] theorem exec_fsend (g : Guard) (r line cnt port : Nat) : exec (.fsend g r line cnt port) s = execFsend g r line cnt port s := rfl
@[simp] theorem exec_fput (g : Guard) (rs rd scope rel flag : Nat) : exec (.fput g rs rd scope rel flag) s = execFput g rs rd scope rel flag s := rfl
@[simp] theorem exec_xcpC (g : Guard) (f d r u : Nat) : exec (.xcpC g f d r u) s = execXcpC g f d r u s := rfl
@[simp] theorem exec_headerBreak (vf core : Nat) : exec (.headerBreak vf core) s = execHeaderBreak vf core s := rfl
@[simp] theorem exec_transferTakesEffect (vf core : Nat) : exec (.transferTakesEffect vf core) s = execTransferTakesEffect vf core s := rfl
@[simp] theorem exec_loopPassEnd (vf core : Nat) : exec (.loopPassEnd vf core) s = execLoopPassEnd vf core s := rfl
@[simp] theorem exec_registerResult (vf core : Nat) : exec (.registerResult vf core) s = execRegisterResult vf core s := rfl
@[simp] theorem exec_scratchpadTouch (vf core : Nat) : exec (.scratchpadTouch vf core) s = execScratchpadTouch vf core s := rfl
@[simp] theorem exec_drdLanding (vf core : Nat) : exec (.drdLanding vf core) s = execDrdLanding vf core s := rfl
@[simp] theorem exec_cpyxArrival (vf core : Nat) : exec (.cpyxArrival vf core) s = execCpyxArrival vf core s := rfl
@[simp] theorem exec_fsendLanding (vf core : Nat) : exec (.fsendLanding vf core) s = execFsendLanding vf core s := rfl
@[simp] theorem exec_linkTimingFault (vf core : Nat) : exec (.linkTimingFault vf core) s = execLinkTimingFault vf core s := rfl
@[simp] theorem exec_xltResult (vf core : Nat) : exec (.xltResult vf core) s = execXltResult vf core s := rfl
@[simp] theorem exec_mpackResult (vf core : Nat) : exec (.mpackResult vf core) s = execMpackResult vf core s := rfl
@[simp] theorem exec_mldbEntryWrite (vf core : Nat) : exec (.mldbEntryWrite vf core) s = execMldbEntryWrite vf core s := rfl
@[simp] theorem exec_multiplyResult (vf core : Nat) : exec (.multiplyResult vf core) s = execMultiplyResult vf core s := rfl
@[simp] theorem exec_accumulatorResult (vf core : Nat) : exec (.accumulatorResult vf core) s = execAccumulatorResult vf core s := rfl
@[simp] theorem exec_mextWrite (vf core : Nat) : exec (.mextWrite vf core) s = execMextWrite vf core s := rfl
@[simp] theorem exec_mldqResult (vf core : Nat) : exec (.mldqResult vf core) s = execMldqResult vf core s := rfl
@[simp] theorem exec_vcvtBlockResult (vf core : Nat) : exec (.vcvtBlockResult vf core) s = execVcvtBlockResult vf core s := rfl
@[simp] theorem exec_enqStartCheck (vf core : Nat) : exec (.enqStartCheck vf core) s = execEnqStartCheck vf core s := rfl
@[simp] theorem exec_enqReadPhase (vf core : Nat) : exec (.enqReadPhase vf core) s = execEnqReadPhase vf core s := rfl
@[simp] theorem exec_untimedScratchAccess (vf core cmd : Nat) : exec (.untimedScratchAccess vf core cmd) s = execUntimedScratchAccess vf core cmd s := rfl
@[simp] theorem exec_enginePiece (vf core cmd : Nat) : exec (.enginePiece vf core cmd) s = execEnginePiece vf core cmd s := rfl
@[simp] theorem exec_engineWalk (vf core cmd : Nat) : exec (.engineWalk vf core cmd) s = execEngineWalk vf core cmd s := rfl
@[simp] theorem exec_aopPerform (vf core cmd : Nat) : exec (.aopPerform vf core cmd) s = execAopPerform vf core cmd s := rfl
@[simp] theorem exec_flagWordWrite (vf core cmd : Nat) : exec (.flagWordWrite vf core cmd) s = execFlagWordWrite vf core cmd s := rfl
@[simp] theorem exec_streamReplay (vf core dev scope seq : Nat) : exec (.streamReplay vf core dev scope seq) s = execStreamReplay vf core dev scope seq s := rfl
@[simp] theorem exec_portDown (port : Nat) : exec (.portDown port) s = execPortDown port s := rfl
@[simp] theorem exec_destinationUnreachable (vf core cmd : Nat) : exec (.destinationUnreachable vf core cmd) s = execDestinationUnreachable vf core cmd s := rfl
@[simp] theorem exec_refreshDone (vf vch bank : Nat) : exec (.refreshDone vf vch bank) s = execRefreshDone vf vch bank s := rfl
@[simp] theorem exec_refreshDeadline (vf : Nat) : exec (.refreshDeadline vf) s = execRefreshDeadline vf s := rfl
@[simp] theorem exec_refreshKeeper (vf : Nat) : exec (.refreshKeeper vf) s = execRefreshKeeper vf s := rfl
@[simp] theorem exec_serviceWindow (vf vch : Nat) : exec (.serviceWindow vf vch) s = execServiceWindow vf vch s := rfl
@[simp] theorem exec_wakeStart (vf core dom : Nat) : exec (.wakeStart vf core dom) s = execWakeStart vf core dom s := rfl
@[simp] theorem exec_domainReady (vf core dom : Nat) : exec (.domainReady vf core dom) s = execDomainReady vf core dom s := rfl
@[simp] theorem exec_noticeLapse (vf core : Nat) : exec (.noticeLapse vf core) s = execNoticeLapse vf core s := rfl
@[simp] theorem exec_barrierArrival (vf bar member : Nat) : exec (.barrierArrival vf bar member) s = execBarrierArrival vf bar member s := rfl
@[simp] theorem exec_barrierTimeout (vf bar : Nat) : exec (.barrierTimeout vf bar) s = execBarrierTimeout vf bar s := rfl
@[simp] theorem exec_absenceToken (vf bar member : Nat) : exec (.absenceToken vf bar member) s = execAbsenceToken vf bar member s := rfl
@[simp] theorem exec_watchdog (vf : Nat) : exec (.watchdog vf) s = execWatchdog vf s := rfl
@[simp] theorem exec_holdRequest (vf n : Nat) : exec (.holdRequest vf n) s = execHoldRequest vf n s := rfl
@[simp] theorem exec_holdStart (vf : Nat) : exec (.holdStart vf) s = execHoldStart vf s := rfl
@[simp] theorem exec_holdEnd (vf : Nat) : exec (.holdEnd vf) s = execHoldEnd vf s := rfl
@[simp] theorem exec_stopNotice (vf dev pt : Nat) : exec (.stopNotice vf dev pt) s = execStopNotice vf dev pt s := rfl
@[simp] theorem exec_alignmentFlitSend (vf : Nat) : exec (.alignmentFlitSend vf) s = execAlignmentFlitSend vf s := rfl
@[simp] theorem exec_alignmentFlitArrival (vf : Nat) : exec (.alignmentFlitArrival vf) s = execAlignmentFlitArrival vf s := rfl
@[simp] theorem exec_droopStretch (cycles lost : Nat) : exec (.droopStretch cycles lost) s = execDroopStretch cycles lost s := rfl
@[simp] theorem exec_stretchNotice (vf lost : Nat) : exec (.stretchNotice vf lost) s = execStretchNotice vf lost s := rfl
@[simp] theorem exec_alignmentPause (vf : Nat) : exec (.alignmentPause vf) s = execAlignmentPause vf s := rfl
@[simp] theorem exec_railError : exec (.railError) s = execRailError s := rfl
@[simp] theorem exec_faultHandler (vf : Nat) : exec (.faultHandler vf) s = execFaultHandler vf s := rfl
@[simp] theorem exec_belfryPanic : exec (.belfryPanic) s = execBelfryPanic s := rfl
@[simp] theorem exec_pageMove (vf page unmap prow : Nat) : exec (.pageMove vf page unmap prow) s = execPageMove vf page unmap prow s := rfl
@[simp] theorem exec_taskDispatch (vf : Nat) : exec (.taskDispatch vf) s = execTaskDispatch vf s := rfl
@[simp] theorem exec_taskStart (vf : Nat) : exec (.taskStart vf) s = execTaskStart vf s := rfl
@[simp] theorem exec_taskCompletion (vf : Nat) : exec (.taskCompletion vf) s = execTaskCompletion vf s := rfl
@[simp] theorem exec_launchNodeRead (vf core : Nat) : exec (.launchNodeRead vf core) s = execLaunchNodeRead vf core s := rfl
@[simp] theorem exec_preemptionRequest (vf stopPt : Nat) : exec (.preemptionRequest vf stopPt) s = execPreemptionRequest vf stopPt s := rfl
@[simp] theorem exec_clampEffect (vf : Nat) : exec (.clampEffect vf) s = execClampEffect vf s := rfl
@[simp] theorem exec_parkFreeze (vf : Nat) : exec (.parkFreeze vf) s = execParkFreeze vf s := rfl
@[simp] theorem exec_parkDeadline (vf : Nat) : exec (.parkDeadline vf) s = execParkDeadline vf s := rfl
@[simp] theorem exec_forcedStop (vf : Nat) : exec (.forcedStop vf) s = execForcedStop vf s := rfl
@[simp] theorem exec_drainTimeout (vf : Nat) : exec (.drainTimeout vf) s = execDrainTimeout vf s := rfl
@[simp] theorem exec_contextSave (vf : Nat) : exec (.contextSave vf) s = execContextSave vf s := rfl
@[simp] theorem exec_resume (vf : Nat) : exec (.resume vf) s = execResume vf s := rfl
@[simp] theorem exec_channelReassignment (ch vf : Nat) : exec (.channelReassignment ch vf) s = execChannelReassignment ch vf s := rfl
@[simp] theorem exec_endSlice (vf : Nat) : exec (.endSlice vf) s = execEndSlice vf s := rfl
@[simp] theorem exec_reshape (vf m : Nat) : exec (.reshape vf m) s = execReshape vf m s := rfl
@[simp] theorem exec_pageOut (vf : Nat) : exec (.pageOut vf) s = execPageOut vf s := rfl
@[simp] theorem exec_coldRestore (vf : Nat) : exec (.coldRestore vf) s = execColdRestore vf s := rfl
@[simp] theorem exec_qsubWrite (vf addr : Nat) : exec (.qsubWrite vf addr) s = execQsubWrite vf addr s := rfl
@[simp] theorem exec_featureCommit (vf : Nat) : exec (.featureCommit vf) s = execFeatureCommit vf s := rfl
@[simp] theorem exec_emloRead (vf : Nat) : exec (.emloRead vf) s = execEmloRead vf s := rfl
@[simp] theorem exec_emhiRead (vf : Nat) : exec (.emhiRead vf) s = execEmhiRead vf s := rfl
@[simp] theorem exec_energyMeterClear (vf : Nat) : exec (.energyMeterClear vf) s = execEnergyMeterClear vf s := rfl
@[simp] theorem exec_pcapWrite (val : Nat) : exec (.pcapWrite val) s = execPcapWrite val s := rfl
@[simp] theorem exec_mmioWrite (fn off val : Nat) : exec (.mmioWrite fn off val) s = execMmioWrite fn off val s := rfl
@[simp] theorem exec_registerImage (pf : Nat) : exec (.registerImage pf) s = execRegisterImage pf s := rfl
@[simp] theorem exec_unregisterImage (pf : Nat) : exec (.unregisterImage pf) s = execUnregisterImage pf s := rfl
@[simp] theorem exec_createTenant (pf : Nat) : exec (.createTenant pf) s = execCreateTenant pf s := rfl
@[simp] theorem exec_deleteTenant (pf : Nat) : exec (.deleteTenant pf) s = execDeleteTenant pf s := rfl
@[simp] theorem exec_createLogicalPartition (pf : Nat) : exec (.createLogicalPartition pf) s = execCreateLogicalPartition pf s := rfl
@[simp] theorem exec_deleteLogicalPartition (pf : Nat) : exec (.deleteLogicalPartition pf) s = execDeleteLogicalPartition pf s := rfl
@[simp] theorem exec_lifeCycleNonce (pf : Nat) : exec (.lifeCycleNonce pf) s = execLifeCycleNonce pf s := rfl
@[simp] theorem exec_lifeCycleChange (pf : Nat) : exec (.lifeCycleChange pf) s = execLifeCycleChange pf s := rfl
@[simp] theorem exec_attestationReport (pf : Nat) : exec (.attestationReport pf) s = execAttestationReport pf s := rfl
@[simp] theorem exec_attestationKey (pf : Nat) : exec (.attestationKey pf) s = execAttestationKey pf s := rfl
@[simp] theorem exec_debugEnable (pf : Nat) : exec (.debugEnable pf) s = execDebugEnable pf s := rfl
@[simp] theorem exec_setBreakMask (pf : Nat) : exec (.setBreakMask pf) s = execSetBreakMask pf s := rfl
@[simp] theorem exec_debugRelease (pf : Nat) : exec (.debugRelease pf) s = execDebugRelease pf s := rfl
@[simp] theorem exec_packageReset : exec (.packageReset) s = execPackageReset s := rfl
@[simp] theorem exec_portTraining (port dom cls : Nat) : exec (.portTraining port dom cls) s = execPortTraining port dom cls s := rfl
@[simp] theorem exec_syncFlit (dom val : Nat) : exec (.syncFlit dom val) s = execSyncFlit dom val s := rfl
@[simp] theorem exec_thermalSample (temp power : Nat) : exec (.thermalSample temp power) s = execThermalSample temp power s := rfl
@[simp] theorem exec_maintenanceCycle (vf : Nat) : exec (.maintenanceCycle vf) s = execMaintenanceCycle vf s := rfl
@[simp] theorem exec_energyMeterCharge (vf amount : Nat) : exec (.energyMeterCharge vf amount) s = execEnergyMeterCharge vf amount s := rfl
@[simp] theorem exec_powerLoss : exec (.powerLoss) s = execPowerLoss s := rfl
@[simp] theorem exec_absenceTokenWithdrawn (vf bar member : Nat) : exec (.absenceTokenWithdrawn vf bar member) s = execAbsenceTokenWithdrawn vf bar member s := rfl
@[simp] theorem exec_untimedFlitReceived (dev srcCore scope seq : Nat) : exec (.untimedFlitReceived dev srcCore scope seq) s = execUntimedFlitReceived dev srcCore scope seq s := rfl
@[simp] theorem exec_alignmentPauseEnd (vf : Nat) : exec (.alignmentPauseEnd vf) s = execAlignmentPauseEnd vf s := rfl
@[simp] theorem exec_mailboxUnknownCode (pf : Nat) : exec (.mailboxUnknownCode pf) s = execMailboxUnknownCode pf s := rfl

end Sys2Proof.Machine
end

