-- ==== Sys2Proof/Laws/Tables.lean ====
section
/-! SUPPORT. Reading a table after a change of it. -/

namespace Sys2Proof.Machine

variable {α : Type}

@[simp] theorem tget_nil (d : α) (i : Nat) : tget d [] i = d := rfl

@[simp] theorem tfind_nil (i : Nat) : tfind ([] : Table α) i = none := rfl

@[simp] theorem tget_tput_same (d a : α) (t : Table α) (i : Nat) : tget d (tput t i a) i = a := by
  induction t with
  | nil => simp [tput, tget]
  | cons e r ih =>
    obtain ⟨k, b⟩ := e
    simp only [tput]
    split
    · simp [tget]
    · split
      · simp [tget]
      · rename_i h _; simp [tget, Ne.symm h, ih]

theorem tget_tput_ne (d a : α) (t : Table α) {i j : Nat} (h : j ≠ i) : tget d (tput t i a) j = tget d t j := by
  induction t with
  | nil => simp [tput, tget, Ne.symm h]
  | cons e r ih =>
    obtain ⟨k, b⟩ := e
    simp only [tput]
    split
    · rename_i hk; subst hk; simp [tget, Ne.symm h]
    · split
      · simp [tget, Ne.symm h]
      · simp only [tget]; split
        · rfl
        · exact ih

theorem tget_tput (d a : α) (t : Table α) (i j : Nat) : tget d (tput t i a) j = if j = i then a else tget d t j := by
  split
  · rename_i h; subst h; simp
  · rename_i h; exact tget_tput_ne d a t h

@[simp] theorem tfind_tput_same (a : α) (t : Table α) (i : Nat) : tfind (tput t i a) i = some a := by
  induction t with
  | nil => simp [tput, tfind]
  | cons e r ih =>
    obtain ⟨k, b⟩ := e
    simp only [tput]
    split
    · simp [tfind]
    · split
      · simp [tfind]
      · rename_i h _; simp [tfind, Ne.symm h, ih]

theorem tfind_tput_ne (a : α) (t : Table α) {i j : Nat} (h : j ≠ i) : tfind (tput t i a) j = tfind t j := by
  induction t with
  | nil => simp [tput, tfind, Ne.symm h]
  | cons e r ih =>
    obtain ⟨k, b⟩ := e
    simp only [tput]
    split
    · rename_i hk; subst hk; simp [tfind, Ne.symm h]
    · split
      · simp [tfind, Ne.symm h]
      · simp only [tfind]; split
        · rfl
        · exact ih

theorem tget_eq_tfind (d : α) (t : Table α) (i : Nat) : tget d t i = (tfind t i).getD d := by
  induction t with
  | nil => rfl
  | cons e r ih => obtain ⟨k, b⟩ := e; simp only [tget, tfind]; split <;> simp [ih]

@[simp] theorem tput_tput (a b : α) (t : Table α) (i : Nat) : tput (tput t i a) i b = tput t i b := by
  induction t with
  | nil => simp [tput]
  | cons e r ih =>
    obtain ⟨k, c⟩ := e
    by_cases h : i = k
    · subst h; simp [tput]
    · by_cases h2 : i < k
      · simp [tput, h, h2]
      · simp [tput, h, h2, ih]

theorem tfind_tdel (t : Table α) (i j : Nat) : tfind (tdel t i) j = if j = i then none else tfind t j := by
  induction t with
  | nil => simp [tdel, tfind]
  | cons e r ih =>
    obtain ⟨k, b⟩ := e
    simp only [tdel] at ih ⊢
    by_cases h : k = i
    · subst h; simp only [List.filter_cons, ne_eq, not_true_eq_false, decide_false, Bool.false_eq_true, if_false, ih, tfind]
      split <;> rename_i h2
      · rfl
      · simp [Ne.symm h2]
    · simp only [List.filter_cons, ne_eq, h, not_false_eq_true, decide_true, if_true, tfind, ih]
      split
      · rename_i h3; subst h3; simp [h]
      · rfl

theorem tget_tdel (d : α) (t : Table α) (i j : Nat) : tget d (tdel t i) j = if j = i then d else tget d t j := by
  rw [tget_eq_tfind, tfind_tdel]; split
  · rfl
  · rw [tget_eq_tfind]

@[simp] theorem tget_tmod_same (d : α) (t : Table α) (i : Nat) (f : α → α) : tget d (tmod d t i f) i = f (tget d t i) := by simp [tmod]

theorem tget_tmod_ne (d : α) (t : Table α) {i j : Nat} (f : α → α) (h : j ≠ i) : tget d (tmod d t i f) j = tget d t j :=
  tget_tput_ne d _ t h

/-- What a key's entry satisfies when every entry of a table does, and the default. -/
theorem tget_all (d : α) (t : Table α) (P : α → Prop) (hd : P d) (h : ∀ e ∈ t, P e.2) (i : Nat) : P (tget d t i) := by
  induction t with
  | nil => exact hd
  | cons e r ih =>
    obtain ⟨k, b⟩ := e
    simp only [tget]; split
    · exact h (k, b) (by simp)
    · exact ih fun e he => h e (by simp [he])

/-- The entries of a table with a key set. -/
theorem mem_tput {t : Table α} {i : Nat} {a : α} {e : Nat × α} (h : e ∈ tput t i a) : e = (i, a) ∨ e ∈ t := by
  induction t with
  | nil => simp [tput] at h; exact .inl h
  | cons x r ih =>
    obtain ⟨k, b⟩ := x
    simp only [tput] at h
    split at h
    · simp at h; rcases h with h | h
      · exact .inl h
      · exact .inr (by simp [h])
    · split at h
      · simp at h; rcases h with h | h | h
        · exact .inl h
        · exact .inr (by simp [h])
        · exact .inr (by simp [h])
      · simp at h; rcases h with h | h
        · exact .inr (by simp [h])
        · rcases ih h with h | h
          · exact .inl h
          · exact .inr (by simp [h])

theorem all_tput {t : Table α} {i : Nat} {a : α} (P : Nat × α → Bool) (h : t.all P = true) (ha : P (i, a) = true) :
    (tput t i a).all P = true := by
  rw [List.all_eq_true] at h ⊢
  intro e he
  rcases mem_tput he with he | he
  · subst he; exact ha
  · exact h e he

end Sys2Proof.Machine
end

