-- ==== Sys2Proof/Laws/State.lean ====
section
/-! SUPPORT. What each update of a state, a partition or a core leaves of each field, and what it puts into the one it changes. -/

namespace Sys2Proof.Machine

/-! ### State.setPart -/

@[simp] theorem State.setPart_powered (s : State) (vf : Nat) (p : Part) : (s.setPart vf p).powered = s.powered := rfl
@[simp] theorem State.setPart_booting (s : State) (vf : Nat) (p : Part) : (s.setPart vf p).booting = s.booting := rfl
@[simp] theorem State.setPart_fatal (s : State) (vf : Nat) (p : Part) : (s.setPart vf p).fatal = s.fatal := rfl
@[simp] theorem State.setPart_tabor (s : State) (vf : Nat) (p : Part) : (s.setPart vf p).tabor = s.tabor := rfl
@[simp] theorem State.setPart_skew (s : State) (vf : Nat) (p : Part) : (s.setPart vf p).skew = s.skew := rfl
@[simp] theorem State.setPart_adopted (s : State) (vf : Nat) (p : Part) : (s.setPart vf p).adopted = s.adopted := rfl
@[simp] theorem State.setPart_cursor (s : State) (vf : Nat) (p : Part) : (s.setPart vf p).cursor = s.cursor := rfl
@[simp] theorem State.setPart_oracle (s : State) (vf : Nat) (p : Part) : (s.setPart vf p).oracle = s.oracle := rfl
@[simp] theorem State.setPart_inbox (s : State) (vf : Nat) (p : Part) : (s.setPart vf p).inbox = s.inbox := rfl
@[simp] theorem State.setPart_outbox (s : State) (vf : Nat) (p : Part) : (s.setPart vf p).outbox = s.outbox := rfl
@[simp] theorem State.setPart_images (s : State) (vf : Nat) (p : Part) : (s.setPart vf p).images = s.images := rfl
@[simp] theorem State.setPart_imageTenant (s : State) (vf : Nat) (p : Part) : (s.setPart vf p).imageTenant = s.imageTenant := rfl
@[simp] theorem State.setPart_tenants (s : State) (vf : Nat) (p : Part) : (s.setPart vf p).tenants = s.tenants := rfl
@[simp] theorem State.setPart_dram (s : State) (vf : Nat) (p : Part) : (s.setPart vf p).dram = s.dram := rfl
@[simp] theorem State.setPart_dramBad (s : State) (vf : Nat) (p : Part) : (s.setPart vf p).dramBad = s.dramBad := rfl
@[simp] theorem State.setPart_t1 (s : State) (vf : Nat) (p : Part) : (s.setPart vf p).t1 = s.t1 := rfl
@[simp] theorem State.setPart_host (s : State) (vf : Nat) (p : Part) : (s.setPart vf p).host = s.host := rfl
@[simp] theorem State.setPart_remote (s : State) (vf : Nat) (p : Part) : (s.setPart vf p).remote = s.remote := rfl
@[simp] theorem State.setPart_chanTenant (s : State) (vf : Nat) (p : Part) : (s.setPart vf p).chanTenant = s.chanTenant := rfl
@[simp] theorem State.setPart_towerTlb (s : State) (vf : Nat) (p : Part) : (s.setPart vf p).towerTlb = s.towerTlb := rfl
@[simp] theorem State.setPart_streams (s : State) (vf : Nat) (p : Part) : (s.setPart vf p).streams = s.streams := rfl
@[simp] theorem State.setPart_flits (s : State) (vf : Nat) (p : Part) : (s.setPart vf p).flits = s.flits := rfl
@[simp] theorem State.setPart_ports (s : State) (vf : Nat) (p : Part) : (s.setPart vf p).ports = s.ports := rfl
@[simp] theorem State.setPart_bstat (s : State) (vf : Nat) (p : Part) : (s.setPart vf p).bstat = s.bstat := rfl
@[simp] theorem State.setPart_lcs (s : State) (vf : Nat) (p : Part) : (s.setPart vf p).lcs = s.lcs := rfl
@[simp] theorem State.setPart_lcsErr (s : State) (vf : Nat) (p : Part) : (s.setPart vf p).lcsErr = s.lcsErr := rfl
@[simp] theorem State.setPart_pcap (s : State) (vf : Nat) (p : Part) : (s.setPart vf p).pcap = s.pcap := rfl
@[simp] theorem State.setPart_mail (s : State) (vf : Nat) (p : Part) : (s.setPart vf p).mail = s.mail := rfl
@[simp] theorem State.setPart_mailQueue (s : State) (vf : Nat) (p : Part) : (s.setPart vf p).mailQueue = s.mailQueue := rfl
@[simp] theorem State.setPart_nonce (s : State) (vf : Nat) (p : Part) : (s.setPart vf p).nonce = s.nonce := rfl
@[simp] theorem State.setPart_meas (s : State) (vf : Nat) (p : Part) : (s.setPart vf p).meas = s.meas := rfl
@[simp] theorem State.setPart_seeds (s : State) (vf : Nat) (p : Part) : (s.setPart vf p).seeds = s.seeds := rfl
@[simp] theorem State.setPart_minVersion (s : State) (vf : Nat) (p : Part) : (s.setPart vf p).minVersion = s.minVersion := rfl
@[simp] theorem State.setPart_deviceId (s : State) (vf : Nat) (p : Part) : (s.setPart vf p).deviceId = s.deviceId := rfl
@[simp] theorem State.setPart_fwKey (s : State) (vf : Nat) (p : Part) : (s.setPart vf p).fwKey = s.fwKey := rfl
@[simp] theorem State.setPart_lcKey (s : State) (vf : Nat) (p : Part) : (s.setPart vf p).lcKey = s.lcKey := rfl
@[simp] theorem State.setPart_sram (s : State) (vf : Nat) (p : Part) : (s.setPart vf p).sram = s.sram := rfl
@[simp] theorem State.setPart_belfry (s : State) (vf : Nat) (p : Part) : (s.setPart vf p).belfry = s.belfry := rfl
@[simp] theorem State.setPart_unreached (s : State) (vf : Nat) (p : Part) : (s.setPart vf p).unreached = s.unreached := rfl
@[simp] theorem State.setPart_temp (s : State) (vf : Nat) (p : Part) : (s.setPart vf p).temp = s.temp := rfl
@[simp] theorem State.setPart_power (s : State) (vf : Nat) (p : Part) : (s.setPart vf p).power = s.power := rfl
@[simp] theorem State.setPart_sampleAt (s : State) (vf : Nat) (p : Part) : (s.setPart vf p).sampleAt = s.sampleAt := rfl
@[simp] theorem State.setPart_holdLevel (s : State) (vf : Nat) (p : Part) : (s.setPart vf p).holdLevel = s.holdLevel := rfl
@[simp] theorem State.setPart_hotBelow (s : State) (vf : Nat) (p : Part) : (s.setPart vf p).hotBelow = s.hotBelow := rfl
@[simp] theorem State.setPart_calm (s : State) (vf : Nat) (p : Part) : (s.setPart vf p).calm = s.calm := rfl
@[simp] theorem State.setPart_stretchUntil (s : State) (vf : Nat) (p : Part) : (s.setPart vf p).stretchUntil = s.stretchUntil := rfl
@[simp] theorem State.setPart_lastDroop (s : State) (vf : Nat) (p : Part) : (s.setPart vf p).lastDroop = s.lastDroop := rfl

/-! ### State.onPart -/

@[simp] theorem State.onPart_powered (s : State) (vf : Nat) (f : Part → Part) : (s.onPart vf f).powered = s.powered := rfl
@[simp] theorem State.onPart_booting (s : State) (vf : Nat) (f : Part → Part) : (s.onPart vf f).booting = s.booting := rfl
@[simp] theorem State.onPart_fatal (s : State) (vf : Nat) (f : Part → Part) : (s.onPart vf f).fatal = s.fatal := rfl
@[simp] theorem State.onPart_tabor (s : State) (vf : Nat) (f : Part → Part) : (s.onPart vf f).tabor = s.tabor := rfl
@[simp] theorem State.onPart_skew (s : State) (vf : Nat) (f : Part → Part) : (s.onPart vf f).skew = s.skew := rfl
@[simp] theorem State.onPart_adopted (s : State) (vf : Nat) (f : Part → Part) : (s.onPart vf f).adopted = s.adopted := rfl
@[simp] theorem State.onPart_cursor (s : State) (vf : Nat) (f : Part → Part) : (s.onPart vf f).cursor = s.cursor := rfl
@[simp] theorem State.onPart_oracle (s : State) (vf : Nat) (f : Part → Part) : (s.onPart vf f).oracle = s.oracle := rfl
@[simp] theorem State.onPart_inbox (s : State) (vf : Nat) (f : Part → Part) : (s.onPart vf f).inbox = s.inbox := rfl
@[simp] theorem State.onPart_outbox (s : State) (vf : Nat) (f : Part → Part) : (s.onPart vf f).outbox = s.outbox := rfl
@[simp] theorem State.onPart_images (s : State) (vf : Nat) (f : Part → Part) : (s.onPart vf f).images = s.images := rfl
@[simp] theorem State.onPart_imageTenant (s : State) (vf : Nat) (f : Part → Part) : (s.onPart vf f).imageTenant = s.imageTenant := rfl
@[simp] theorem State.onPart_tenants (s : State) (vf : Nat) (f : Part → Part) : (s.onPart vf f).tenants = s.tenants := rfl
@[simp] theorem State.onPart_dram (s : State) (vf : Nat) (f : Part → Part) : (s.onPart vf f).dram = s.dram := rfl
@[simp] theorem State.onPart_dramBad (s : State) (vf : Nat) (f : Part → Part) : (s.onPart vf f).dramBad = s.dramBad := rfl
@[simp] theorem State.onPart_t1 (s : State) (vf : Nat) (f : Part → Part) : (s.onPart vf f).t1 = s.t1 := rfl
@[simp] theorem State.onPart_host (s : State) (vf : Nat) (f : Part → Part) : (s.onPart vf f).host = s.host := rfl
@[simp] theorem State.onPart_remote (s : State) (vf : Nat) (f : Part → Part) : (s.onPart vf f).remote = s.remote := rfl
@[simp] theorem State.onPart_chanTenant (s : State) (vf : Nat) (f : Part → Part) : (s.onPart vf f).chanTenant = s.chanTenant := rfl
@[simp] theorem State.onPart_towerTlb (s : State) (vf : Nat) (f : Part → Part) : (s.onPart vf f).towerTlb = s.towerTlb := rfl
@[simp] theorem State.onPart_streams (s : State) (vf : Nat) (f : Part → Part) : (s.onPart vf f).streams = s.streams := rfl
@[simp] theorem State.onPart_flits (s : State) (vf : Nat) (f : Part → Part) : (s.onPart vf f).flits = s.flits := rfl
@[simp] theorem State.onPart_ports (s : State) (vf : Nat) (f : Part → Part) : (s.onPart vf f).ports = s.ports := rfl
@[simp] theorem State.onPart_bstat (s : State) (vf : Nat) (f : Part → Part) : (s.onPart vf f).bstat = s.bstat := rfl
@[simp] theorem State.onPart_lcs (s : State) (vf : Nat) (f : Part → Part) : (s.onPart vf f).lcs = s.lcs := rfl
@[simp] theorem State.onPart_lcsErr (s : State) (vf : Nat) (f : Part → Part) : (s.onPart vf f).lcsErr = s.lcsErr := rfl
@[simp] theorem State.onPart_pcap (s : State) (vf : Nat) (f : Part → Part) : (s.onPart vf f).pcap = s.pcap := rfl
@[simp] theorem State.onPart_mail (s : State) (vf : Nat) (f : Part → Part) : (s.onPart vf f).mail = s.mail := rfl
@[simp] theorem State.onPart_mailQueue (s : State) (vf : Nat) (f : Part → Part) : (s.onPart vf f).mailQueue = s.mailQueue := rfl
@[simp] theorem State.onPart_nonce (s : State) (vf : Nat) (f : Part → Part) : (s.onPart vf f).nonce = s.nonce := rfl
@[simp] theorem State.onPart_meas (s : State) (vf : Nat) (f : Part → Part) : (s.onPart vf f).meas = s.meas := rfl
@[simp] theorem State.onPart_seeds (s : State) (vf : Nat) (f : Part → Part) : (s.onPart vf f).seeds = s.seeds := rfl
@[simp] theorem State.onPart_minVersion (s : State) (vf : Nat) (f : Part → Part) : (s.onPart vf f).minVersion = s.minVersion := rfl
@[simp] theorem State.onPart_deviceId (s : State) (vf : Nat) (f : Part → Part) : (s.onPart vf f).deviceId = s.deviceId := rfl
@[simp] theorem State.onPart_fwKey (s : State) (vf : Nat) (f : Part → Part) : (s.onPart vf f).fwKey = s.fwKey := rfl
@[simp] theorem State.onPart_lcKey (s : State) (vf : Nat) (f : Part → Part) : (s.onPart vf f).lcKey = s.lcKey := rfl
@[simp] theorem State.onPart_sram (s : State) (vf : Nat) (f : Part → Part) : (s.onPart vf f).sram = s.sram := rfl
@[simp] theorem State.onPart_belfry (s : State) (vf : Nat) (f : Part → Part) : (s.onPart vf f).belfry = s.belfry := rfl
@[simp] theorem State.onPart_unreached (s : State) (vf : Nat) (f : Part → Part) : (s.onPart vf f).unreached = s.unreached := rfl
@[simp] theorem State.onPart_temp (s : State) (vf : Nat) (f : Part → Part) : (s.onPart vf f).temp = s.temp := rfl
@[simp] theorem State.onPart_power (s : State) (vf : Nat) (f : Part → Part) : (s.onPart vf f).power = s.power := rfl
@[simp] theorem State.onPart_sampleAt (s : State) (vf : Nat) (f : Part → Part) : (s.onPart vf f).sampleAt = s.sampleAt := rfl
@[simp] theorem State.onPart_holdLevel (s : State) (vf : Nat) (f : Part → Part) : (s.onPart vf f).holdLevel = s.holdLevel := rfl
@[simp] theorem State.onPart_hotBelow (s : State) (vf : Nat) (f : Part → Part) : (s.onPart vf f).hotBelow = s.hotBelow := rfl
@[simp] theorem State.onPart_calm (s : State) (vf : Nat) (f : Part → Part) : (s.onPart vf f).calm = s.calm := rfl
@[simp] theorem State.onPart_stretchUntil (s : State) (vf : Nat) (f : Part → Part) : (s.onPart vf f).stretchUntil = s.stretchUntil := rfl
@[simp] theorem State.onPart_lastDroop (s : State) (vf : Nat) (f : Part → Part) : (s.onPart vf f).lastDroop = s.lastDroop := rfl

/-! ### State.onCore -/

@[simp] theorem State.onCore_powered (s : State) (vf v : Nat) (f : Core → Core) : (s.onCore vf v f).powered = s.powered := rfl
@[simp] theorem State.onCore_booting (s : State) (vf v : Nat) (f : Core → Core) : (s.onCore vf v f).booting = s.booting := rfl
@[simp] theorem State.onCore_fatal (s : State) (vf v : Nat) (f : Core → Core) : (s.onCore vf v f).fatal = s.fatal := rfl
@[simp] theorem State.onCore_tabor (s : State) (vf v : Nat) (f : Core → Core) : (s.onCore vf v f).tabor = s.tabor := rfl
@[simp] theorem State.onCore_skew (s : State) (vf v : Nat) (f : Core → Core) : (s.onCore vf v f).skew = s.skew := rfl
@[simp] theorem State.onCore_adopted (s : State) (vf v : Nat) (f : Core → Core) : (s.onCore vf v f).adopted = s.adopted := rfl
@[simp] theorem State.onCore_cursor (s : State) (vf v : Nat) (f : Core → Core) : (s.onCore vf v f).cursor = s.cursor := rfl
@[simp] theorem State.onCore_oracle (s : State) (vf v : Nat) (f : Core → Core) : (s.onCore vf v f).oracle = s.oracle := rfl
@[simp] theorem State.onCore_inbox (s : State) (vf v : Nat) (f : Core → Core) : (s.onCore vf v f).inbox = s.inbox := rfl
@[simp] theorem State.onCore_outbox (s : State) (vf v : Nat) (f : Core → Core) : (s.onCore vf v f).outbox = s.outbox := rfl
@[simp] theorem State.onCore_images (s : State) (vf v : Nat) (f : Core → Core) : (s.onCore vf v f).images = s.images := rfl
@[simp] theorem State.onCore_imageTenant (s : State) (vf v : Nat) (f : Core → Core) : (s.onCore vf v f).imageTenant = s.imageTenant := rfl
@[simp] theorem State.onCore_tenants (s : State) (vf v : Nat) (f : Core → Core) : (s.onCore vf v f).tenants = s.tenants := rfl
@[simp] theorem State.onCore_dram (s : State) (vf v : Nat) (f : Core → Core) : (s.onCore vf v f).dram = s.dram := rfl
@[simp] theorem State.onCore_dramBad (s : State) (vf v : Nat) (f : Core → Core) : (s.onCore vf v f).dramBad = s.dramBad := rfl
@[simp] theorem State.onCore_t1 (s : State) (vf v : Nat) (f : Core → Core) : (s.onCore vf v f).t1 = s.t1 := rfl
@[simp] theorem State.onCore_host (s : State) (vf v : Nat) (f : Core → Core) : (s.onCore vf v f).host = s.host := rfl
@[simp] theorem State.onCore_remote (s : State) (vf v : Nat) (f : Core → Core) : (s.onCore vf v f).remote = s.remote := rfl
@[simp] theorem State.onCore_chanTenant (s : State) (vf v : Nat) (f : Core → Core) : (s.onCore vf v f).chanTenant = s.chanTenant := rfl
@[simp] theorem State.onCore_towerTlb (s : State) (vf v : Nat) (f : Core → Core) : (s.onCore vf v f).towerTlb = s.towerTlb := rfl
@[simp] theorem State.onCore_streams (s : State) (vf v : Nat) (f : Core → Core) : (s.onCore vf v f).streams = s.streams := rfl
@[simp] theorem State.onCore_flits (s : State) (vf v : Nat) (f : Core → Core) : (s.onCore vf v f).flits = s.flits := rfl
@[simp] theorem State.onCore_ports (s : State) (vf v : Nat) (f : Core → Core) : (s.onCore vf v f).ports = s.ports := rfl
@[simp] theorem State.onCore_bstat (s : State) (vf v : Nat) (f : Core → Core) : (s.onCore vf v f).bstat = s.bstat := rfl
@[simp] theorem State.onCore_lcs (s : State) (vf v : Nat) (f : Core → Core) : (s.onCore vf v f).lcs = s.lcs := rfl
@[simp] theorem State.onCore_lcsErr (s : State) (vf v : Nat) (f : Core → Core) : (s.onCore vf v f).lcsErr = s.lcsErr := rfl
@[simp] theorem State.onCore_pcap (s : State) (vf v : Nat) (f : Core → Core) : (s.onCore vf v f).pcap = s.pcap := rfl
@[simp] theorem State.onCore_mail (s : State) (vf v : Nat) (f : Core → Core) : (s.onCore vf v f).mail = s.mail := rfl
@[simp] theorem State.onCore_mailQueue (s : State) (vf v : Nat) (f : Core → Core) : (s.onCore vf v f).mailQueue = s.mailQueue := rfl
@[simp] theorem State.onCore_nonce (s : State) (vf v : Nat) (f : Core → Core) : (s.onCore vf v f).nonce = s.nonce := rfl
@[simp] theorem State.onCore_meas (s : State) (vf v : Nat) (f : Core → Core) : (s.onCore vf v f).meas = s.meas := rfl
@[simp] theorem State.onCore_seeds (s : State) (vf v : Nat) (f : Core → Core) : (s.onCore vf v f).seeds = s.seeds := rfl
@[simp] theorem State.onCore_minVersion (s : State) (vf v : Nat) (f : Core → Core) : (s.onCore vf v f).minVersion = s.minVersion := rfl
@[simp] theorem State.onCore_deviceId (s : State) (vf v : Nat) (f : Core → Core) : (s.onCore vf v f).deviceId = s.deviceId := rfl
@[simp] theorem State.onCore_fwKey (s : State) (vf v : Nat) (f : Core → Core) : (s.onCore vf v f).fwKey = s.fwKey := rfl
@[simp] theorem State.onCore_lcKey (s : State) (vf v : Nat) (f : Core → Core) : (s.onCore vf v f).lcKey = s.lcKey := rfl
@[simp] theorem State.onCore_sram (s : State) (vf v : Nat) (f : Core → Core) : (s.onCore vf v f).sram = s.sram := rfl
@[simp] theorem State.onCore_belfry (s : State) (vf v : Nat) (f : Core → Core) : (s.onCore vf v f).belfry = s.belfry := rfl
@[simp] theorem State.onCore_unreached (s : State) (vf v : Nat) (f : Core → Core) : (s.onCore vf v f).unreached = s.unreached := rfl
@[simp] theorem State.onCore_temp (s : State) (vf v : Nat) (f : Core → Core) : (s.onCore vf v f).temp = s.temp := rfl
@[simp] theorem State.onCore_power (s : State) (vf v : Nat) (f : Core → Core) : (s.onCore vf v f).power = s.power := rfl
@[simp] theorem State.onCore_sampleAt (s : State) (vf v : Nat) (f : Core → Core) : (s.onCore vf v f).sampleAt = s.sampleAt := rfl
@[simp] theorem State.onCore_holdLevel (s : State) (vf v : Nat) (f : Core → Core) : (s.onCore vf v f).holdLevel = s.holdLevel := rfl
@[simp] theorem State.onCore_hotBelow (s : State) (vf v : Nat) (f : Core → Core) : (s.onCore vf v f).hotBelow = s.hotBelow := rfl
@[simp] theorem State.onCore_calm (s : State) (vf v : Nat) (f : Core → Core) : (s.onCore vf v f).calm = s.calm := rfl
@[simp] theorem State.onCore_stretchUntil (s : State) (vf v : Nat) (f : Core → Core) : (s.onCore vf v f).stretchUntil = s.stretchUntil := rfl
@[simp] theorem State.onCore_lastDroop (s : State) (vf v : Nat) (f : Core → Core) : (s.onCore vf v f).lastDroop = s.lastDroop := rfl

/-! ### State.onHere -/

@[simp] theorem State.onHere_powered (s : State) (f : Core → Core) : (s.onHere f).powered = s.powered := rfl
@[simp] theorem State.onHere_booting (s : State) (f : Core → Core) : (s.onHere f).booting = s.booting := rfl
@[simp] theorem State.onHere_fatal (s : State) (f : Core → Core) : (s.onHere f).fatal = s.fatal := rfl
@[simp] theorem State.onHere_tabor (s : State) (f : Core → Core) : (s.onHere f).tabor = s.tabor := rfl
@[simp] theorem State.onHere_skew (s : State) (f : Core → Core) : (s.onHere f).skew = s.skew := rfl
@[simp] theorem State.onHere_adopted (s : State) (f : Core → Core) : (s.onHere f).adopted = s.adopted := rfl
@[simp] theorem State.onHere_cursor (s : State) (f : Core → Core) : (s.onHere f).cursor = s.cursor := rfl
@[simp] theorem State.onHere_oracle (s : State) (f : Core → Core) : (s.onHere f).oracle = s.oracle := rfl
@[simp] theorem State.onHere_inbox (s : State) (f : Core → Core) : (s.onHere f).inbox = s.inbox := rfl
@[simp] theorem State.onHere_outbox (s : State) (f : Core → Core) : (s.onHere f).outbox = s.outbox := rfl
@[simp] theorem State.onHere_images (s : State) (f : Core → Core) : (s.onHere f).images = s.images := rfl
@[simp] theorem State.onHere_imageTenant (s : State) (f : Core → Core) : (s.onHere f).imageTenant = s.imageTenant := rfl
@[simp] theorem State.onHere_tenants (s : State) (f : Core → Core) : (s.onHere f).tenants = s.tenants := rfl
@[simp] theorem State.onHere_dram (s : State) (f : Core → Core) : (s.onHere f).dram = s.dram := rfl
@[simp] theorem State.onHere_dramBad (s : State) (f : Core → Core) : (s.onHere f).dramBad = s.dramBad := rfl
@[simp] theorem State.onHere_t1 (s : State) (f : Core → Core) : (s.onHere f).t1 = s.t1 := rfl
@[simp] theorem State.onHere_host (s : State) (f : Core → Core) : (s.onHere f).host = s.host := rfl
@[simp] theorem State.onHere_remote (s : State) (f : Core → Core) : (s.onHere f).remote = s.remote := rfl
@[simp] theorem State.onHere_chanTenant (s : State) (f : Core → Core) : (s.onHere f).chanTenant = s.chanTenant := rfl
@[simp] theorem State.onHere_towerTlb (s : State) (f : Core → Core) : (s.onHere f).towerTlb = s.towerTlb := rfl
@[simp] theorem State.onHere_streams (s : State) (f : Core → Core) : (s.onHere f).streams = s.streams := rfl
@[simp] theorem State.onHere_flits (s : State) (f : Core → Core) : (s.onHere f).flits = s.flits := rfl
@[simp] theorem State.onHere_ports (s : State) (f : Core → Core) : (s.onHere f).ports = s.ports := rfl
@[simp] theorem State.onHere_bstat (s : State) (f : Core → Core) : (s.onHere f).bstat = s.bstat := rfl
@[simp] theorem State.onHere_lcs (s : State) (f : Core → Core) : (s.onHere f).lcs = s.lcs := rfl
@[simp] theorem State.onHere_lcsErr (s : State) (f : Core → Core) : (s.onHere f).lcsErr = s.lcsErr := rfl
@[simp] theorem State.onHere_pcap (s : State) (f : Core → Core) : (s.onHere f).pcap = s.pcap := rfl
@[simp] theorem State.onHere_mail (s : State) (f : Core → Core) : (s.onHere f).mail = s.mail := rfl
@[simp] theorem State.onHere_mailQueue (s : State) (f : Core → Core) : (s.onHere f).mailQueue = s.mailQueue := rfl
@[simp] theorem State.onHere_nonce (s : State) (f : Core → Core) : (s.onHere f).nonce = s.nonce := rfl
@[simp] theorem State.onHere_meas (s : State) (f : Core → Core) : (s.onHere f).meas = s.meas := rfl
@[simp] theorem State.onHere_seeds (s : State) (f : Core → Core) : (s.onHere f).seeds = s.seeds := rfl
@[simp] theorem State.onHere_minVersion (s : State) (f : Core → Core) : (s.onHere f).minVersion = s.minVersion := rfl
@[simp] theorem State.onHere_deviceId (s : State) (f : Core → Core) : (s.onHere f).deviceId = s.deviceId := rfl
@[simp] theorem State.onHere_fwKey (s : State) (f : Core → Core) : (s.onHere f).fwKey = s.fwKey := rfl
@[simp] theorem State.onHere_lcKey (s : State) (f : Core → Core) : (s.onHere f).lcKey = s.lcKey := rfl
@[simp] theorem State.onHere_sram (s : State) (f : Core → Core) : (s.onHere f).sram = s.sram := rfl
@[simp] theorem State.onHere_belfry (s : State) (f : Core → Core) : (s.onHere f).belfry = s.belfry := rfl
@[simp] theorem State.onHere_unreached (s : State) (f : Core → Core) : (s.onHere f).unreached = s.unreached := rfl
@[simp] theorem State.onHere_temp (s : State) (f : Core → Core) : (s.onHere f).temp = s.temp := rfl
@[simp] theorem State.onHere_power (s : State) (f : Core → Core) : (s.onHere f).power = s.power := rfl
@[simp] theorem State.onHere_sampleAt (s : State) (f : Core → Core) : (s.onHere f).sampleAt = s.sampleAt := rfl
@[simp] theorem State.onHere_holdLevel (s : State) (f : Core → Core) : (s.onHere f).holdLevel = s.holdLevel := rfl
@[simp] theorem State.onHere_hotBelow (s : State) (f : Core → Core) : (s.onHere f).hotBelow = s.hotBelow := rfl
@[simp] theorem State.onHere_calm (s : State) (f : Core → Core) : (s.onHere f).calm = s.calm := rfl
@[simp] theorem State.onHere_stretchUntil (s : State) (f : Core → Core) : (s.onHere f).stretchUntil = s.stretchUntil := rfl
@[simp] theorem State.onHere_lastDroop (s : State) (f : Core → Core) : (s.onHere f).lastDroop = s.lastDroop := rfl

/-! ### State.emit -/

@[simp] theorem State.emit_powered (s : State) (o : Out) : (s.emit o).powered = s.powered := rfl
@[simp] theorem State.emit_booting (s : State) (o : Out) : (s.emit o).booting = s.booting := rfl
@[simp] theorem State.emit_fatal (s : State) (o : Out) : (s.emit o).fatal = s.fatal := rfl
@[simp] theorem State.emit_tabor (s : State) (o : Out) : (s.emit o).tabor = s.tabor := rfl
@[simp] theorem State.emit_skew (s : State) (o : Out) : (s.emit o).skew = s.skew := rfl
@[simp] theorem State.emit_adopted (s : State) (o : Out) : (s.emit o).adopted = s.adopted := rfl
@[simp] theorem State.emit_cursor (s : State) (o : Out) : (s.emit o).cursor = s.cursor := rfl
@[simp] theorem State.emit_oracle (s : State) (o : Out) : (s.emit o).oracle = s.oracle := rfl
@[simp] theorem State.emit_inbox (s : State) (o : Out) : (s.emit o).inbox = s.inbox := rfl
@[simp] theorem State.emit_parts (s : State) (o : Out) : (s.emit o).parts = s.parts := rfl
@[simp] theorem State.emit_images (s : State) (o : Out) : (s.emit o).images = s.images := rfl
@[simp] theorem State.emit_imageTenant (s : State) (o : Out) : (s.emit o).imageTenant = s.imageTenant := rfl
@[simp] theorem State.emit_tenants (s : State) (o : Out) : (s.emit o).tenants = s.tenants := rfl
@[simp] theorem State.emit_dram (s : State) (o : Out) : (s.emit o).dram = s.dram := rfl
@[simp] theorem State.emit_dramBad (s : State) (o : Out) : (s.emit o).dramBad = s.dramBad := rfl
@[simp] theorem State.emit_t1 (s : State) (o : Out) : (s.emit o).t1 = s.t1 := rfl
@[simp] theorem State.emit_host (s : State) (o : Out) : (s.emit o).host = s.host := rfl
@[simp] theorem State.emit_remote (s : State) (o : Out) : (s.emit o).remote = s.remote := rfl
@[simp] theorem State.emit_chanTenant (s : State) (o : Out) : (s.emit o).chanTenant = s.chanTenant := rfl
@[simp] theorem State.emit_towerTlb (s : State) (o : Out) : (s.emit o).towerTlb = s.towerTlb := rfl
@[simp] theorem State.emit_streams (s : State) (o : Out) : (s.emit o).streams = s.streams := rfl
@[simp] theorem State.emit_flits (s : State) (o : Out) : (s.emit o).flits = s.flits := rfl
@[simp] theorem State.emit_ports (s : State) (o : Out) : (s.emit o).ports = s.ports := rfl
@[simp] theorem State.emit_bstat (s : State) (o : Out) : (s.emit o).bstat = s.bstat := rfl
@[simp] theorem State.emit_lcs (s : State) (o : Out) : (s.emit o).lcs = s.lcs := rfl
@[simp] theorem State.emit_lcsErr (s : State) (o : Out) : (s.emit o).lcsErr = s.lcsErr := rfl
@[simp] theorem State.emit_pcap (s : State) (o : Out) : (s.emit o).pcap = s.pcap := rfl
@[simp] theorem State.emit_mail (s : State) (o : Out) : (s.emit o).mail = s.mail := rfl
@[simp] theorem State.emit_mailQueue (s : State) (o : Out) : (s.emit o).mailQueue = s.mailQueue := rfl
@[simp] theorem State.emit_nonce (s : State) (o : Out) : (s.emit o).nonce = s.nonce := rfl
@[simp] theorem State.emit_meas (s : State) (o : Out) : (s.emit o).meas = s.meas := rfl
@[simp] theorem State.emit_seeds (s : State) (o : Out) : (s.emit o).seeds = s.seeds := rfl
@[simp] theorem State.emit_minVersion (s : State) (o : Out) : (s.emit o).minVersion = s.minVersion := rfl
@[simp] theorem State.emit_deviceId (s : State) (o : Out) : (s.emit o).deviceId = s.deviceId := rfl
@[simp] theorem State.emit_fwKey (s : State) (o : Out) : (s.emit o).fwKey = s.fwKey := rfl
@[simp] theorem State.emit_lcKey (s : State) (o : Out) : (s.emit o).lcKey = s.lcKey := rfl
@[simp] theorem State.emit_sram (s : State) (o : Out) : (s.emit o).sram = s.sram := rfl
@[simp] theorem State.emit_belfry (s : State) (o : Out) : (s.emit o).belfry = s.belfry := rfl
@[simp] theorem State.emit_unreached (s : State) (o : Out) : (s.emit o).unreached = s.unreached := rfl
@[simp] theorem State.emit_temp (s : State) (o : Out) : (s.emit o).temp = s.temp := rfl
@[simp] theorem State.emit_power (s : State) (o : Out) : (s.emit o).power = s.power := rfl
@[simp] theorem State.emit_sampleAt (s : State) (o : Out) : (s.emit o).sampleAt = s.sampleAt := rfl
@[simp] theorem State.emit_holdLevel (s : State) (o : Out) : (s.emit o).holdLevel = s.holdLevel := rfl
@[simp] theorem State.emit_hotBelow (s : State) (o : Out) : (s.emit o).hotBelow = s.hotBelow := rfl
@[simp] theorem State.emit_calm (s : State) (o : Out) : (s.emit o).calm = s.calm := rfl
@[simp] theorem State.emit_stretchUntil (s : State) (o : Out) : (s.emit o).stretchUntil = s.stretchUntil := rfl
@[simp] theorem State.emit_lastDroop (s : State) (o : Out) : (s.emit o).lastDroop = s.lastDroop := rfl

/-! ### Part.setCore -/

@[simp] theorem Part.setCore_live (q : Part) (c : Nat) (k : Core) : (q.setCore c k).live = q.live := rfl
@[simp] theorem Part.setCore_tenant (q : Part) (c : Nat) (k : Core) : (q.setCore c k).tenant = q.tenant := rfl
@[simp] theorem Part.setCore_cores (q : Part) (c : Nat) (k : Core) : (q.setCore c k).cores = q.cores := rfl
@[simp] theorem Part.setCore_channels (q : Part) (c : Nat) (k : Core) : (q.setCore c k).channels = q.channels := rfl
@[simp] theorem Part.setCore_group (q : Part) (c : Nat) (k : Core) : (q.setCore c k).group = q.group := rfl
@[simp] theorem Part.setCore_cls (q : Part) (c : Nat) (k : Core) : (q.setCore c k).cls = q.cls := rfl
@[simp] theorem Part.setCore_resid (q : Part) (c : Nat) (k : Core) : (q.setCore c k).resid = q.resid := rfl
@[simp] theorem Part.setCore_pt (q : Part) (c : Nat) (k : Core) : (q.setCore c k).pt = q.pt := rfl
@[simp] theorem Part.setCore_stage (q : Part) (c : Nat) (k : Core) : (q.setCore c k).stage = q.stage := rfl
@[simp] theorem Part.setCore_stops (q : Part) (c : Nat) (k : Core) : (q.setCore c k).stops = q.stops := rfl
@[simp] theorem Part.setCore_hold (q : Part) (c : Nat) (k : Core) : (q.setCore c k).hold = q.hold := rfl
@[simp] theorem Part.setCore_holdNext (q : Part) (c : Nat) (k : Core) : (q.setCore c k).holdNext = q.holdNext := rfl
@[simp] theorem Part.setCore_holdAsked (q : Part) (c : Nat) (k : Core) : (q.setCore c k).holdAsked = q.holdAsked := rfl
@[simp] theorem Part.setCore_holdTold (q : Part) (c : Nat) (k : Core) : (q.setCore c k).holdTold = q.holdTold := rfl
@[simp] theorem Part.setCore_policy (q : Part) (c : Nat) (k : Core) : (q.setCore c k).policy = q.policy := rfl
@[simp] theorem Part.setCore_alignAt (q : Part) (c : Nat) (k : Core) : (q.setCore c k).alignAt = q.alignAt := rfl
@[simp] theorem Part.setCore_flitTo (q : Part) (c : Nat) (k : Core) : (q.setCore c k).flitTo = q.flitTo := rfl
@[simp] theorem Part.setCore_readyAt (q : Part) (c : Nat) (k : Core) : (q.setCore c k).readyAt = q.readyAt := rfl
@[simp] theorem Part.setCore_readies (q : Part) (c : Nat) (k : Core) : (q.setCore c k).readies = q.readies := rfl
@[simp] theorem Part.setCore_excused (q : Part) (c : Nat) (k : Core) : (q.setCore c k).excused = q.excused := rfl
@[simp] theorem Part.setCore_awayKi (q : Part) (c : Nat) (k : Core) : (q.setCore c k).awayKi = q.awayKi := rfl
@[simp] theorem Part.setCore_peers (q : Part) (c : Nat) (k : Core) : (q.setCore c k).peers = q.peers := rfl
@[simp] theorem Part.setCore_noticeAt (q : Part) (c : Nat) (k : Core) : (q.setCore c k).noticeAt = q.noticeAt := rfl
@[simp] theorem Part.setCore_pauses (q : Part) (c : Nat) (k : Core) : (q.setCore c k).pauses = q.pauses := rfl
@[simp] theorem Part.setCore_debts (q : Part) (c : Nat) (k : Core) : (q.setCore c k).debts = q.debts := rfl
@[simp] theorem Part.setCore_losing (q : Part) (c : Nat) (k : Core) : (q.setCore c k).losing = q.losing := rfl
@[simp] theorem Part.setCore_away (q : Part) (c : Nat) (k : Core) : (q.setCore c k).away = q.away := rfl
@[simp] theorem Part.setCore_mates (q : Part) (c : Nat) (k : Core) : (q.setCore c k).mates = q.mates := rfl
@[simp] theorem Part.setCore_coreTable (q : Part) (c : Nat) (k : Core) : (q.setCore c k).coreTable = q.coreTable := rfl
@[simp] theorem Part.setCore_chanTable (q : Part) (c : Nat) (k : Core) : (q.setCore c k).chanTable = q.chanTable := rfl
@[simp] theorem Part.setCore_service (q : Part) (c : Nat) (k : Core) : (q.setCore c k).service = q.service := rfl
@[simp] theorem Part.setCore_pages (q : Part) (c : Nat) (k : Core) : (q.setCore c k).pages = q.pages := rfl
@[simp] theorem Part.setCore_freeFrames (q : Part) (c : Nat) (k : Core) : (q.setCore c k).freeFrames = q.freeFrames := rfl
@[simp] theorem Part.setCore_outPages (q : Part) (c : Nat) (k : Core) : (q.setCore c k).outPages = q.outPages := rfl
@[simp] theorem Part.setCore_outChans (q : Part) (c : Nat) (k : Core) : (q.setCore c k).outChans = q.outChans := rfl
@[simp] theorem Part.setCore_t1Queue (q : Part) (c : Nat) (k : Core) : (q.setCore c k).t1Queue = q.t1Queue := rfl
@[simp] theorem Part.setCore_served (q : Part) (c : Nat) (k : Core) : (q.setCore c k).served = q.served := rfl
@[simp] theorem Part.setCore_queue (q : Part) (c : Nat) (k : Core) : (q.setCore c k).queue = q.queue := rfl
@[simp] theorem Part.setCore_qfrozen (q : Part) (c : Nat) (k : Core) : (q.setCore c k).qfrozen = q.qfrozen := rfl
@[simp] theorem Part.setCore_task (q : Part) (c : Nat) (k : Core) : (q.setCore c k).task = q.task := rfl
@[simp] theorem Part.setCore_loading (q : Part) (c : Nat) (k : Core) : (q.setCore c k).loading = q.loading := rfl
@[simp] theorem Part.setCore_loadedAt (q : Part) (c : Nat) (k : Core) : (q.setCore c k).loadedAt = q.loadedAt := rfl
@[simp] theorem Part.setCore_loads (q : Part) (c : Nat) (k : Core) : (q.setCore c k).loads = q.loads := rfl
@[simp] theorem Part.setCore_banks (q : Part) (c : Nat) (k : Core) : (q.setCore c k).banks = q.banks := rfl
@[simp] theorem Part.setCore_chans (q : Part) (c : Nat) (k : Core) : (q.setCore c k).chans = q.chans := rfl
@[simp] theorem Part.setCore_barriers (q : Part) (c : Nat) (k : Core) : (q.setCore c k).barriers = q.barriers := rfl
@[simp] theorem Part.setCore_remotes (q : Part) (c : Nat) (k : Core) : (q.setCore c k).remotes = q.remotes := rfl
@[simp] theorem Part.setCore_phase (q : Part) (c : Nat) (k : Core) : (q.setCore c k).phase = q.phase := rfl
@[simp] theorem Part.setCore_phasedAt (q : Part) (c : Nat) (k : Core) : (q.setCore c k).phasedAt = q.phasedAt := rfl
@[simp] theorem Part.setCore_leaves (q : Part) (c : Nat) (k : Core) : (q.setCore c k).leaves = q.leaves := rfl
@[simp] theorem Part.setCore_clampOn (q : Part) (c : Nat) (k : Core) : (q.setCore c k).clampOn = q.clampOn := rfl
@[simp] theorem Part.setCore_preempt (q : Part) (c : Nat) (k : Core) : (q.setCore c k).preempt = q.preempt := rfl
@[simp] theorem Part.setCore_preemptTold (q : Part) (c : Nat) (k : Core) : (q.setCore c k).preemptTold = q.preemptTold := rfl
@[simp] theorem Part.setCore_forceAlways (q : Part) (c : Nat) (k : Core) : (q.setCore c k).forceAlways = q.forceAlways := rfl
@[simp] theorem Part.setCore_portMask (q : Part) (c : Nat) (k : Core) : (q.setCore c k).portMask = q.portMask := rfl
@[simp] theorem Part.setCore_portLand (q : Part) (c : Nat) (k : Core) : (q.setCore c k).portLand = q.portLand := rfl
@[simp] theorem Part.setCore_inbound (q : Part) (c : Nat) (k : Core) : (q.setCore c k).inbound = q.inbound := rfl
@[simp] theorem Part.setCore_frec (q : Part) (c : Nat) (k : Core) : (q.setCore c k).frec = q.frec := rfl
@[simp] theorem Part.setCore_handlerAt (q : Part) (c : Nat) (k : Core) : (q.setCore c k).handlerAt = q.handlerAt := rfl
@[simp] theorem Part.setCore_failing (q : Part) (c : Nat) (k : Core) : (q.setCore c k).failing = q.failing := rfl
@[simp] theorem Part.setCore_endAfter (q : Part) (c : Nat) (k : Core) : (q.setCore c k).endAfter = q.endAfter := rfl
@[simp] theorem Part.setCore_wantRestore (q : Part) (c : Nat) (k : Core) : (q.setCore c k).wantRestore = q.wantRestore := rfl
@[simp] theorem Part.setCore_resumeAt (q : Part) (c : Nat) (k : Core) : (q.setCore c k).resumeAt = q.resumeAt := rfl
@[simp] theorem Part.setCore_pcmd (q : Part) (c : Nat) (k : Core) : (q.setCore c k).pcmd = q.pcmd := rfl
@[simp] theorem Part.setCore_parg (q : Part) (c : Nat) (k : Core) : (q.setCore c k).parg = q.parg := rfl
@[simp] theorem Part.setCore_pres (q : Part) (c : Nat) (k : Core) : (q.setCore c k).pres = q.pres := rfl
@[simp] theorem Part.setCore_meter (q : Part) (c : Nat) (k : Core) : (q.setCore c k).meter = q.meter := rfl
@[simp] theorem Part.setCore_meterHold (q : Part) (c : Nat) (k : Core) : (q.setCore c k).meterHold = q.meterHold := rfl
@[simp] theorem Part.setCore_meterSat (q : Part) (c : Nat) (k : Core) : (q.setCore c k).meterSat = q.meterSat := rfl
@[simp] theorem Part.setCore_facc (q : Part) (c : Nat) (k : Core) : (q.setCore c k).facc = q.facc := rfl
@[simp] theorem Part.setCore_factOk (q : Part) (c : Nat) (k : Core) : (q.setCore c k).factOk = q.factOk := rfl
@[simp] theorem Part.setCore_features (q : Part) (c : Nat) (k : Core) : (q.setCore c k).features = q.features := rfl
@[simp] theorem Part.setCore_featuresNext (q : Part) (c : Nat) (k : Core) : (q.setCore c k).featuresNext = q.featuresNext := rfl
@[simp] theorem Part.setCore_debug (q : Part) (c : Nat) (k : Core) : (q.setCore c k).debug = q.debug := rfl
@[simp] theorem Part.setCore_breakMask (q : Part) (c : Nat) (k : Core) : (q.setCore c k).breakMask = q.breakMask := rfl
@[simp] theorem Part.setCore_digest (q : Part) (c : Nat) (k : Core) : (q.setCore c k).digest = q.digest := rfl
@[simp] theorem Part.setCore_corrupt (q : Part) (c : Nat) (k : Core) : (q.setCore c k).corrupt = q.corrupt := rfl
@[simp] theorem Part.setCore_nodePage (q : Part) (c : Nat) (k : Core) : (q.setCore c k).nodePage = q.nodePage := rfl
@[simp] theorem Part.setCore_nodeCount (q : Part) (c : Nat) (k : Core) : (q.setCore c k).nodeCount = q.nodeCount := rfl

/-! ### Part.onCore -/

@[simp] theorem Part.onCore_live (q : Part) (c : Nat) (f : Core → Core) : (q.onCore c f).live = q.live := rfl
@[simp] theorem Part.onCore_tenant (q : Part) (c : Nat) (f : Core → Core) : (q.onCore c f).tenant = q.tenant := rfl
@[simp] theorem Part.onCore_cores (q : Part) (c : Nat) (f : Core → Core) : (q.onCore c f).cores = q.cores := rfl
@[simp] theorem Part.onCore_channels (q : Part) (c : Nat) (f : Core → Core) : (q.onCore c f).channels = q.channels := rfl
@[simp] theorem Part.onCore_group (q : Part) (c : Nat) (f : Core → Core) : (q.onCore c f).group = q.group := rfl
@[simp] theorem Part.onCore_cls (q : Part) (c : Nat) (f : Core → Core) : (q.onCore c f).cls = q.cls := rfl
@[simp] theorem Part.onCore_resid (q : Part) (c : Nat) (f : Core → Core) : (q.onCore c f).resid = q.resid := rfl
@[simp] theorem Part.onCore_pt (q : Part) (c : Nat) (f : Core → Core) : (q.onCore c f).pt = q.pt := rfl
@[simp] theorem Part.onCore_stage (q : Part) (c : Nat) (f : Core → Core) : (q.onCore c f).stage = q.stage := rfl
@[simp] theorem Part.onCore_stops (q : Part) (c : Nat) (f : Core → Core) : (q.onCore c f).stops = q.stops := rfl
@[simp] theorem Part.onCore_hold (q : Part) (c : Nat) (f : Core → Core) : (q.onCore c f).hold = q.hold := rfl
@[simp] theorem Part.onCore_holdNext (q : Part) (c : Nat) (f : Core → Core) : (q.onCore c f).holdNext = q.holdNext := rfl
@[simp] theorem Part.onCore_holdAsked (q : Part) (c : Nat) (f : Core → Core) : (q.onCore c f).holdAsked = q.holdAsked := rfl
@[simp] theorem Part.onCore_holdTold (q : Part) (c : Nat) (f : Core → Core) : (q.onCore c f).holdTold = q.holdTold := rfl
@[simp] theorem Part.onCore_policy (q : Part) (c : Nat) (f : Core → Core) : (q.onCore c f).policy = q.policy := rfl
@[simp] theorem Part.onCore_alignAt (q : Part) (c : Nat) (f : Core → Core) : (q.onCore c f).alignAt = q.alignAt := rfl
@[simp] theorem Part.onCore_flitTo (q : Part) (c : Nat) (f : Core → Core) : (q.onCore c f).flitTo = q.flitTo := rfl
@[simp] theorem Part.onCore_readyAt (q : Part) (c : Nat) (f : Core → Core) : (q.onCore c f).readyAt = q.readyAt := rfl
@[simp] theorem Part.onCore_readies (q : Part) (c : Nat) (f : Core → Core) : (q.onCore c f).readies = q.readies := rfl
@[simp] theorem Part.onCore_excused (q : Part) (c : Nat) (f : Core → Core) : (q.onCore c f).excused = q.excused := rfl
@[simp] theorem Part.onCore_awayKi (q : Part) (c : Nat) (f : Core → Core) : (q.onCore c f).awayKi = q.awayKi := rfl
@[simp] theorem Part.onCore_peers (q : Part) (c : Nat) (f : Core → Core) : (q.onCore c f).peers = q.peers := rfl
@[simp] theorem Part.onCore_noticeAt (q : Part) (c : Nat) (f : Core → Core) : (q.onCore c f).noticeAt = q.noticeAt := rfl
@[simp] theorem Part.onCore_pauses (q : Part) (c : Nat) (f : Core → Core) : (q.onCore c f).pauses = q.pauses := rfl
@[simp] theorem Part.onCore_debts (q : Part) (c : Nat) (f : Core → Core) : (q.onCore c f).debts = q.debts := rfl
@[simp] theorem Part.onCore_losing (q : Part) (c : Nat) (f : Core → Core) : (q.onCore c f).losing = q.losing := rfl
@[simp] theorem Part.onCore_away (q : Part) (c : Nat) (f : Core → Core) : (q.onCore c f).away = q.away := rfl
@[simp] theorem Part.onCore_mates (q : Part) (c : Nat) (f : Core → Core) : (q.onCore c f).mates = q.mates := rfl
@[simp] theorem Part.onCore_coreTable (q : Part) (c : Nat) (f : Core → Core) : (q.onCore c f).coreTable = q.coreTable := rfl
@[simp] theorem Part.onCore_chanTable (q : Part) (c : Nat) (f : Core → Core) : (q.onCore c f).chanTable = q.chanTable := rfl
@[simp] theorem Part.onCore_service (q : Part) (c : Nat) (f : Core → Core) : (q.onCore c f).service = q.service := rfl
@[simp] theorem Part.onCore_pages (q : Part) (c : Nat) (f : Core → Core) : (q.onCore c f).pages = q.pages := rfl
@[simp] theorem Part.onCore_freeFrames (q : Part) (c : Nat) (f : Core → Core) : (q.onCore c f).freeFrames = q.freeFrames := rfl
@[simp] theorem Part.onCore_outPages (q : Part) (c : Nat) (f : Core → Core) : (q.onCore c f).outPages = q.outPages := rfl
@[simp] theorem Part.onCore_outChans (q : Part) (c : Nat) (f : Core → Core) : (q.onCore c f).outChans = q.outChans := rfl
@[simp] theorem Part.onCore_t1Queue (q : Part) (c : Nat) (f : Core → Core) : (q.onCore c f).t1Queue = q.t1Queue := rfl
@[simp] theorem Part.onCore_served (q : Part) (c : Nat) (f : Core → Core) : (q.onCore c f).served = q.served := rfl
@[simp] theorem Part.onCore_queue (q : Part) (c : Nat) (f : Core → Core) : (q.onCore c f).queue = q.queue := rfl
@[simp] theorem Part.onCore_qfrozen (q : Part) (c : Nat) (f : Core → Core) : (q.onCore c f).qfrozen = q.qfrozen := rfl
@[simp] theorem Part.onCore_task (q : Part) (c : Nat) (f : Core → Core) : (q.onCore c f).task = q.task := rfl
@[simp] theorem Part.onCore_loading (q : Part) (c : Nat) (f : Core → Core) : (q.onCore c f).loading = q.loading := rfl
@[simp] theorem Part.onCore_loadedAt (q : Part) (c : Nat) (f : Core → Core) : (q.onCore c f).loadedAt = q.loadedAt := rfl
@[simp] theorem Part.onCore_loads (q : Part) (c : Nat) (f : Core → Core) : (q.onCore c f).loads = q.loads := rfl
@[simp] theorem Part.onCore_banks (q : Part) (c : Nat) (f : Core → Core) : (q.onCore c f).banks = q.banks := rfl
@[simp] theorem Part.onCore_chans (q : Part) (c : Nat) (f : Core → Core) : (q.onCore c f).chans = q.chans := rfl
@[simp] theorem Part.onCore_barriers (q : Part) (c : Nat) (f : Core → Core) : (q.onCore c f).barriers = q.barriers := rfl
@[simp] theorem Part.onCore_remotes (q : Part) (c : Nat) (f : Core → Core) : (q.onCore c f).remotes = q.remotes := rfl
@[simp] theorem Part.onCore_phase (q : Part) (c : Nat) (f : Core → Core) : (q.onCore c f).phase = q.phase := rfl
@[simp] theorem Part.onCore_phasedAt (q : Part) (c : Nat) (f : Core → Core) : (q.onCore c f).phasedAt = q.phasedAt := rfl
@[simp] theorem Part.onCore_leaves (q : Part) (c : Nat) (f : Core → Core) : (q.onCore c f).leaves = q.leaves := rfl
@[simp] theorem Part.onCore_clampOn (q : Part) (c : Nat) (f : Core → Core) : (q.onCore c f).clampOn = q.clampOn := rfl
@[simp] theorem Part.onCore_preempt (q : Part) (c : Nat) (f : Core → Core) : (q.onCore c f).preempt = q.preempt := rfl
@[simp] theorem Part.onCore_preemptTold (q : Part) (c : Nat) (f : Core → Core) : (q.onCore c f).preemptTold = q.preemptTold := rfl
@[simp] theorem Part.onCore_forceAlways (q : Part) (c : Nat) (f : Core → Core) : (q.onCore c f).forceAlways = q.forceAlways := rfl
@[simp] theorem Part.onCore_portMask (q : Part) (c : Nat) (f : Core → Core) : (q.onCore c f).portMask = q.portMask := rfl
@[simp] theorem Part.onCore_portLand (q : Part) (c : Nat) (f : Core → Core) : (q.onCore c f).portLand = q.portLand := rfl
@[simp] theorem Part.onCore_inbound (q : Part) (c : Nat) (f : Core → Core) : (q.onCore c f).inbound = q.inbound := rfl
@[simp] theorem Part.onCore_frec (q : Part) (c : Nat) (f : Core → Core) : (q.onCore c f).frec = q.frec := rfl
@[simp] theorem Part.onCore_handlerAt (q : Part) (c : Nat) (f : Core → Core) : (q.onCore c f).handlerAt = q.handlerAt := rfl
@[simp] theorem Part.onCore_failing (q : Part) (c : Nat) (f : Core → Core) : (q.onCore c f).failing = q.failing := rfl
@[simp] theorem Part.onCore_endAfter (q : Part) (c : Nat) (f : Core → Core) : (q.onCore c f).endAfter = q.endAfter := rfl
@[simp] theorem Part.onCore_wantRestore (q : Part) (c : Nat) (f : Core → Core) : (q.onCore c f).wantRestore = q.wantRestore := rfl
@[simp] theorem Part.onCore_resumeAt (q : Part) (c : Nat) (f : Core → Core) : (q.onCore c f).resumeAt = q.resumeAt := rfl
@[simp] theorem Part.onCore_pcmd (q : Part) (c : Nat) (f : Core → Core) : (q.onCore c f).pcmd = q.pcmd := rfl
@[simp] theorem Part.onCore_parg (q : Part) (c : Nat) (f : Core → Core) : (q.onCore c f).parg = q.parg := rfl
@[simp] theorem Part.onCore_pres (q : Part) (c : Nat) (f : Core → Core) : (q.onCore c f).pres = q.pres := rfl
@[simp] theorem Part.onCore_meter (q : Part) (c : Nat) (f : Core → Core) : (q.onCore c f).meter = q.meter := rfl
@[simp] theorem Part.onCore_meterHold (q : Part) (c : Nat) (f : Core → Core) : (q.onCore c f).meterHold = q.meterHold := rfl
@[simp] theorem Part.onCore_meterSat (q : Part) (c : Nat) (f : Core → Core) : (q.onCore c f).meterSat = q.meterSat := rfl
@[simp] theorem Part.onCore_facc (q : Part) (c : Nat) (f : Core → Core) : (q.onCore c f).facc = q.facc := rfl
@[simp] theorem Part.onCore_factOk (q : Part) (c : Nat) (f : Core → Core) : (q.onCore c f).factOk = q.factOk := rfl
@[simp] theorem Part.onCore_features (q : Part) (c : Nat) (f : Core → Core) : (q.onCore c f).features = q.features := rfl
@[simp] theorem Part.onCore_featuresNext (q : Part) (c : Nat) (f : Core → Core) : (q.onCore c f).featuresNext = q.featuresNext := rfl
@[simp] theorem Part.onCore_debug (q : Part) (c : Nat) (f : Core → Core) : (q.onCore c f).debug = q.debug := rfl
@[simp] theorem Part.onCore_breakMask (q : Part) (c : Nat) (f : Core → Core) : (q.onCore c f).breakMask = q.breakMask := rfl
@[simp] theorem Part.onCore_digest (q : Part) (c : Nat) (f : Core → Core) : (q.onCore c f).digest = q.digest := rfl
@[simp] theorem Part.onCore_corrupt (q : Part) (c : Nat) (f : Core → Core) : (q.onCore c f).corrupt = q.corrupt := rfl
@[simp] theorem Part.onCore_nodePage (q : Part) (c : Nat) (f : Core → Core) : (q.onCore c f).nodePage = q.nodePage := rfl
@[simp] theorem Part.onCore_nodeCount (q : Part) (c : Nat) (f : Core → Core) : (q.onCore c f).nodeCount = q.nodeCount := rfl

/-! ### Part.stopBy -/

@[simp] theorem Part.stopBy_live (q : Part) (st : Stop) : (q.stopBy st).live = q.live := rfl
@[simp] theorem Part.stopBy_tenant (q : Part) (st : Stop) : (q.stopBy st).tenant = q.tenant := rfl
@[simp] theorem Part.stopBy_cores (q : Part) (st : Stop) : (q.stopBy st).cores = q.cores := rfl
@[simp] theorem Part.stopBy_channels (q : Part) (st : Stop) : (q.stopBy st).channels = q.channels := rfl
@[simp] theorem Part.stopBy_group (q : Part) (st : Stop) : (q.stopBy st).group = q.group := rfl
@[simp] theorem Part.stopBy_cls (q : Part) (st : Stop) : (q.stopBy st).cls = q.cls := rfl
@[simp] theorem Part.stopBy_resid (q : Part) (st : Stop) : (q.stopBy st).resid = q.resid := rfl
@[simp] theorem Part.stopBy_pt (q : Part) (st : Stop) : (q.stopBy st).pt = q.pt := rfl
@[simp] theorem Part.stopBy_stage (q : Part) (st : Stop) : (q.stopBy st).stage = q.stage := rfl
@[simp] theorem Part.stopBy_hold (q : Part) (st : Stop) : (q.stopBy st).hold = q.hold := rfl
@[simp] theorem Part.stopBy_holdNext (q : Part) (st : Stop) : (q.stopBy st).holdNext = q.holdNext := rfl
@[simp] theorem Part.stopBy_holdAsked (q : Part) (st : Stop) : (q.stopBy st).holdAsked = q.holdAsked := rfl
@[simp] theorem Part.stopBy_holdTold (q : Part) (st : Stop) : (q.stopBy st).holdTold = q.holdTold := rfl
@[simp] theorem Part.stopBy_policy (q : Part) (st : Stop) : (q.stopBy st).policy = q.policy := rfl
@[simp] theorem Part.stopBy_alignAt (q : Part) (st : Stop) : (q.stopBy st).alignAt = q.alignAt := rfl
@[simp] theorem Part.stopBy_flitTo (q : Part) (st : Stop) : (q.stopBy st).flitTo = q.flitTo := rfl
@[simp] theorem Part.stopBy_readyAt (q : Part) (st : Stop) : (q.stopBy st).readyAt = q.readyAt := rfl
@[simp] theorem Part.stopBy_readies (q : Part) (st : Stop) : (q.stopBy st).readies = q.readies := rfl
@[simp] theorem Part.stopBy_excused (q : Part) (st : Stop) : (q.stopBy st).excused = q.excused := rfl
@[simp] theorem Part.stopBy_awayKi (q : Part) (st : Stop) : (q.stopBy st).awayKi = q.awayKi := rfl
@[simp] theorem Part.stopBy_peers (q : Part) (st : Stop) : (q.stopBy st).peers = q.peers := rfl
@[simp] theorem Part.stopBy_noticeAt (q : Part) (st : Stop) : (q.stopBy st).noticeAt = q.noticeAt := rfl
@[simp] theorem Part.stopBy_pauses (q : Part) (st : Stop) : (q.stopBy st).pauses = q.pauses := rfl
@[simp] theorem Part.stopBy_debts (q : Part) (st : Stop) : (q.stopBy st).debts = q.debts := rfl
@[simp] theorem Part.stopBy_losing (q : Part) (st : Stop) : (q.stopBy st).losing = q.losing := rfl
@[simp] theorem Part.stopBy_away (q : Part) (st : Stop) : (q.stopBy st).away = q.away := rfl
@[simp] theorem Part.stopBy_mates (q : Part) (st : Stop) : (q.stopBy st).mates = q.mates := rfl
@[simp] theorem Part.stopBy_coreTable (q : Part) (st : Stop) : (q.stopBy st).coreTable = q.coreTable := rfl
@[simp] theorem Part.stopBy_chanTable (q : Part) (st : Stop) : (q.stopBy st).chanTable = q.chanTable := rfl
@[simp] theorem Part.stopBy_service (q : Part) (st : Stop) : (q.stopBy st).service = q.service := rfl
@[simp] theorem Part.stopBy_pages (q : Part) (st : Stop) : (q.stopBy st).pages = q.pages := rfl
@[simp] theorem Part.stopBy_freeFrames (q : Part) (st : Stop) : (q.stopBy st).freeFrames = q.freeFrames := rfl
@[simp] theorem Part.stopBy_outPages (q : Part) (st : Stop) : (q.stopBy st).outPages = q.outPages := rfl
@[simp] theorem Part.stopBy_outChans (q : Part) (st : Stop) : (q.stopBy st).outChans = q.outChans := rfl
@[simp] theorem Part.stopBy_t1Queue (q : Part) (st : Stop) : (q.stopBy st).t1Queue = q.t1Queue := rfl
@[simp] theorem Part.stopBy_served (q : Part) (st : Stop) : (q.stopBy st).served = q.served := rfl
@[simp] theorem Part.stopBy_queue (q : Part) (st : Stop) : (q.stopBy st).queue = q.queue := rfl
@[simp] theorem Part.stopBy_qfrozen (q : Part) (st : Stop) : (q.stopBy st).qfrozen = q.qfrozen := rfl
@[simp] theorem Part.stopBy_task (q : Part) (st : Stop) : (q.stopBy st).task = q.task := rfl
@[simp] theorem Part.stopBy_loading (q : Part) (st : Stop) : (q.stopBy st).loading = q.loading := rfl
@[simp] theorem Part.stopBy_loadedAt (q : Part) (st : Stop) : (q.stopBy st).loadedAt = q.loadedAt := rfl
@[simp] theorem Part.stopBy_loads (q : Part) (st : Stop) : (q.stopBy st).loads = q.loads := rfl
@[simp] theorem Part.stopBy_coreOf (q : Part) (st : Stop) : (q.stopBy st).coreOf = q.coreOf := rfl
@[simp] theorem Part.stopBy_banks (q : Part) (st : Stop) : (q.stopBy st).banks = q.banks := rfl
@[simp] theorem Part.stopBy_chans (q : Part) (st : Stop) : (q.stopBy st).chans = q.chans := rfl
@[simp] theorem Part.stopBy_barriers (q : Part) (st : Stop) : (q.stopBy st).barriers = q.barriers := rfl
@[simp] theorem Part.stopBy_remotes (q : Part) (st : Stop) : (q.stopBy st).remotes = q.remotes := rfl
@[simp] theorem Part.stopBy_phase (q : Part) (st : Stop) : (q.stopBy st).phase = q.phase := rfl
@[simp] theorem Part.stopBy_phasedAt (q : Part) (st : Stop) : (q.stopBy st).phasedAt = q.phasedAt := rfl
@[simp] theorem Part.stopBy_leaves (q : Part) (st : Stop) : (q.stopBy st).leaves = q.leaves := rfl
@[simp] theorem Part.stopBy_clampOn (q : Part) (st : Stop) : (q.stopBy st).clampOn = q.clampOn := rfl
@[simp] theorem Part.stopBy_preempt (q : Part) (st : Stop) : (q.stopBy st).preempt = q.preempt := rfl
@[simp] theorem Part.stopBy_preemptTold (q : Part) (st : Stop) : (q.stopBy st).preemptTold = q.preemptTold := rfl
@[simp] theorem Part.stopBy_forceAlways (q : Part) (st : Stop) : (q.stopBy st).forceAlways = q.forceAlways := rfl
@[simp] theorem Part.stopBy_portMask (q : Part) (st : Stop) : (q.stopBy st).portMask = q.portMask := rfl
@[simp] theorem Part.stopBy_portLand (q : Part) (st : Stop) : (q.stopBy st).portLand = q.portLand := rfl
@[simp] theorem Part.stopBy_inbound (q : Part) (st : Stop) : (q.stopBy st).inbound = q.inbound := rfl
@[simp] theorem Part.stopBy_frec (q : Part) (st : Stop) : (q.stopBy st).frec = q.frec := rfl
@[simp] theorem Part.stopBy_handlerAt (q : Part) (st : Stop) : (q.stopBy st).handlerAt = q.handlerAt := rfl
@[simp] theorem Part.stopBy_failing (q : Part) (st : Stop) : (q.stopBy st).failing = q.failing := rfl
@[simp] theorem Part.stopBy_endAfter (q : Part) (st : Stop) : (q.stopBy st).endAfter = q.endAfter := rfl
@[simp] theorem Part.stopBy_wantRestore (q : Part) (st : Stop) : (q.stopBy st).wantRestore = q.wantRestore := rfl
@[simp] theorem Part.stopBy_resumeAt (q : Part) (st : Stop) : (q.stopBy st).resumeAt = q.resumeAt := rfl
@[simp] theorem Part.stopBy_pcmd (q : Part) (st : Stop) : (q.stopBy st).pcmd = q.pcmd := rfl
@[simp] theorem Part.stopBy_parg (q : Part) (st : Stop) : (q.stopBy st).parg = q.parg := rfl
@[simp] theorem Part.stopBy_pres (q : Part) (st : Stop) : (q.stopBy st).pres = q.pres := rfl
@[simp] theorem Part.stopBy_meter (q : Part) (st : Stop) : (q.stopBy st).meter = q.meter := rfl
@[simp] theorem Part.stopBy_meterHold (q : Part) (st : Stop) : (q.stopBy st).meterHold = q.meterHold := rfl
@[simp] theorem Part.stopBy_meterSat (q : Part) (st : Stop) : (q.stopBy st).meterSat = q.meterSat := rfl
@[simp] theorem Part.stopBy_facc (q : Part) (st : Stop) : (q.stopBy st).facc = q.facc := rfl
@[simp] theorem Part.stopBy_factOk (q : Part) (st : Stop) : (q.stopBy st).factOk = q.factOk := rfl
@[simp] theorem Part.stopBy_features (q : Part) (st : Stop) : (q.stopBy st).features = q.features := rfl
@[simp] theorem Part.stopBy_featuresNext (q : Part) (st : Stop) : (q.stopBy st).featuresNext = q.featuresNext := rfl
@[simp] theorem Part.stopBy_debug (q : Part) (st : Stop) : (q.stopBy st).debug = q.debug := rfl
@[simp] theorem Part.stopBy_breakMask (q : Part) (st : Stop) : (q.stopBy st).breakMask = q.breakMask := rfl
@[simp] theorem Part.stopBy_digest (q : Part) (st : Stop) : (q.stopBy st).digest = q.digest := rfl
@[simp] theorem Part.stopBy_corrupt (q : Part) (st : Stop) : (q.stopBy st).corrupt = q.corrupt := rfl
@[simp] theorem Part.stopBy_nodePage (q : Part) (st : Stop) : (q.stopBy st).nodePage = q.nodePage := rfl
@[simp] theorem Part.stopBy_nodeCount (q : Part) (st : Stop) : (q.stopBy st).nodeCount = q.nodeCount := rfl

/-! ### Part.setBank -/

@[simp] theorem Part.setBank_live (q : Part) (v b : Nat) (k : Bank) : (q.setBank v b k).live = q.live := rfl
@[simp] theorem Part.setBank_tenant (q : Part) (v b : Nat) (k : Bank) : (q.setBank v b k).tenant = q.tenant := rfl
@[simp] theorem Part.setBank_cores (q : Part) (v b : Nat) (k : Bank) : (q.setBank v b k).cores = q.cores := rfl
@[simp] theorem Part.setBank_channels (q : Part) (v b : Nat) (k : Bank) : (q.setBank v b k).channels = q.channels := rfl
@[simp] theorem Part.setBank_group (q : Part) (v b : Nat) (k : Bank) : (q.setBank v b k).group = q.group := rfl
@[simp] theorem Part.setBank_cls (q : Part) (v b : Nat) (k : Bank) : (q.setBank v b k).cls = q.cls := rfl
@[simp] theorem Part.setBank_resid (q : Part) (v b : Nat) (k : Bank) : (q.setBank v b k).resid = q.resid := rfl
@[simp] theorem Part.setBank_pt (q : Part) (v b : Nat) (k : Bank) : (q.setBank v b k).pt = q.pt := rfl
@[simp] theorem Part.setBank_stage (q : Part) (v b : Nat) (k : Bank) : (q.setBank v b k).stage = q.stage := rfl
@[simp] theorem Part.setBank_stops (q : Part) (v b : Nat) (k : Bank) : (q.setBank v b k).stops = q.stops := rfl
@[simp] theorem Part.setBank_hold (q : Part) (v b : Nat) (k : Bank) : (q.setBank v b k).hold = q.hold := rfl
@[simp] theorem Part.setBank_holdNext (q : Part) (v b : Nat) (k : Bank) : (q.setBank v b k).holdNext = q.holdNext := rfl
@[simp] theorem Part.setBank_holdAsked (q : Part) (v b : Nat) (k : Bank) : (q.setBank v b k).holdAsked = q.holdAsked := rfl
@[simp] theorem Part.setBank_holdTold (q : Part) (v b : Nat) (k : Bank) : (q.setBank v b k).holdTold = q.holdTold := rfl
@[simp] theorem Part.setBank_policy (q : Part) (v b : Nat) (k : Bank) : (q.setBank v b k).policy = q.policy := rfl
@[simp] theorem Part.setBank_alignAt (q : Part) (v b : Nat) (k : Bank) : (q.setBank v b k).alignAt = q.alignAt := rfl
@[simp] theorem Part.setBank_flitTo (q : Part) (v b : Nat) (k : Bank) : (q.setBank v b k).flitTo = q.flitTo := rfl
@[simp] theorem Part.setBank_readyAt (q : Part) (v b : Nat) (k : Bank) : (q.setBank v b k).readyAt = q.readyAt := rfl
@[simp] theorem Part.setBank_readies (q : Part) (v b : Nat) (k : Bank) : (q.setBank v b k).readies = q.readies := rfl
@[simp] theorem Part.setBank_excused (q : Part) (v b : Nat) (k : Bank) : (q.setBank v b k).excused = q.excused := rfl
@[simp] theorem Part.setBank_awayKi (q : Part) (v b : Nat) (k : Bank) : (q.setBank v b k).awayKi = q.awayKi := rfl
@[simp] theorem Part.setBank_peers (q : Part) (v b : Nat) (k : Bank) : (q.setBank v b k).peers = q.peers := rfl
@[simp] theorem Part.setBank_noticeAt (q : Part) (v b : Nat) (k : Bank) : (q.setBank v b k).noticeAt = q.noticeAt := rfl
@[simp] theorem Part.setBank_pauses (q : Part) (v b : Nat) (k : Bank) : (q.setBank v b k).pauses = q.pauses := rfl
@[simp] theorem Part.setBank_debts (q : Part) (v b : Nat) (k : Bank) : (q.setBank v b k).debts = q.debts := rfl
@[simp] theorem Part.setBank_losing (q : Part) (v b : Nat) (k : Bank) : (q.setBank v b k).losing = q.losing := rfl
@[simp] theorem Part.setBank_away (q : Part) (v b : Nat) (k : Bank) : (q.setBank v b k).away = q.away := rfl
@[simp] theorem Part.setBank_mates (q : Part) (v b : Nat) (k : Bank) : (q.setBank v b k).mates = q.mates := rfl
@[simp] theorem Part.setBank_coreTable (q : Part) (v b : Nat) (k : Bank) : (q.setBank v b k).coreTable = q.coreTable := rfl
@[simp] theorem Part.setBank_chanTable (q : Part) (v b : Nat) (k : Bank) : (q.setBank v b k).chanTable = q.chanTable := rfl
@[simp] theorem Part.setBank_service (q : Part) (v b : Nat) (k : Bank) : (q.setBank v b k).service = q.service := rfl
@[simp] theorem Part.setBank_pages (q : Part) (v b : Nat) (k : Bank) : (q.setBank v b k).pages = q.pages := rfl
@[simp] theorem Part.setBank_freeFrames (q : Part) (v b : Nat) (k : Bank) : (q.setBank v b k).freeFrames = q.freeFrames := rfl
@[simp] theorem Part.setBank_outPages (q : Part) (v b : Nat) (k : Bank) : (q.setBank v b k).outPages = q.outPages := rfl
@[simp] theorem Part.setBank_outChans (q : Part) (v b : Nat) (k : Bank) : (q.setBank v b k).outChans = q.outChans := rfl
@[simp] theorem Part.setBank_t1Queue (q : Part) (v b : Nat) (k : Bank) : (q.setBank v b k).t1Queue = q.t1Queue := rfl
@[simp] theorem Part.setBank_served (q : Part) (v b : Nat) (k : Bank) : (q.setBank v b k).served = q.served := rfl
@[simp] theorem Part.setBank_queue (q : Part) (v b : Nat) (k : Bank) : (q.setBank v b k).queue = q.queue := rfl
@[simp] theorem Part.setBank_qfrozen (q : Part) (v b : Nat) (k : Bank) : (q.setBank v b k).qfrozen = q.qfrozen := rfl
@[simp] theorem Part.setBank_task (q : Part) (v b : Nat) (k : Bank) : (q.setBank v b k).task = q.task := rfl
@[simp] theorem Part.setBank_loading (q : Part) (v b : Nat) (k : Bank) : (q.setBank v b k).loading = q.loading := rfl
@[simp] theorem Part.setBank_loadedAt (q : Part) (v b : Nat) (k : Bank) : (q.setBank v b k).loadedAt = q.loadedAt := rfl
@[simp] theorem Part.setBank_loads (q : Part) (v b : Nat) (k : Bank) : (q.setBank v b k).loads = q.loads := rfl
@[simp] theorem Part.setBank_coreOf (q : Part) (v b : Nat) (k : Bank) : (q.setBank v b k).coreOf = q.coreOf := rfl
@[simp] theorem Part.setBank_chans (q : Part) (v b : Nat) (k : Bank) : (q.setBank v b k).chans = q.chans := rfl
@[simp] theorem Part.setBank_barriers (q : Part) (v b : Nat) (k : Bank) : (q.setBank v b k).barriers = q.barriers := rfl
@[simp] theorem Part.setBank_remotes (q : Part) (v b : Nat) (k : Bank) : (q.setBank v b k).remotes = q.remotes := rfl
@[simp] theorem Part.setBank_phase (q : Part) (v b : Nat) (k : Bank) : (q.setBank v b k).phase = q.phase := rfl
@[simp] theorem Part.setBank_phasedAt (q : Part) (v b : Nat) (k : Bank) : (q.setBank v b k).phasedAt = q.phasedAt := rfl
@[simp] theorem Part.setBank_leaves (q : Part) (v b : Nat) (k : Bank) : (q.setBank v b k).leaves = q.leaves := rfl
@[simp] theorem Part.setBank_clampOn (q : Part) (v b : Nat) (k : Bank) : (q.setBank v b k).clampOn = q.clampOn := rfl
@[simp] theorem Part.setBank_preempt (q : Part) (v b : Nat) (k : Bank) : (q.setBank v b k).preempt = q.preempt := rfl
@[simp] theorem Part.setBank_preemptTold (q : Part) (v b : Nat) (k : Bank) : (q.setBank v b k).preemptTold = q.preemptTold := rfl
@[simp] theorem Part.setBank_forceAlways (q : Part) (v b : Nat) (k : Bank) : (q.setBank v b k).forceAlways = q.forceAlways := rfl
@[simp] theorem Part.setBank_portMask (q : Part) (v b : Nat) (k : Bank) : (q.setBank v b k).portMask = q.portMask := rfl
@[simp] theorem Part.setBank_portLand (q : Part) (v b : Nat) (k : Bank) : (q.setBank v b k).portLand = q.portLand := rfl
@[simp] theorem Part.setBank_inbound (q : Part) (v b : Nat) (k : Bank) : (q.setBank v b k).inbound = q.inbound := rfl
@[simp] theorem Part.setBank_frec (q : Part) (v b : Nat) (k : Bank) : (q.setBank v b k).frec = q.frec := rfl
@[simp] theorem Part.setBank_handlerAt (q : Part) (v b : Nat) (k : Bank) : (q.setBank v b k).handlerAt = q.handlerAt := rfl
@[simp] theorem Part.setBank_failing (q : Part) (v b : Nat) (k : Bank) : (q.setBank v b k).failing = q.failing := rfl
@[simp] theorem Part.setBank_endAfter (q : Part) (v b : Nat) (k : Bank) : (q.setBank v b k).endAfter = q.endAfter := rfl
@[simp] theorem Part.setBank_wantRestore (q : Part) (v b : Nat) (k : Bank) : (q.setBank v b k).wantRestore = q.wantRestore := rfl
@[simp] theorem Part.setBank_resumeAt (q : Part) (v b : Nat) (k : Bank) : (q.setBank v b k).resumeAt = q.resumeAt := rfl
@[simp] theorem Part.setBank_pcmd (q : Part) (v b : Nat) (k : Bank) : (q.setBank v b k).pcmd = q.pcmd := rfl
@[simp] theorem Part.setBank_parg (q : Part) (v b : Nat) (k : Bank) : (q.setBank v b k).parg = q.parg := rfl
@[simp] theorem Part.setBank_pres (q : Part) (v b : Nat) (k : Bank) : (q.setBank v b k).pres = q.pres := rfl
@[simp] theorem Part.setBank_meter (q : Part) (v b : Nat) (k : Bank) : (q.setBank v b k).meter = q.meter := rfl
@[simp] theorem Part.setBank_meterHold (q : Part) (v b : Nat) (k : Bank) : (q.setBank v b k).meterHold = q.meterHold := rfl
@[simp] theorem Part.setBank_meterSat (q : Part) (v b : Nat) (k : Bank) : (q.setBank v b k).meterSat = q.meterSat := rfl
@[simp] theorem Part.setBank_facc (q : Part) (v b : Nat) (k : Bank) : (q.setBank v b k).facc = q.facc := rfl
@[simp] theorem Part.setBank_factOk (q : Part) (v b : Nat) (k : Bank) : (q.setBank v b k).factOk = q.factOk := rfl
@[simp] theorem Part.setBank_features (q : Part) (v b : Nat) (k : Bank) : (q.setBank v b k).features = q.features := rfl
@[simp] theorem Part.setBank_featuresNext (q : Part) (v b : Nat) (k : Bank) : (q.setBank v b k).featuresNext = q.featuresNext := rfl
@[simp] theorem Part.setBank_debug (q : Part) (v b : Nat) (k : Bank) : (q.setBank v b k).debug = q.debug := rfl
@[simp] theorem Part.setBank_breakMask (q : Part) (v b : Nat) (k : Bank) : (q.setBank v b k).breakMask = q.breakMask := rfl
@[simp] theorem Part.setBank_digest (q : Part) (v b : Nat) (k : Bank) : (q.setBank v b k).digest = q.digest := rfl
@[simp] theorem Part.setBank_corrupt (q : Part) (v b : Nat) (k : Bank) : (q.setBank v b k).corrupt = q.corrupt := rfl
@[simp] theorem Part.setBank_nodePage (q : Part) (v b : Nat) (k : Bank) : (q.setBank v b k).nodePage = q.nodePage := rfl
@[simp] theorem Part.setBank_nodeCount (q : Part) (v b : Nat) (k : Bank) : (q.setBank v b k).nodeCount = q.nodeCount := rfl

/-! ### Part.setChan -/

@[simp] theorem Part.setChan_live (q : Part) (v : Nat) (k : Chan) : (q.setChan v k).live = q.live := rfl
@[simp] theorem Part.setChan_tenant (q : Part) (v : Nat) (k : Chan) : (q.setChan v k).tenant = q.tenant := rfl
@[simp] theorem Part.setChan_cores (q : Part) (v : Nat) (k : Chan) : (q.setChan v k).cores = q.cores := rfl
@[simp] theorem Part.setChan_channels (q : Part) (v : Nat) (k : Chan) : (q.setChan v k).channels = q.channels := rfl
@[simp] theorem Part.setChan_group (q : Part) (v : Nat) (k : Chan) : (q.setChan v k).group = q.group := rfl
@[simp] theorem Part.setChan_cls (q : Part) (v : Nat) (k : Chan) : (q.setChan v k).cls = q.cls := rfl
@[simp] theorem Part.setChan_resid (q : Part) (v : Nat) (k : Chan) : (q.setChan v k).resid = q.resid := rfl
@[simp] theorem Part.setChan_pt (q : Part) (v : Nat) (k : Chan) : (q.setChan v k).pt = q.pt := rfl
@[simp] theorem Part.setChan_stage (q : Part) (v : Nat) (k : Chan) : (q.setChan v k).stage = q.stage := rfl
@[simp] theorem Part.setChan_stops (q : Part) (v : Nat) (k : Chan) : (q.setChan v k).stops = q.stops := rfl
@[simp] theorem Part.setChan_hold (q : Part) (v : Nat) (k : Chan) : (q.setChan v k).hold = q.hold := rfl
@[simp] theorem Part.setChan_holdNext (q : Part) (v : Nat) (k : Chan) : (q.setChan v k).holdNext = q.holdNext := rfl
@[simp] theorem Part.setChan_holdAsked (q : Part) (v : Nat) (k : Chan) : (q.setChan v k).holdAsked = q.holdAsked := rfl
@[simp] theorem Part.setChan_holdTold (q : Part) (v : Nat) (k : Chan) : (q.setChan v k).holdTold = q.holdTold := rfl
@[simp] theorem Part.setChan_policy (q : Part) (v : Nat) (k : Chan) : (q.setChan v k).policy = q.policy := rfl
@[simp] theorem Part.setChan_alignAt (q : Part) (v : Nat) (k : Chan) : (q.setChan v k).alignAt = q.alignAt := rfl
@[simp] theorem Part.setChan_flitTo (q : Part) (v : Nat) (k : Chan) : (q.setChan v k).flitTo = q.flitTo := rfl
@[simp] theorem Part.setChan_readyAt (q : Part) (v : Nat) (k : Chan) : (q.setChan v k).readyAt = q.readyAt := rfl
@[simp] theorem Part.setChan_readies (q : Part) (v : Nat) (k : Chan) : (q.setChan v k).readies = q.readies := rfl
@[simp] theorem Part.setChan_excused (q : Part) (v : Nat) (k : Chan) : (q.setChan v k).excused = q.excused := rfl
@[simp] theorem Part.setChan_awayKi (q : Part) (v : Nat) (k : Chan) : (q.setChan v k).awayKi = q.awayKi := rfl
@[simp] theorem Part.setChan_peers (q : Part) (v : Nat) (k : Chan) : (q.setChan v k).peers = q.peers := rfl
@[simp] theorem Part.setChan_noticeAt (q : Part) (v : Nat) (k : Chan) : (q.setChan v k).noticeAt = q.noticeAt := rfl
@[simp] theorem Part.setChan_pauses (q : Part) (v : Nat) (k : Chan) : (q.setChan v k).pauses = q.pauses := rfl
@[simp] theorem Part.setChan_debts (q : Part) (v : Nat) (k : Chan) : (q.setChan v k).debts = q.debts := rfl
@[simp] theorem Part.setChan_losing (q : Part) (v : Nat) (k : Chan) : (q.setChan v k).losing = q.losing := rfl
@[simp] theorem Part.setChan_away (q : Part) (v : Nat) (k : Chan) : (q.setChan v k).away = q.away := rfl
@[simp] theorem Part.setChan_mates (q : Part) (v : Nat) (k : Chan) : (q.setChan v k).mates = q.mates := rfl
@[simp] theorem Part.setChan_coreTable (q : Part) (v : Nat) (k : Chan) : (q.setChan v k).coreTable = q.coreTable := rfl
@[simp] theorem Part.setChan_chanTable (q : Part) (v : Nat) (k : Chan) : (q.setChan v k).chanTable = q.chanTable := rfl
@[simp] theorem Part.setChan_service (q : Part) (v : Nat) (k : Chan) : (q.setChan v k).service = q.service := rfl
@[simp] theorem Part.setChan_pages (q : Part) (v : Nat) (k : Chan) : (q.setChan v k).pages = q.pages := rfl
@[simp] theorem Part.setChan_freeFrames (q : Part) (v : Nat) (k : Chan) : (q.setChan v k).freeFrames = q.freeFrames := rfl
@[simp] theorem Part.setChan_outPages (q : Part) (v : Nat) (k : Chan) : (q.setChan v k).outPages = q.outPages := rfl
@[simp] theorem Part.setChan_outChans (q : Part) (v : Nat) (k : Chan) : (q.setChan v k).outChans = q.outChans := rfl
@[simp] theorem Part.setChan_t1Queue (q : Part) (v : Nat) (k : Chan) : (q.setChan v k).t1Queue = q.t1Queue := rfl
@[simp] theorem Part.setChan_served (q : Part) (v : Nat) (k : Chan) : (q.setChan v k).served = q.served := rfl
@[simp] theorem Part.setChan_queue (q : Part) (v : Nat) (k : Chan) : (q.setChan v k).queue = q.queue := rfl
@[simp] theorem Part.setChan_qfrozen (q : Part) (v : Nat) (k : Chan) : (q.setChan v k).qfrozen = q.qfrozen := rfl
@[simp] theorem Part.setChan_task (q : Part) (v : Nat) (k : Chan) : (q.setChan v k).task = q.task := rfl
@[simp] theorem Part.setChan_loading (q : Part) (v : Nat) (k : Chan) : (q.setChan v k).loading = q.loading := rfl
@[simp] theorem Part.setChan_loadedAt (q : Part) (v : Nat) (k : Chan) : (q.setChan v k).loadedAt = q.loadedAt := rfl
@[simp] theorem Part.setChan_loads (q : Part) (v : Nat) (k : Chan) : (q.setChan v k).loads = q.loads := rfl
@[simp] theorem Part.setChan_coreOf (q : Part) (v : Nat) (k : Chan) : (q.setChan v k).coreOf = q.coreOf := rfl
@[simp] theorem Part.setChan_banks (q : Part) (v : Nat) (k : Chan) : (q.setChan v k).banks = q.banks := rfl
@[simp] theorem Part.setChan_barriers (q : Part) (v : Nat) (k : Chan) : (q.setChan v k).barriers = q.barriers := rfl
@[simp] theorem Part.setChan_remotes (q : Part) (v : Nat) (k : Chan) : (q.setChan v k).remotes = q.remotes := rfl
@[simp] theorem Part.setChan_phase (q : Part) (v : Nat) (k : Chan) : (q.setChan v k).phase = q.phase := rfl
@[simp] theorem Part.setChan_phasedAt (q : Part) (v : Nat) (k : Chan) : (q.setChan v k).phasedAt = q.phasedAt := rfl
@[simp] theorem Part.setChan_leaves (q : Part) (v : Nat) (k : Chan) : (q.setChan v k).leaves = q.leaves := rfl
@[simp] theorem Part.setChan_clampOn (q : Part) (v : Nat) (k : Chan) : (q.setChan v k).clampOn = q.clampOn := rfl
@[simp] theorem Part.setChan_preempt (q : Part) (v : Nat) (k : Chan) : (q.setChan v k).preempt = q.preempt := rfl
@[simp] theorem Part.setChan_preemptTold (q : Part) (v : Nat) (k : Chan) : (q.setChan v k).preemptTold = q.preemptTold := rfl
@[simp] theorem Part.setChan_forceAlways (q : Part) (v : Nat) (k : Chan) : (q.setChan v k).forceAlways = q.forceAlways := rfl
@[simp] theorem Part.setChan_portMask (q : Part) (v : Nat) (k : Chan) : (q.setChan v k).portMask = q.portMask := rfl
@[simp] theorem Part.setChan_portLand (q : Part) (v : Nat) (k : Chan) : (q.setChan v k).portLand = q.portLand := rfl
@[simp] theorem Part.setChan_inbound (q : Part) (v : Nat) (k : Chan) : (q.setChan v k).inbound = q.inbound := rfl
@[simp] theorem Part.setChan_frec (q : Part) (v : Nat) (k : Chan) : (q.setChan v k).frec = q.frec := rfl
@[simp] theorem Part.setChan_handlerAt (q : Part) (v : Nat) (k : Chan) : (q.setChan v k).handlerAt = q.handlerAt := rfl
@[simp] theorem Part.setChan_failing (q : Part) (v : Nat) (k : Chan) : (q.setChan v k).failing = q.failing := rfl
@[simp] theorem Part.setChan_endAfter (q : Part) (v : Nat) (k : Chan) : (q.setChan v k).endAfter = q.endAfter := rfl
@[simp] theorem Part.setChan_wantRestore (q : Part) (v : Nat) (k : Chan) : (q.setChan v k).wantRestore = q.wantRestore := rfl
@[simp] theorem Part.setChan_resumeAt (q : Part) (v : Nat) (k : Chan) : (q.setChan v k).resumeAt = q.resumeAt := rfl
@[simp] theorem Part.setChan_pcmd (q : Part) (v : Nat) (k : Chan) : (q.setChan v k).pcmd = q.pcmd := rfl
@[simp] theorem Part.setChan_parg (q : Part) (v : Nat) (k : Chan) : (q.setChan v k).parg = q.parg := rfl
@[simp] theorem Part.setChan_pres (q : Part) (v : Nat) (k : Chan) : (q.setChan v k).pres = q.pres := rfl
@[simp] theorem Part.setChan_meter (q : Part) (v : Nat) (k : Chan) : (q.setChan v k).meter = q.meter := rfl
@[simp] theorem Part.setChan_meterHold (q : Part) (v : Nat) (k : Chan) : (q.setChan v k).meterHold = q.meterHold := rfl
@[simp] theorem Part.setChan_meterSat (q : Part) (v : Nat) (k : Chan) : (q.setChan v k).meterSat = q.meterSat := rfl
@[simp] theorem Part.setChan_facc (q : Part) (v : Nat) (k : Chan) : (q.setChan v k).facc = q.facc := rfl
@[simp] theorem Part.setChan_factOk (q : Part) (v : Nat) (k : Chan) : (q.setChan v k).factOk = q.factOk := rfl
@[simp] theorem Part.setChan_features (q : Part) (v : Nat) (k : Chan) : (q.setChan v k).features = q.features := rfl
@[simp] theorem Part.setChan_featuresNext (q : Part) (v : Nat) (k : Chan) : (q.setChan v k).featuresNext = q.featuresNext := rfl
@[simp] theorem Part.setChan_debug (q : Part) (v : Nat) (k : Chan) : (q.setChan v k).debug = q.debug := rfl
@[simp] theorem Part.setChan_breakMask (q : Part) (v : Nat) (k : Chan) : (q.setChan v k).breakMask = q.breakMask := rfl
@[simp] theorem Part.setChan_digest (q : Part) (v : Nat) (k : Chan) : (q.setChan v k).digest = q.digest := rfl
@[simp] theorem Part.setChan_corrupt (q : Part) (v : Nat) (k : Chan) : (q.setChan v k).corrupt = q.corrupt := rfl
@[simp] theorem Part.setChan_nodePage (q : Part) (v : Nat) (k : Chan) : (q.setChan v k).nodePage = q.nodePage := rfl
@[simp] theorem Part.setChan_nodeCount (q : Part) (v : Nat) (k : Chan) : (q.setChan v k).nodeCount = q.nodeCount := rfl

/-! ### Part.setBarrier -/

@[simp] theorem Part.setBarrier_live (q : Part) (b : Nat) (k : Barrier) : (q.setBarrier b k).live = q.live := rfl
@[simp] theorem Part.setBarrier_tenant (q : Part) (b : Nat) (k : Barrier) : (q.setBarrier b k).tenant = q.tenant := rfl
@[simp] theorem Part.setBarrier_cores (q : Part) (b : Nat) (k : Barrier) : (q.setBarrier b k).cores = q.cores := rfl
@[simp] theorem Part.setBarrier_channels (q : Part) (b : Nat) (k : Barrier) : (q.setBarrier b k).channels = q.channels := rfl
@[simp] theorem Part.setBarrier_group (q : Part) (b : Nat) (k : Barrier) : (q.setBarrier b k).group = q.group := rfl
@[simp] theorem Part.setBarrier_cls (q : Part) (b : Nat) (k : Barrier) : (q.setBarrier b k).cls = q.cls := rfl
@[simp] theorem Part.setBarrier_resid (q : Part) (b : Nat) (k : Barrier) : (q.setBarrier b k).resid = q.resid := rfl
@[simp] theorem Part.setBarrier_pt (q : Part) (b : Nat) (k : Barrier) : (q.setBarrier b k).pt = q.pt := rfl
@[simp] theorem Part.setBarrier_stage (q : Part) (b : Nat) (k : Barrier) : (q.setBarrier b k).stage = q.stage := rfl
@[simp] theorem Part.setBarrier_stops (q : Part) (b : Nat) (k : Barrier) : (q.setBarrier b k).stops = q.stops := rfl
@[simp] theorem Part.setBarrier_hold (q : Part) (b : Nat) (k : Barrier) : (q.setBarrier b k).hold = q.hold := rfl
@[simp] theorem Part.setBarrier_holdNext (q : Part) (b : Nat) (k : Barrier) : (q.setBarrier b k).holdNext = q.holdNext := rfl
@[simp] theorem Part.setBarrier_holdAsked (q : Part) (b : Nat) (k : Barrier) : (q.setBarrier b k).holdAsked = q.holdAsked := rfl
@[simp] theorem Part.setBarrier_holdTold (q : Part) (b : Nat) (k : Barrier) : (q.setBarrier b k).holdTold = q.holdTold := rfl
@[simp] theorem Part.setBarrier_policy (q : Part) (b : Nat) (k : Barrier) : (q.setBarrier b k).policy = q.policy := rfl
@[simp] theorem Part.setBarrier_alignAt (q : Part) (b : Nat) (k : Barrier) : (q.setBarrier b k).alignAt = q.alignAt := rfl
@[simp] theorem Part.setBarrier_flitTo (q : Part) (b : Nat) (k : Barrier) : (q.setBarrier b k).flitTo = q.flitTo := rfl
@[simp] theorem Part.setBarrier_readyAt (q : Part) (b : Nat) (k : Barrier) : (q.setBarrier b k).readyAt = q.readyAt := rfl
@[simp] theorem Part.setBarrier_readies (q : Part) (b : Nat) (k : Barrier) : (q.setBarrier b k).readies = q.readies := rfl
@[simp] theorem Part.setBarrier_excused (q : Part) (b : Nat) (k : Barrier) : (q.setBarrier b k).excused = q.excused := rfl
@[simp] theorem Part.setBarrier_awayKi (q : Part) (b : Nat) (k : Barrier) : (q.setBarrier b k).awayKi = q.awayKi := rfl
@[simp] theorem Part.setBarrier_peers (q : Part) (b : Nat) (k : Barrier) : (q.setBarrier b k).peers = q.peers := rfl
@[simp] theorem Part.setBarrier_noticeAt (q : Part) (b : Nat) (k : Barrier) : (q.setBarrier b k).noticeAt = q.noticeAt := rfl
@[simp] theorem Part.setBarrier_pauses (q : Part) (b : Nat) (k : Barrier) : (q.setBarrier b k).pauses = q.pauses := rfl
@[simp] theorem Part.setBarrier_debts (q : Part) (b : Nat) (k : Barrier) : (q.setBarrier b k).debts = q.debts := rfl
@[simp] theorem Part.setBarrier_losing (q : Part) (b : Nat) (k : Barrier) : (q.setBarrier b k).losing = q.losing := rfl
@[simp] theorem Part.setBarrier_away (q : Part) (b : Nat) (k : Barrier) : (q.setBarrier b k).away = q.away := rfl
@[simp] theorem Part.setBarrier_mates (q : Part) (b : Nat) (k : Barrier) : (q.setBarrier b k).mates = q.mates := rfl
@[simp] theorem Part.setBarrier_coreTable (q : Part) (b : Nat) (k : Barrier) : (q.setBarrier b k).coreTable = q.coreTable := rfl
@[simp] theorem Part.setBarrier_chanTable (q : Part) (b : Nat) (k : Barrier) : (q.setBarrier b k).chanTable = q.chanTable := rfl
@[simp] theorem Part.setBarrier_service (q : Part) (b : Nat) (k : Barrier) : (q.setBarrier b k).service = q.service := rfl
@[simp] theorem Part.setBarrier_pages (q : Part) (b : Nat) (k : Barrier) : (q.setBarrier b k).pages = q.pages := rfl
@[simp] theorem Part.setBarrier_freeFrames (q : Part) (b : Nat) (k : Barrier) : (q.setBarrier b k).freeFrames = q.freeFrames := rfl
@[simp] theorem Part.setBarrier_outPages (q : Part) (b : Nat) (k : Barrier) : (q.setBarrier b k).outPages = q.outPages := rfl
@[simp] theorem Part.setBarrier_outChans (q : Part) (b : Nat) (k : Barrier) : (q.setBarrier b k).outChans = q.outChans := rfl
@[simp] theorem Part.setBarrier_t1Queue (q : Part) (b : Nat) (k : Barrier) : (q.setBarrier b k).t1Queue = q.t1Queue := rfl
@[simp] theorem Part.setBarrier_served (q : Part) (b : Nat) (k : Barrier) : (q.setBarrier b k).served = q.served := rfl
@[simp] theorem Part.setBarrier_queue (q : Part) (b : Nat) (k : Barrier) : (q.setBarrier b k).queue = q.queue := rfl
@[simp] theorem Part.setBarrier_qfrozen (q : Part) (b : Nat) (k : Barrier) : (q.setBarrier b k).qfrozen = q.qfrozen := rfl
@[simp] theorem Part.setBarrier_task (q : Part) (b : Nat) (k : Barrier) : (q.setBarrier b k).task = q.task := rfl
@[simp] theorem Part.setBarrier_loading (q : Part) (b : Nat) (k : Barrier) : (q.setBarrier b k).loading = q.loading := rfl
@[simp] theorem Part.setBarrier_loadedAt (q : Part) (b : Nat) (k : Barrier) : (q.setBarrier b k).loadedAt = q.loadedAt := rfl
@[simp] theorem Part.setBarrier_loads (q : Part) (b : Nat) (k : Barrier) : (q.setBarrier b k).loads = q.loads := rfl
@[simp] theorem Part.setBarrier_coreOf (q : Part) (b : Nat) (k : Barrier) : (q.setBarrier b k).coreOf = q.coreOf := rfl
@[simp] theorem Part.setBarrier_banks (q : Part) (b : Nat) (k : Barrier) : (q.setBarrier b k).banks = q.banks := rfl
@[simp] theorem Part.setBarrier_chans (q : Part) (b : Nat) (k : Barrier) : (q.setBarrier b k).chans = q.chans := rfl
@[simp] theorem Part.setBarrier_remotes (q : Part) (b : Nat) (k : Barrier) : (q.setBarrier b k).remotes = q.remotes := rfl
@[simp] theorem Part.setBarrier_phase (q : Part) (b : Nat) (k : Barrier) : (q.setBarrier b k).phase = q.phase := rfl
@[simp] theorem Part.setBarrier_phasedAt (q : Part) (b : Nat) (k : Barrier) : (q.setBarrier b k).phasedAt = q.phasedAt := rfl
@[simp] theorem Part.setBarrier_leaves (q : Part) (b : Nat) (k : Barrier) : (q.setBarrier b k).leaves = q.leaves := rfl
@[simp] theorem Part.setBarrier_clampOn (q : Part) (b : Nat) (k : Barrier) : (q.setBarrier b k).clampOn = q.clampOn := rfl
@[simp] theorem Part.setBarrier_preempt (q : Part) (b : Nat) (k : Barrier) : (q.setBarrier b k).preempt = q.preempt := rfl
@[simp] theorem Part.setBarrier_preemptTold (q : Part) (b : Nat) (k : Barrier) : (q.setBarrier b k).preemptTold = q.preemptTold := rfl
@[simp] theorem Part.setBarrier_forceAlways (q : Part) (b : Nat) (k : Barrier) : (q.setBarrier b k).forceAlways = q.forceAlways := rfl
@[simp] theorem Part.setBarrier_portMask (q : Part) (b : Nat) (k : Barrier) : (q.setBarrier b k).portMask = q.portMask := rfl
@[simp] theorem Part.setBarrier_portLand (q : Part) (b : Nat) (k : Barrier) : (q.setBarrier b k).portLand = q.portLand := rfl
@[simp] theorem Part.setBarrier_inbound (q : Part) (b : Nat) (k : Barrier) : (q.setBarrier b k).inbound = q.inbound := rfl
@[simp] theorem Part.setBarrier_frec (q : Part) (b : Nat) (k : Barrier) : (q.setBarrier b k).frec = q.frec := rfl
@[simp] theorem Part.setBarrier_handlerAt (q : Part) (b : Nat) (k : Barrier) : (q.setBarrier b k).handlerAt = q.handlerAt := rfl
@[simp] theorem Part.setBarrier_failing (q : Part) (b : Nat) (k : Barrier) : (q.setBarrier b k).failing = q.failing := rfl
@[simp] theorem Part.setBarrier_endAfter (q : Part) (b : Nat) (k : Barrier) : (q.setBarrier b k).endAfter = q.endAfter := rfl
@[simp] theorem Part.setBarrier_wantRestore (q : Part) (b : Nat) (k : Barrier) : (q.setBarrier b k).wantRestore = q.wantRestore := rfl
@[simp] theorem Part.setBarrier_resumeAt (q : Part) (b : Nat) (k : Barrier) : (q.setBarrier b k).resumeAt = q.resumeAt := rfl
@[simp] theorem Part.setBarrier_pcmd (q : Part) (b : Nat) (k : Barrier) : (q.setBarrier b k).pcmd = q.pcmd := rfl
@[simp] theorem Part.setBarrier_parg (q : Part) (b : Nat) (k : Barrier) : (q.setBarrier b k).parg = q.parg := rfl
@[simp] theorem Part.setBarrier_pres (q : Part) (b : Nat) (k : Barrier) : (q.setBarrier b k).pres = q.pres := rfl
@[simp] theorem Part.setBarrier_meter (q : Part) (b : Nat) (k : Barrier) : (q.setBarrier b k).meter = q.meter := rfl
@[simp] theorem Part.setBarrier_meterHold (q : Part) (b : Nat) (k : Barrier) : (q.setBarrier b k).meterHold = q.meterHold := rfl
@[simp] theorem Part.setBarrier_meterSat (q : Part) (b : Nat) (k : Barrier) : (q.setBarrier b k).meterSat = q.meterSat := rfl
@[simp] theorem Part.setBarrier_facc (q : Part) (b : Nat) (k : Barrier) : (q.setBarrier b k).facc = q.facc := rfl
@[simp] theorem Part.setBarrier_factOk (q : Part) (b : Nat) (k : Barrier) : (q.setBarrier b k).factOk = q.factOk := rfl
@[simp] theorem Part.setBarrier_features (q : Part) (b : Nat) (k : Barrier) : (q.setBarrier b k).features = q.features := rfl
@[simp] theorem Part.setBarrier_featuresNext (q : Part) (b : Nat) (k : Barrier) : (q.setBarrier b k).featuresNext = q.featuresNext := rfl
@[simp] theorem Part.setBarrier_debug (q : Part) (b : Nat) (k : Barrier) : (q.setBarrier b k).debug = q.debug := rfl
@[simp] theorem Part.setBarrier_breakMask (q : Part) (b : Nat) (k : Barrier) : (q.setBarrier b k).breakMask = q.breakMask := rfl
@[simp] theorem Part.setBarrier_digest (q : Part) (b : Nat) (k : Barrier) : (q.setBarrier b k).digest = q.digest := rfl
@[simp] theorem Part.setBarrier_corrupt (q : Part) (b : Nat) (k : Barrier) : (q.setBarrier b k).corrupt = q.corrupt := rfl
@[simp] theorem Part.setBarrier_nodePage (q : Part) (b : Nat) (k : Barrier) : (q.setBarrier b k).nodePage = q.nodePage := rfl
@[simp] theorem Part.setBarrier_nodeCount (q : Part) (b : Nat) (k : Barrier) : (q.setBarrier b k).nodeCount = q.nodeCount := rfl

/-! ### Core.sched -/

@[simp] theorem Core.sched_cond (k : Core) (e : Pend) : (k.sched e).cond = k.cond := rfl
@[simp] theorem Core.sched_sregs (k : Core) (e : Pend) : (k.sched e).sregs = k.sregs := rfl
@[simp] theorem Core.sched_kregs (k : Core) (e : Pend) : (k.sched e).kregs = k.kregs := rfl
@[simp] theorem Core.sched_vregs (k : Core) (e : Pend) : (k.sched e).vregs = k.vregs := rfl
@[simp] theorem Core.sched_wregs (k : Core) (e : Pend) : (k.sched e).wregs = k.wregs := rfl
@[simp] theorem Core.sched_iaregs (k : Core) (e : Pend) : (k.sched e).iaregs = k.iaregs := rfl
@[simp] theorem Core.sched_ibregs (k : Core) (e : Pend) : (k.sched e).ibregs = k.ibregs := rfl
@[simp] theorem Core.sched_imregs (k : Core) (e : Pend) : (k.sched e).imregs = k.imregs := rfl
@[simp] theorem Core.sched_pregs (k : Core) (e : Pend) : (k.sched e).pregs = k.pregs := rfl
@[simp] theorem Core.sched_xregs (k : Core) (e : Pend) : (k.sched e).xregs = k.xregs := rfl
@[simp] theorem Core.sched_yregs (k : Core) (e : Pend) : (k.sched e).yregs = k.yregs := rfl
@[simp] theorem Core.sched_zregs (k : Core) (e : Pend) : (k.sched e).zregs = k.zregs := rfl
@[simp] theorem Core.sched_qregs (k : Core) (e : Pend) : (k.sched e).qregs = k.qregs := rfl
@[simp] theorem Core.sched_hregs (k : Core) (e : Pend) : (k.sched e).hregs = k.hregs := rfl
@[simp] theorem Core.sched_fmt (k : Core) (e : Pend) : (k.sched e).fmt = k.fmt := rfl
@[simp] theorem Core.sched_g (k : Core) (e : Pend) : (k.sched e).g = k.g := rfl
@[simp] theorem Core.sched_wa (k : Core) (e : Pend) : (k.sched e).wa = k.wa := rfl
@[simp] theorem Core.sched_wb (k : Core) (e : Pend) : (k.sched e).wb = k.wb := rfl
@[simp] theorem Core.sched_scratch (k : Core) (e : Pend) : (k.sched e).scratch = k.scratch := rfl
@[simp] theorem Core.sched_bstore (k : Core) (e : Pend) : (k.sched e).bstore = k.bstore := rfl
@[simp] theorem Core.sched_store (k : Core) (e : Pend) : (k.sched e).store = k.store := rfl
@[simp] theorem Core.sched_limit (k : Core) (e : Pend) : (k.sched e).limit = k.limit := rfl
@[simp] theorem Core.sched_entry (k : Core) (e : Pend) : (k.sched e).entry = k.entry := rfl
@[simp] theorem Core.sched_cur (k : Core) (e : Pend) : (k.sched e).cur = k.cur := rfl
@[simp] theorem Core.sched_next (k : Core) (e : Pend) : (k.sched e).next = k.next := rfl
@[simp] theorem Core.sched_header (k : Core) (e : Pend) : (k.sched e).header = k.header := rfl
@[simp] theorem Core.sched_rep (k : Core) (e : Pend) : (k.sched e).rep = k.rep := rfl
@[simp] theorem Core.sched_sticky (k : Core) (e : Pend) : (k.sched e).sticky = k.sticky := rfl
@[simp] theorem Core.sched_pending (k : Core) (e : Pend) : (k.sched e).pending = k.pending := rfl
@[simp] theorem Core.sched_rstack (k : Core) (e : Pend) : (k.sched e).rstack = k.rstack := rfl
@[simp] theorem Core.sched_loop (k : Core) (e : Pend) : (k.sched e).loop = k.loop := rfl
@[simp] theorem Core.sched_clamp (k : Core) (e : Pend) : (k.sched e).clamp = k.clamp := rfl
@[simp] theorem Core.sched_parkAt (k : Core) (e : Pend) : (k.sched e).parkAt = k.parkAt := rfl
@[simp] theorem Core.sched_leaving (k : Core) (e : Pend) : (k.sched e).leaving = k.leaving := rfl
@[simp] theorem Core.sched_broke (k : Core) (e : Pend) : (k.sched e).broke = k.broke := rfl
@[simp] theorem Core.sched_reported (k : Core) (e : Pend) : (k.sched e).reported = k.reported := rfl
@[simp] theorem Core.sched_bankUsed (k : Core) (e : Pend) : (k.sched e).bankUsed = k.bankUsed := rfl
@[simp] theorem Core.sched_domains (k : Core) (e : Pend) : (k.sched e).domains = k.domains := rfl
@[simp] theorem Core.sched_wakes (k : Core) (e : Pend) : (k.sched e).wakes = k.wakes := rfl
@[simp] theorem Core.sched_lastMul (k : Core) (e : Pend) : (k.sched e).lastMul = k.lastMul := rfl
@[simp] theorem Core.sched_notices (k : Core) (e : Pend) : (k.sched e).notices = k.notices := rfl
@[simp] theorem Core.sched_shadow (k : Core) (e : Pend) : (k.sched e).shadow = k.shadow := rfl
@[simp] theorem Core.sched_poison (k : Core) (e : Pend) : (k.sched e).poison = k.poison := rfl
@[simp] theorem Core.sched_bad (k : Core) (e : Pend) : (k.sched e).bad = k.bad := rfl
@[simp] theorem Core.sched_touches (k : Core) (e : Pend) : (k.sched e).touches = k.touches := rfl
@[simp] theorem Core.sched_mldqBuf (k : Core) (e : Pend) : (k.sched e).mldqBuf = k.mldqBuf := rfl
@[simp] theorem Core.sched_tlb (k : Core) (e : Pend) : (k.sched e).tlb = k.tlb := rfl
@[simp] theorem Core.sched_cmds (k : Core) (e : Pend) : (k.sched e).cmds = k.cmds := rfl
@[simp] theorem Core.sched_cmdCount (k : Core) (e : Pend) : (k.sched e).cmdCount = k.cmdCount := rfl
@[simp] theorem Core.sched_fences (k : Core) (e : Pend) : (k.sched e).fences = k.fences := rfl
@[simp] theorem Core.sched_launches (k : Core) (e : Pend) : (k.sched e).launches = k.launches := rfl

/-! ### Core.issue -/

@[simp] theorem Core.issue_cond (k : Core) (ipt slot : Nat) (es : List (Nat × Eff)) : (k.issue ipt slot es).cond = k.cond := rfl
@[simp] theorem Core.issue_sregs (k : Core) (ipt slot : Nat) (es : List (Nat × Eff)) : (k.issue ipt slot es).sregs = k.sregs := rfl
@[simp] theorem Core.issue_kregs (k : Core) (ipt slot : Nat) (es : List (Nat × Eff)) : (k.issue ipt slot es).kregs = k.kregs := rfl
@[simp] theorem Core.issue_vregs (k : Core) (ipt slot : Nat) (es : List (Nat × Eff)) : (k.issue ipt slot es).vregs = k.vregs := rfl
@[simp] theorem Core.issue_wregs (k : Core) (ipt slot : Nat) (es : List (Nat × Eff)) : (k.issue ipt slot es).wregs = k.wregs := rfl
@[simp] theorem Core.issue_iaregs (k : Core) (ipt slot : Nat) (es : List (Nat × Eff)) : (k.issue ipt slot es).iaregs = k.iaregs := rfl
@[simp] theorem Core.issue_ibregs (k : Core) (ipt slot : Nat) (es : List (Nat × Eff)) : (k.issue ipt slot es).ibregs = k.ibregs := rfl
@[simp] theorem Core.issue_imregs (k : Core) (ipt slot : Nat) (es : List (Nat × Eff)) : (k.issue ipt slot es).imregs = k.imregs := rfl
@[simp] theorem Core.issue_pregs (k : Core) (ipt slot : Nat) (es : List (Nat × Eff)) : (k.issue ipt slot es).pregs = k.pregs := rfl
@[simp] theorem Core.issue_xregs (k : Core) (ipt slot : Nat) (es : List (Nat × Eff)) : (k.issue ipt slot es).xregs = k.xregs := rfl
@[simp] theorem Core.issue_yregs (k : Core) (ipt slot : Nat) (es : List (Nat × Eff)) : (k.issue ipt slot es).yregs = k.yregs := rfl
@[simp] theorem Core.issue_zregs (k : Core) (ipt slot : Nat) (es : List (Nat × Eff)) : (k.issue ipt slot es).zregs = k.zregs := rfl
@[simp] theorem Core.issue_qregs (k : Core) (ipt slot : Nat) (es : List (Nat × Eff)) : (k.issue ipt slot es).qregs = k.qregs := rfl
@[simp] theorem Core.issue_hregs (k : Core) (ipt slot : Nat) (es : List (Nat × Eff)) : (k.issue ipt slot es).hregs = k.hregs := rfl
@[simp] theorem Core.issue_fmt (k : Core) (ipt slot : Nat) (es : List (Nat × Eff)) : (k.issue ipt slot es).fmt = k.fmt := rfl
@[simp] theorem Core.issue_g (k : Core) (ipt slot : Nat) (es : List (Nat × Eff)) : (k.issue ipt slot es).g = k.g := rfl
@[simp] theorem Core.issue_wa (k : Core) (ipt slot : Nat) (es : List (Nat × Eff)) : (k.issue ipt slot es).wa = k.wa := rfl
@[simp] theorem Core.issue_wb (k : Core) (ipt slot : Nat) (es : List (Nat × Eff)) : (k.issue ipt slot es).wb = k.wb := rfl
@[simp] theorem Core.issue_scratch (k : Core) (ipt slot : Nat) (es : List (Nat × Eff)) : (k.issue ipt slot es).scratch = k.scratch := rfl
@[simp] theorem Core.issue_bstore (k : Core) (ipt slot : Nat) (es : List (Nat × Eff)) : (k.issue ipt slot es).bstore = k.bstore := rfl
@[simp] theorem Core.issue_store (k : Core) (ipt slot : Nat) (es : List (Nat × Eff)) : (k.issue ipt slot es).store = k.store := rfl
@[simp] theorem Core.issue_limit (k : Core) (ipt slot : Nat) (es : List (Nat × Eff)) : (k.issue ipt slot es).limit = k.limit := rfl
@[simp] theorem Core.issue_entry (k : Core) (ipt slot : Nat) (es : List (Nat × Eff)) : (k.issue ipt slot es).entry = k.entry := rfl
@[simp] theorem Core.issue_cur (k : Core) (ipt slot : Nat) (es : List (Nat × Eff)) : (k.issue ipt slot es).cur = k.cur := rfl
@[simp] theorem Core.issue_next (k : Core) (ipt slot : Nat) (es : List (Nat × Eff)) : (k.issue ipt slot es).next = k.next := rfl
@[simp] theorem Core.issue_header (k : Core) (ipt slot : Nat) (es : List (Nat × Eff)) : (k.issue ipt slot es).header = k.header := rfl
@[simp] theorem Core.issue_rep (k : Core) (ipt slot : Nat) (es : List (Nat × Eff)) : (k.issue ipt slot es).rep = k.rep := rfl
@[simp] theorem Core.issue_sticky (k : Core) (ipt slot : Nat) (es : List (Nat × Eff)) : (k.issue ipt slot es).sticky = k.sticky := rfl
@[simp] theorem Core.issue_pending (k : Core) (ipt slot : Nat) (es : List (Nat × Eff)) : (k.issue ipt slot es).pending = k.pending := rfl
@[simp] theorem Core.issue_rstack (k : Core) (ipt slot : Nat) (es : List (Nat × Eff)) : (k.issue ipt slot es).rstack = k.rstack := rfl
@[simp] theorem Core.issue_loop (k : Core) (ipt slot : Nat) (es : List (Nat × Eff)) : (k.issue ipt slot es).loop = k.loop := rfl
@[simp] theorem Core.issue_clamp (k : Core) (ipt slot : Nat) (es : List (Nat × Eff)) : (k.issue ipt slot es).clamp = k.clamp := rfl
@[simp] theorem Core.issue_parkAt (k : Core) (ipt slot : Nat) (es : List (Nat × Eff)) : (k.issue ipt slot es).parkAt = k.parkAt := rfl
@[simp] theorem Core.issue_leaving (k : Core) (ipt slot : Nat) (es : List (Nat × Eff)) : (k.issue ipt slot es).leaving = k.leaving := rfl
@[simp] theorem Core.issue_broke (k : Core) (ipt slot : Nat) (es : List (Nat × Eff)) : (k.issue ipt slot es).broke = k.broke := rfl
@[simp] theorem Core.issue_reported (k : Core) (ipt slot : Nat) (es : List (Nat × Eff)) : (k.issue ipt slot es).reported = k.reported := rfl
@[simp] theorem Core.issue_bankUsed (k : Core) (ipt slot : Nat) (es : List (Nat × Eff)) : (k.issue ipt slot es).bankUsed = k.bankUsed := rfl
@[simp] theorem Core.issue_domains (k : Core) (ipt slot : Nat) (es : List (Nat × Eff)) : (k.issue ipt slot es).domains = k.domains := rfl
@[simp] theorem Core.issue_wakes (k : Core) (ipt slot : Nat) (es : List (Nat × Eff)) : (k.issue ipt slot es).wakes = k.wakes := rfl
@[simp] theorem Core.issue_lastMul (k : Core) (ipt slot : Nat) (es : List (Nat × Eff)) : (k.issue ipt slot es).lastMul = k.lastMul := rfl
@[simp] theorem Core.issue_notices (k : Core) (ipt slot : Nat) (es : List (Nat × Eff)) : (k.issue ipt slot es).notices = k.notices := rfl
@[simp] theorem Core.issue_shadow (k : Core) (ipt slot : Nat) (es : List (Nat × Eff)) : (k.issue ipt slot es).shadow = k.shadow := rfl
@[simp] theorem Core.issue_poison (k : Core) (ipt slot : Nat) (es : List (Nat × Eff)) : (k.issue ipt slot es).poison = k.poison := rfl
@[simp] theorem Core.issue_bad (k : Core) (ipt slot : Nat) (es : List (Nat × Eff)) : (k.issue ipt slot es).bad = k.bad := rfl
@[simp] theorem Core.issue_touches (k : Core) (ipt slot : Nat) (es : List (Nat × Eff)) : (k.issue ipt slot es).touches = k.touches := rfl
@[simp] theorem Core.issue_mldqBuf (k : Core) (ipt slot : Nat) (es : List (Nat × Eff)) : (k.issue ipt slot es).mldqBuf = k.mldqBuf := rfl
@[simp] theorem Core.issue_tlb (k : Core) (ipt slot : Nat) (es : List (Nat × Eff)) : (k.issue ipt slot es).tlb = k.tlb := rfl
@[simp] theorem Core.issue_cmds (k : Core) (ipt slot : Nat) (es : List (Nat × Eff)) : (k.issue ipt slot es).cmds = k.cmds := rfl
@[simp] theorem Core.issue_cmdCount (k : Core) (ipt slot : Nat) (es : List (Nat × Eff)) : (k.issue ipt slot es).cmdCount = k.cmdCount := rfl
@[simp] theorem Core.issue_fences (k : Core) (ipt slot : Nat) (es : List (Nat × Eff)) : (k.issue ipt slot es).fences = k.fences := rfl
@[simp] theorem Core.issue_launches (k : Core) (ipt slot : Nat) (es : List (Nat × Eff)) : (k.issue ipt slot es).launches = k.launches := rfl

/-! ### Core.reserve -/

@[simp] theorem Core.reserve_cond (k : Core) (ts : List Touch) : (k.reserve ts).cond = k.cond := rfl
@[simp] theorem Core.reserve_sregs (k : Core) (ts : List Touch) : (k.reserve ts).sregs = k.sregs := rfl
@[simp] theorem Core.reserve_kregs (k : Core) (ts : List Touch) : (k.reserve ts).kregs = k.kregs := rfl
@[simp] theorem Core.reserve_vregs (k : Core) (ts : List Touch) : (k.reserve ts).vregs = k.vregs := rfl
@[simp] theorem Core.reserve_wregs (k : Core) (ts : List Touch) : (k.reserve ts).wregs = k.wregs := rfl
@[simp] theorem Core.reserve_iaregs (k : Core) (ts : List Touch) : (k.reserve ts).iaregs = k.iaregs := rfl
@[simp] theorem Core.reserve_ibregs (k : Core) (ts : List Touch) : (k.reserve ts).ibregs = k.ibregs := rfl
@[simp] theorem Core.reserve_imregs (k : Core) (ts : List Touch) : (k.reserve ts).imregs = k.imregs := rfl
@[simp] theorem Core.reserve_pregs (k : Core) (ts : List Touch) : (k.reserve ts).pregs = k.pregs := rfl
@[simp] theorem Core.reserve_xregs (k : Core) (ts : List Touch) : (k.reserve ts).xregs = k.xregs := rfl
@[simp] theorem Core.reserve_yregs (k : Core) (ts : List Touch) : (k.reserve ts).yregs = k.yregs := rfl
@[simp] theorem Core.reserve_zregs (k : Core) (ts : List Touch) : (k.reserve ts).zregs = k.zregs := rfl
@[simp] theorem Core.reserve_qregs (k : Core) (ts : List Touch) : (k.reserve ts).qregs = k.qregs := rfl
@[simp] theorem Core.reserve_hregs (k : Core) (ts : List Touch) : (k.reserve ts).hregs = k.hregs := rfl
@[simp] theorem Core.reserve_fmt (k : Core) (ts : List Touch) : (k.reserve ts).fmt = k.fmt := rfl
@[simp] theorem Core.reserve_g (k : Core) (ts : List Touch) : (k.reserve ts).g = k.g := rfl
@[simp] theorem Core.reserve_wa (k : Core) (ts : List Touch) : (k.reserve ts).wa = k.wa := rfl
@[simp] theorem Core.reserve_wb (k : Core) (ts : List Touch) : (k.reserve ts).wb = k.wb := rfl
@[simp] theorem Core.reserve_scratch (k : Core) (ts : List Touch) : (k.reserve ts).scratch = k.scratch := rfl
@[simp] theorem Core.reserve_bstore (k : Core) (ts : List Touch) : (k.reserve ts).bstore = k.bstore := rfl
@[simp] theorem Core.reserve_store (k : Core) (ts : List Touch) : (k.reserve ts).store = k.store := rfl
@[simp] theorem Core.reserve_limit (k : Core) (ts : List Touch) : (k.reserve ts).limit = k.limit := rfl
@[simp] theorem Core.reserve_entry (k : Core) (ts : List Touch) : (k.reserve ts).entry = k.entry := rfl
@[simp] theorem Core.reserve_cur (k : Core) (ts : List Touch) : (k.reserve ts).cur = k.cur := rfl
@[simp] theorem Core.reserve_next (k : Core) (ts : List Touch) : (k.reserve ts).next = k.next := rfl
@[simp] theorem Core.reserve_header (k : Core) (ts : List Touch) : (k.reserve ts).header = k.header := rfl
@[simp] theorem Core.reserve_rep (k : Core) (ts : List Touch) : (k.reserve ts).rep = k.rep := rfl
@[simp] theorem Core.reserve_sticky (k : Core) (ts : List Touch) : (k.reserve ts).sticky = k.sticky := rfl
@[simp] theorem Core.reserve_pending (k : Core) (ts : List Touch) : (k.reserve ts).pending = k.pending := rfl
@[simp] theorem Core.reserve_rstack (k : Core) (ts : List Touch) : (k.reserve ts).rstack = k.rstack := rfl
@[simp] theorem Core.reserve_loop (k : Core) (ts : List Touch) : (k.reserve ts).loop = k.loop := rfl
@[simp] theorem Core.reserve_clamp (k : Core) (ts : List Touch) : (k.reserve ts).clamp = k.clamp := rfl
@[simp] theorem Core.reserve_parkAt (k : Core) (ts : List Touch) : (k.reserve ts).parkAt = k.parkAt := rfl
@[simp] theorem Core.reserve_leaving (k : Core) (ts : List Touch) : (k.reserve ts).leaving = k.leaving := rfl
@[simp] theorem Core.reserve_broke (k : Core) (ts : List Touch) : (k.reserve ts).broke = k.broke := rfl
@[simp] theorem Core.reserve_reported (k : Core) (ts : List Touch) : (k.reserve ts).reported = k.reported := rfl
@[simp] theorem Core.reserve_bankUsed (k : Core) (ts : List Touch) : (k.reserve ts).bankUsed = k.bankUsed := rfl
@[simp] theorem Core.reserve_domains (k : Core) (ts : List Touch) : (k.reserve ts).domains = k.domains := rfl
@[simp] theorem Core.reserve_wakes (k : Core) (ts : List Touch) : (k.reserve ts).wakes = k.wakes := rfl
@[simp] theorem Core.reserve_lastMul (k : Core) (ts : List Touch) : (k.reserve ts).lastMul = k.lastMul := rfl
@[simp] theorem Core.reserve_notices (k : Core) (ts : List Touch) : (k.reserve ts).notices = k.notices := rfl
@[simp] theorem Core.reserve_shadow (k : Core) (ts : List Touch) : (k.reserve ts).shadow = k.shadow := rfl
@[simp] theorem Core.reserve_poison (k : Core) (ts : List Touch) : (k.reserve ts).poison = k.poison := rfl
@[simp] theorem Core.reserve_bad (k : Core) (ts : List Touch) : (k.reserve ts).bad = k.bad := rfl
@[simp] theorem Core.reserve_pend (k : Core) (ts : List Touch) : (k.reserve ts).pend = k.pend := rfl
@[simp] theorem Core.reserve_mldqBuf (k : Core) (ts : List Touch) : (k.reserve ts).mldqBuf = k.mldqBuf := rfl
@[simp] theorem Core.reserve_tlb (k : Core) (ts : List Touch) : (k.reserve ts).tlb = k.tlb := rfl
@[simp] theorem Core.reserve_cmds (k : Core) (ts : List Touch) : (k.reserve ts).cmds = k.cmds := rfl
@[simp] theorem Core.reserve_cmdCount (k : Core) (ts : List Touch) : (k.reserve ts).cmdCount = k.cmdCount := rfl
@[simp] theorem Core.reserve_fences (k : Core) (ts : List Touch) : (k.reserve ts).fences = k.fences := rfl
@[simp] theorem Core.reserve_launches (k : Core) (ts : List Touch) : (k.reserve ts).launches = k.launches := rfl

/-! ### Core.setSlot -/

@[simp] theorem Core.setSlot_cond (k : Core) (sl : Nat) (st : Sticky) : (k.setSlot sl st).cond = k.cond := rfl
@[simp] theorem Core.setSlot_sregs (k : Core) (sl : Nat) (st : Sticky) : (k.setSlot sl st).sregs = k.sregs := rfl
@[simp] theorem Core.setSlot_kregs (k : Core) (sl : Nat) (st : Sticky) : (k.setSlot sl st).kregs = k.kregs := rfl
@[simp] theorem Core.setSlot_vregs (k : Core) (sl : Nat) (st : Sticky) : (k.setSlot sl st).vregs = k.vregs := rfl
@[simp] theorem Core.setSlot_wregs (k : Core) (sl : Nat) (st : Sticky) : (k.setSlot sl st).wregs = k.wregs := rfl
@[simp] theorem Core.setSlot_iaregs (k : Core) (sl : Nat) (st : Sticky) : (k.setSlot sl st).iaregs = k.iaregs := rfl
@[simp] theorem Core.setSlot_ibregs (k : Core) (sl : Nat) (st : Sticky) : (k.setSlot sl st).ibregs = k.ibregs := rfl
@[simp] theorem Core.setSlot_imregs (k : Core) (sl : Nat) (st : Sticky) : (k.setSlot sl st).imregs = k.imregs := rfl
@[simp] theorem Core.setSlot_pregs (k : Core) (sl : Nat) (st : Sticky) : (k.setSlot sl st).pregs = k.pregs := rfl
@[simp] theorem Core.setSlot_xregs (k : Core) (sl : Nat) (st : Sticky) : (k.setSlot sl st).xregs = k.xregs := rfl
@[simp] theorem Core.setSlot_yregs (k : Core) (sl : Nat) (st : Sticky) : (k.setSlot sl st).yregs = k.yregs := rfl
@[simp] theorem Core.setSlot_zregs (k : Core) (sl : Nat) (st : Sticky) : (k.setSlot sl st).zregs = k.zregs := rfl
@[simp] theorem Core.setSlot_qregs (k : Core) (sl : Nat) (st : Sticky) : (k.setSlot sl st).qregs = k.qregs := rfl
@[simp] theorem Core.setSlot_hregs (k : Core) (sl : Nat) (st : Sticky) : (k.setSlot sl st).hregs = k.hregs := rfl
@[simp] theorem Core.setSlot_fmt (k : Core) (sl : Nat) (st : Sticky) : (k.setSlot sl st).fmt = k.fmt := rfl
@[simp] theorem Core.setSlot_g (k : Core) (sl : Nat) (st : Sticky) : (k.setSlot sl st).g = k.g := rfl
@[simp] theorem Core.setSlot_wa (k : Core) (sl : Nat) (st : Sticky) : (k.setSlot sl st).wa = k.wa := rfl
@[simp] theorem Core.setSlot_wb (k : Core) (sl : Nat) (st : Sticky) : (k.setSlot sl st).wb = k.wb := rfl
@[simp] theorem Core.setSlot_scratch (k : Core) (sl : Nat) (st : Sticky) : (k.setSlot sl st).scratch = k.scratch := rfl
@[simp] theorem Core.setSlot_bstore (k : Core) (sl : Nat) (st : Sticky) : (k.setSlot sl st).bstore = k.bstore := rfl
@[simp] theorem Core.setSlot_store (k : Core) (sl : Nat) (st : Sticky) : (k.setSlot sl st).store = k.store := rfl
@[simp] theorem Core.setSlot_limit (k : Core) (sl : Nat) (st : Sticky) : (k.setSlot sl st).limit = k.limit := rfl
@[simp] theorem Core.setSlot_entry (k : Core) (sl : Nat) (st : Sticky) : (k.setSlot sl st).entry = k.entry := rfl
@[simp] theorem Core.setSlot_cur (k : Core) (sl : Nat) (st : Sticky) : (k.setSlot sl st).cur = k.cur := rfl
@[simp] theorem Core.setSlot_next (k : Core) (sl : Nat) (st : Sticky) : (k.setSlot sl st).next = k.next := rfl
@[simp] theorem Core.setSlot_header (k : Core) (sl : Nat) (st : Sticky) : (k.setSlot sl st).header = k.header := rfl
@[simp] theorem Core.setSlot_rep (k : Core) (sl : Nat) (st : Sticky) : (k.setSlot sl st).rep = k.rep := rfl
@[simp] theorem Core.setSlot_pending (k : Core) (sl : Nat) (st : Sticky) : (k.setSlot sl st).pending = k.pending := rfl
@[simp] theorem Core.setSlot_rstack (k : Core) (sl : Nat) (st : Sticky) : (k.setSlot sl st).rstack = k.rstack := rfl
@[simp] theorem Core.setSlot_loop (k : Core) (sl : Nat) (st : Sticky) : (k.setSlot sl st).loop = k.loop := rfl
@[simp] theorem Core.setSlot_clamp (k : Core) (sl : Nat) (st : Sticky) : (k.setSlot sl st).clamp = k.clamp := rfl
@[simp] theorem Core.setSlot_parkAt (k : Core) (sl : Nat) (st : Sticky) : (k.setSlot sl st).parkAt = k.parkAt := rfl
@[simp] theorem Core.setSlot_leaving (k : Core) (sl : Nat) (st : Sticky) : (k.setSlot sl st).leaving = k.leaving := rfl
@[simp] theorem Core.setSlot_broke (k : Core) (sl : Nat) (st : Sticky) : (k.setSlot sl st).broke = k.broke := rfl
@[simp] theorem Core.setSlot_reported (k : Core) (sl : Nat) (st : Sticky) : (k.setSlot sl st).reported = k.reported := rfl
@[simp] theorem Core.setSlot_bankUsed (k : Core) (sl : Nat) (st : Sticky) : (k.setSlot sl st).bankUsed = k.bankUsed := rfl
@[simp] theorem Core.setSlot_domains (k : Core) (sl : Nat) (st : Sticky) : (k.setSlot sl st).domains = k.domains := rfl
@[simp] theorem Core.setSlot_wakes (k : Core) (sl : Nat) (st : Sticky) : (k.setSlot sl st).wakes = k.wakes := rfl
@[simp] theorem Core.setSlot_lastMul (k : Core) (sl : Nat) (st : Sticky) : (k.setSlot sl st).lastMul = k.lastMul := rfl
@[simp] theorem Core.setSlot_notices (k : Core) (sl : Nat) (st : Sticky) : (k.setSlot sl st).notices = k.notices := rfl
@[simp] theorem Core.setSlot_shadow (k : Core) (sl : Nat) (st : Sticky) : (k.setSlot sl st).shadow = k.shadow := rfl
@[simp] theorem Core.setSlot_poison (k : Core) (sl : Nat) (st : Sticky) : (k.setSlot sl st).poison = k.poison := rfl
@[simp] theorem Core.setSlot_bad (k : Core) (sl : Nat) (st : Sticky) : (k.setSlot sl st).bad = k.bad := rfl
@[simp] theorem Core.setSlot_pend (k : Core) (sl : Nat) (st : Sticky) : (k.setSlot sl st).pend = k.pend := rfl
@[simp] theorem Core.setSlot_touches (k : Core) (sl : Nat) (st : Sticky) : (k.setSlot sl st).touches = k.touches := rfl
@[simp] theorem Core.setSlot_mldqBuf (k : Core) (sl : Nat) (st : Sticky) : (k.setSlot sl st).mldqBuf = k.mldqBuf := rfl
@[simp] theorem Core.setSlot_tlb (k : Core) (sl : Nat) (st : Sticky) : (k.setSlot sl st).tlb = k.tlb := rfl
@[simp] theorem Core.setSlot_cmds (k : Core) (sl : Nat) (st : Sticky) : (k.setSlot sl st).cmds = k.cmds := rfl
@[simp] theorem Core.setSlot_cmdCount (k : Core) (sl : Nat) (st : Sticky) : (k.setSlot sl st).cmdCount = k.cmdCount := rfl
@[simp] theorem Core.setSlot_fences (k : Core) (sl : Nat) (st : Sticky) : (k.setSlot sl st).fences = k.fences := rfl
@[simp] theorem Core.setSlot_launches (k : Core) (sl : Nat) (st : Sticky) : (k.setSlot sl st).launches = k.launches := rfl

/-! ### Registers read after what an issue does to its core -/

@[simp] theorem Core.sched_s_read (k : Core) (e : Pend) (r : Nat) : (k.sched e).s r = k.s r := rfl
@[simp] theorem Core.sched_k_read (k : Core) (e : Pend) (r : Nat) : (k.sched e).k r = k.k r := rfl
@[simp] theorem Core.sched_v_read (k : Core) (e : Pend) (r : Nat) : (k.sched e).v r = k.v r := rfl
@[simp] theorem Core.sched_w_read (k : Core) (e : Pend) (r : Nat) : (k.sched e).w r = k.w r := rfl
@[simp] theorem Core.sched_ia_read (k : Core) (e : Pend) (r : Nat) : (k.sched e).ia r = k.ia r := rfl
@[simp] theorem Core.sched_ib_read (k : Core) (e : Pend) (r : Nat) : (k.sched e).ib r = k.ib r := rfl
@[simp] theorem Core.sched_im_read (k : Core) (e : Pend) (r : Nat) : (k.sched e).im r = k.im r := rfl
@[simp] theorem Core.sched_p_read (k : Core) (e : Pend) (r : Nat) : (k.sched e).p r = k.p r := rfl
@[simp] theorem Core.sched_x_read (k : Core) (e : Pend) (r : Nat) : (k.sched e).x r = k.x r := rfl
@[simp] theorem Core.sched_y_read (k : Core) (e : Pend) (r : Nat) : (k.sched e).y r = k.y r := rfl
@[simp] theorem Core.sched_z_read (k : Core) (e : Pend) (r : Nat) : (k.sched e).z r = k.z r := rfl
@[simp] theorem Core.sched_q_read (k : Core) (e : Pend) (r : Nat) : (k.sched e).q r = k.q r := rfl
@[simp] theorem Core.sched_h_read (k : Core) (e : Pend) (r : Nat) : (k.sched e).h r = k.h r := rfl
@[simp] theorem Core.sched_dom_read (k : Core) (e : Pend) (d : Nat) : (k.sched e).dom d = k.dom d := rfl
@[simp] theorem Core.sched_entryOf_read (k : Core) (e : Pend) (l n : Nat) : (k.sched e).entryOf l n = k.entryOf l n := rfl
@[simp] theorem Core.sched_record_read (k : Core) (e : Pend) (m r : Nat) : (k.sched e).record m r = k.record m r := rfl
@[simp] theorem Core.sched_vr_read (k : Core) (e : Pend) (m r : Nat) : (k.sched e).vr m r = k.vr m r := rfl
@[simp] theorem Core.sched_vn_read (k : Core) (e : Pend) (m r : Nat) : (k.sched e).vn m r = k.vn m r := rfl
@[simp] theorem Core.sched_rm_read (k : Core) (e : Pend) : (k.sched e).rm = k.rm := rfl
@[simp] theorem Core.sched_gw_read (k : Core) (e : Pend) : (k.sched e).gw = k.gw := rfl
@[simp] theorem Core.sched_va_read (k : Core) (e : Pend) (m r : Nat) : (k.sched e).va m r = k.va m r := rfl
@[simp] theorem Core.sched_mline_read (k : Core) (e : Pend) (i o a : Nat) : (k.sched e).mline i o a = k.mline i o a := rfl
@[simp] theorem Core.sched_line_read (k : Core) (e : Pend) (l : Nat) : (k.sched e).line l = k.line l := rfl
@[simp] theorem Core.sched_productOf_read (k : Core) (e : Pend) (q z n : Nat) : (k.sched e).productOf q z n = k.productOf q z n := rfl
@[simp] theorem Core.sched_holds_read (k : Core) (e : Pend) (g : Guard) : (k.sched e).holds g = k.holds g := rfl
@[simp] theorem Core.sched_issueError_read (k : Core) (e : Pend) (m : Nat) (i : Instr) : (k.sched e).issueError m i = k.issueError m i := rfl
@[simp] theorem Core.sched_guardError_read (k : Core) (e : Pend) (g : Guard) : (k.sched e).guardError g = k.guardError g := rfl
@[simp] theorem Core.sched_word_read (k : Core) (e : Pend) (a : Int) : (k.sched e).word a = k.word a := rfl
@[simp] theorem Core.sched_target_read (k : Core) (e : Pend) (w off : Nat) : (k.sched e).target w off = k.target w off := rfl
@[simp] theorem Core.sched_slot_read (k : Core) (e : Pend) (m : Nat) : (k.sched e).slot m = k.slot m := rfl

@[simp] theorem Core.issue_s_read (k : Core) (ipt slot : Nat) (es : List (Nat × Eff)) (r : Nat) : (k.issue ipt slot es).s r = k.s r := rfl
@[simp] theorem Core.issue_k_read (k : Core) (ipt slot : Nat) (es : List (Nat × Eff)) (r : Nat) : (k.issue ipt slot es).k r = k.k r := rfl
@[simp] theorem Core.issue_v_read (k : Core) (ipt slot : Nat) (es : List (Nat × Eff)) (r : Nat) : (k.issue ipt slot es).v r = k.v r := rfl
@[simp] theorem Core.issue_w_read (k : Core) (ipt slot : Nat) (es : List (Nat × Eff)) (r : Nat) : (k.issue ipt slot es).w r = k.w r := rfl
@[simp] theorem Core.issue_ia_read (k : Core) (ipt slot : Nat) (es : List (Nat × Eff)) (r : Nat) : (k.issue ipt slot es).ia r = k.ia r := rfl
@[simp] theorem Core.issue_ib_read (k : Core) (ipt slot : Nat) (es : List (Nat × Eff)) (r : Nat) : (k.issue ipt slot es).ib r = k.ib r := rfl
@[simp] theorem Core.issue_im_read (k : Core) (ipt slot : Nat) (es : List (Nat × Eff)) (r : Nat) : (k.issue ipt slot es).im r = k.im r := rfl
@[simp] theorem Core.issue_p_read (k : Core) (ipt slot : Nat) (es : List (Nat × Eff)) (r : Nat) : (k.issue ipt slot es).p r = k.p r := rfl
@[simp] theorem Core.issue_x_read (k : Core) (ipt slot : Nat) (es : List (Nat × Eff)) (r : Nat) : (k.issue ipt slot es).x r = k.x r := rfl
@[simp] theorem Core.issue_y_read (k : Core) (ipt slot : Nat) (es : List (Nat × Eff)) (r : Nat) : (k.issue ipt slot es).y r = k.y r := rfl
@[simp] theorem Core.issue_z_read (k : Core) (ipt slot : Nat) (es : List (Nat × Eff)) (r : Nat) : (k.issue ipt slot es).z r = k.z r := rfl
@[simp] theorem Core.issue_q_read (k : Core) (ipt slot : Nat) (es : List (Nat × Eff)) (r : Nat) : (k.issue ipt slot es).q r = k.q r := rfl
@[simp] theorem Core.issue_h_read (k : Core) (ipt slot : Nat) (es : List (Nat × Eff)) (r : Nat) : (k.issue ipt slot es).h r = k.h r := rfl
@[simp] theorem Core.issue_dom_read (k : Core) (ipt slot : Nat) (es : List (Nat × Eff)) (d : Nat) : (k.issue ipt slot es).dom d = k.dom d := rfl
@[simp] theorem Core.issue_entryOf_read (k : Core) (ipt slot : Nat) (es : List (Nat × Eff)) (l n : Nat) : (k.issue ipt slot es).entryOf l n = k.entryOf l n := rfl
@[simp] theorem Core.issue_record_read (k : Core) (ipt slot : Nat) (es : List (Nat × Eff)) (m r : Nat) : (k.issue ipt slot es).record m r = k.record m r := rfl
@[simp] theorem Core.issue_vr_read (k : Core) (ipt slot : Nat) (es : List (Nat × Eff)) (m r : Nat) : (k.issue ipt slot es).vr m r = k.vr m r := rfl
@[simp] theorem Core.issue_vn_read (k : Core) (ipt slot : Nat) (es : List (Nat × Eff)) (m r : Nat) : (k.issue ipt slot es).vn m r = k.vn m r := rfl
@[simp] theorem Core.issue_rm_read (k : Core) (ipt slot : Nat) (es : List (Nat × Eff)) : (k.issue ipt slot es).rm = k.rm := rfl
@[simp] theorem Core.issue_gw_read (k : Core) (ipt slot : Nat) (es : List (Nat × Eff)) : (k.issue ipt slot es).gw = k.gw := rfl
@[simp] theorem Core.issue_va_read (k : Core) (ipt slot : Nat) (es : List (Nat × Eff)) (m r : Nat) : (k.issue ipt slot es).va m r = k.va m r := rfl
@[simp] theorem Core.issue_mline_read (k : Core) (ipt slot : Nat) (es : List (Nat × Eff)) (i o a : Nat) : (k.issue ipt slot es).mline i o a = k.mline i o a := rfl
@[simp] theorem Core.issue_line_read (k : Core) (ipt slot : Nat) (es : List (Nat × Eff)) (l : Nat) : (k.issue ipt slot es).line l = k.line l := rfl
@[simp] theorem Core.issue_productOf_read (k : Core) (ipt slot : Nat) (es : List (Nat × Eff)) (q z n : Nat) : (k.issue ipt slot es).productOf q z n = k.productOf q z n := rfl
@[simp] theorem Core.issue_holds_read (k : Core) (ipt slot : Nat) (es : List (Nat × Eff)) (g : Guard) : (k.issue ipt slot es).holds g = k.holds g := rfl
@[simp] theorem Core.issue_issueError_read (k : Core) (ipt slot : Nat) (es : List (Nat × Eff)) (m : Nat) (i : Instr) : (k.issue ipt slot es).issueError m i = k.issueError m i := rfl
@[simp] theorem Core.issue_guardError_read (k : Core) (ipt slot : Nat) (es : List (Nat × Eff)) (g : Guard) : (k.issue ipt slot es).guardError g = k.guardError g := rfl
@[simp] theorem Core.issue_word_read (k : Core) (ipt slot : Nat) (es : List (Nat × Eff)) (a : Int) : (k.issue ipt slot es).word a = k.word a := rfl
@[simp] theorem Core.issue_target_read (k : Core) (ipt slot : Nat) (es : List (Nat × Eff)) (w off : Nat) : (k.issue ipt slot es).target w off = k.target w off := rfl
@[simp] theorem Core.issue_slot_read (k : Core) (ipt slot : Nat) (es : List (Nat × Eff)) (m : Nat) : (k.issue ipt slot es).slot m = k.slot m := rfl

@[simp] theorem Core.reserve_s_read (k : Core) (ts : List Touch) (r : Nat) : (k.reserve ts).s r = k.s r := rfl
@[simp] theorem Core.reserve_k_read (k : Core) (ts : List Touch) (r : Nat) : (k.reserve ts).k r = k.k r := rfl
@[simp] theorem Core.reserve_v_read (k : Core) (ts : List Touch) (r : Nat) : (k.reserve ts).v r = k.v r := rfl
@[simp] theorem Core.reserve_w_read (k : Core) (ts : List Touch) (r : Nat) : (k.reserve ts).w r = k.w r := rfl
@[simp] theorem Core.reserve_ia_read (k : Core) (ts : List Touch) (r : Nat) : (k.reserve ts).ia r = k.ia r := rfl
@[simp] theorem Core.reserve_ib_read (k : Core) (ts : List Touch) (r : Nat) : (k.reserve ts).ib r = k.ib r := rfl
@[simp] theorem Core.reserve_im_read (k : Core) (ts : List Touch) (r : Nat) : (k.reserve ts).im r = k.im r := rfl
@[simp] theorem Core.reserve_p_read (k : Core) (ts : List Touch) (r : Nat) : (k.reserve ts).p r = k.p r := rfl
@[simp] theorem Core.reserve_x_read (k : Core) (ts : List Touch) (r : Nat) : (k.reserve ts).x r = k.x r := rfl
@[simp] theorem Core.reserve_y_read (k : Core) (ts : List Touch) (r : Nat) : (k.reserve ts).y r = k.y r := rfl
@[simp] theorem Core.reserve_z_read (k : Core) (ts : List Touch) (r : Nat) : (k.reserve ts).z r = k.z r := rfl
@[simp] theorem Core.reserve_q_read (k : Core) (ts : List Touch) (r : Nat) : (k.reserve ts).q r = k.q r := rfl
@[simp] theorem Core.reserve_h_read (k : Core) (ts : List Touch) (r : Nat) : (k.reserve ts).h r = k.h r := rfl
@[simp] theorem Core.reserve_dom_read (k : Core) (ts : List Touch) (d : Nat) : (k.reserve ts).dom d = k.dom d := rfl
@[simp] theorem Core.reserve_entryOf_read (k : Core) (ts : List Touch) (l n : Nat) : (k.reserve ts).entryOf l n = k.entryOf l n := rfl
@[simp] theorem Core.reserve_record_read (k : Core) (ts : List Touch) (m r : Nat) : (k.reserve ts).record m r = k.record m r := rfl
@[simp] theorem Core.reserve_vr_read (k : Core) (ts : List Touch) (m r : Nat) : (k.reserve ts).vr m r = k.vr m r := rfl
@[simp] theorem Core.reserve_vn_read (k : Core) (ts : List Touch) (m r : Nat) : (k.reserve ts).vn m r = k.vn m r := rfl
@[simp] theorem Core.reserve_rm_read (k : Core) (ts : List Touch) : (k.reserve ts).rm = k.rm := rfl
@[simp] theorem Core.reserve_gw_read (k : Core) (ts : List Touch) : (k.reserve ts).gw = k.gw := rfl
@[simp] theorem Core.reserve_va_read (k : Core) (ts : List Touch) (m r : Nat) : (k.reserve ts).va m r = k.va m r := rfl
@[simp] theorem Core.reserve_mline_read (k : Core) (ts : List Touch) (i o a : Nat) : (k.reserve ts).mline i o a = k.mline i o a := rfl
@[simp] theorem Core.reserve_line_read (k : Core) (ts : List Touch) (l : Nat) : (k.reserve ts).line l = k.line l := rfl
@[simp] theorem Core.reserve_productOf_read (k : Core) (ts : List Touch) (q z n : Nat) : (k.reserve ts).productOf q z n = k.productOf q z n := rfl
@[simp] theorem Core.reserve_holds_read (k : Core) (ts : List Touch) (g : Guard) : (k.reserve ts).holds g = k.holds g := rfl
@[simp] theorem Core.reserve_issueError_read (k : Core) (ts : List Touch) (m : Nat) (i : Instr) : (k.reserve ts).issueError m i = k.issueError m i := rfl
@[simp] theorem Core.reserve_guardError_read (k : Core) (ts : List Touch) (g : Guard) : (k.reserve ts).guardError g = k.guardError g := rfl
@[simp] theorem Core.reserve_word_read (k : Core) (ts : List Touch) (a : Int) : (k.reserve ts).word a = k.word a := rfl
@[simp] theorem Core.reserve_target_read (k : Core) (ts : List Touch) (w off : Nat) : (k.reserve ts).target w off = k.target w off := rfl
@[simp] theorem Core.reserve_slot_read (k : Core) (ts : List Touch) (m : Nat) : (k.reserve ts).slot m = k.slot m := rfl

@[simp] theorem Core.setSlot_s_read (k : Core) (sl : Nat) (st : Sticky) (r : Nat) : (k.setSlot sl st).s r = k.s r := rfl
@[simp] theorem Core.setSlot_k_read (k : Core) (sl : Nat) (st : Sticky) (r : Nat) : (k.setSlot sl st).k r = k.k r := rfl
@[simp] theorem Core.setSlot_v_read (k : Core) (sl : Nat) (st : Sticky) (r : Nat) : (k.setSlot sl st).v r = k.v r := rfl
@[simp] theorem Core.setSlot_w_read (k : Core) (sl : Nat) (st : Sticky) (r : Nat) : (k.setSlot sl st).w r = k.w r := rfl
@[simp] theorem Core.setSlot_ia_read (k : Core) (sl : Nat) (st : Sticky) (r : Nat) : (k.setSlot sl st).ia r = k.ia r := rfl
@[simp] theorem Core.setSlot_ib_read (k : Core) (sl : Nat) (st : Sticky) (r : Nat) : (k.setSlot sl st).ib r = k.ib r := rfl
@[simp] theorem Core.setSlot_im_read (k : Core) (sl : Nat) (st : Sticky) (r : Nat) : (k.setSlot sl st).im r = k.im r := rfl
@[simp] theorem Core.setSlot_p_read (k : Core) (sl : Nat) (st : Sticky) (r : Nat) : (k.setSlot sl st).p r = k.p r := rfl
@[simp] theorem Core.setSlot_x_read (k : Core) (sl : Nat) (st : Sticky) (r : Nat) : (k.setSlot sl st).x r = k.x r := rfl
@[simp] theorem Core.setSlot_y_read (k : Core) (sl : Nat) (st : Sticky) (r : Nat) : (k.setSlot sl st).y r = k.y r := rfl
@[simp] theorem Core.setSlot_z_read (k : Core) (sl : Nat) (st : Sticky) (r : Nat) : (k.setSlot sl st).z r = k.z r := rfl
@[simp] theorem Core.setSlot_q_read (k : Core) (sl : Nat) (st : Sticky) (r : Nat) : (k.setSlot sl st).q r = k.q r := rfl
@[simp] theorem Core.setSlot_h_read (k : Core) (sl : Nat) (st : Sticky) (r : Nat) : (k.setSlot sl st).h r = k.h r := rfl
@[simp] theorem Core.setSlot_dom_read (k : Core) (sl : Nat) (st : Sticky) (d : Nat) : (k.setSlot sl st).dom d = k.dom d := rfl
@[simp] theorem Core.setSlot_entryOf_read (k : Core) (sl : Nat) (st : Sticky) (l n : Nat) : (k.setSlot sl st).entryOf l n = k.entryOf l n := rfl
@[simp] theorem Core.setSlot_record_read (k : Core) (sl : Nat) (st : Sticky) (m r : Nat) : (k.setSlot sl st).record m r = k.record m r := rfl
@[simp] theorem Core.setSlot_vr_read (k : Core) (sl : Nat) (st : Sticky) (m r : Nat) : (k.setSlot sl st).vr m r = k.vr m r := rfl
@[simp] theorem Core.setSlot_vn_read (k : Core) (sl : Nat) (st : Sticky) (m r : Nat) : (k.setSlot sl st).vn m r = k.vn m r := rfl
@[simp] theorem Core.setSlot_rm_read (k : Core) (sl : Nat) (st : Sticky) : (k.setSlot sl st).rm = k.rm := rfl
@[simp] theorem Core.setSlot_gw_read (k : Core) (sl : Nat) (st : Sticky) : (k.setSlot sl st).gw = k.gw := rfl
@[simp] theorem Core.setSlot_va_read (k : Core) (sl : Nat) (st : Sticky) (m r : Nat) : (k.setSlot sl st).va m r = k.va m r := rfl
@[simp] theorem Core.setSlot_mline_read (k : Core) (sl : Nat) (st : Sticky) (i o a : Nat) : (k.setSlot sl st).mline i o a = k.mline i o a := rfl
@[simp] theorem Core.setSlot_line_read (k : Core) (sl : Nat) (st : Sticky) (l : Nat) : (k.setSlot sl st).line l = k.line l := rfl
@[simp] theorem Core.setSlot_productOf_read (k : Core) (sl : Nat) (st : Sticky) (q z n : Nat) : (k.setSlot sl st).productOf q z n = k.productOf q z n := rfl
@[simp] theorem Core.setSlot_holds_read (k : Core) (sl : Nat) (st : Sticky) (g : Guard) : (k.setSlot sl st).holds g = k.holds g := rfl
@[simp] theorem Core.setSlot_issueError_read (k : Core) (sl : Nat) (st : Sticky) (m : Nat) (i : Instr) : (k.setSlot sl st).issueError m i = k.issueError m i := rfl
@[simp] theorem Core.setSlot_guardError_read (k : Core) (sl : Nat) (st : Sticky) (g : Guard) : (k.setSlot sl st).guardError g = k.guardError g := rfl
@[simp] theorem Core.setSlot_word_read (k : Core) (sl : Nat) (st : Sticky) (a : Int) : (k.setSlot sl st).word a = k.word a := rfl
@[simp] theorem Core.setSlot_target_read (k : Core) (sl : Nat) (st : Sticky) (w off : Nat) : (k.setSlot sl st).target w off = k.target w off := rfl

/-! ### The fields that change -/

@[simp] theorem State.emit_outbox (s : State) (o : Out) : (s.emit o).outbox = s.outbox ++ [o] := rfl
@[simp] theorem Part.stopBy_stops (q : Part) (st : Stop) : (q.stopBy st).stops = q.stops ++ [st] := rfl
@[simp] theorem Core.sched_pend (k : Core) (e : Pend) : (k.sched e).pend = k.pend ++ [e] := rfl
@[simp] theorem Core.reserve_touches (k : Core) (ts : List Touch) : (k.reserve ts).touches = k.touches ++ ts := rfl

/-! ### Partitions and cores read back -/

@[simp] theorem State.part_setPart_same (s : State) (vf : Nat) (p : Part) : (s.setPart vf p).part vf = p := by
  simp [State.part, State.setPart]

theorem State.part_setPart_ne (s : State) {vf w : Nat} (p : Part) (h : w ≠ vf) : (s.setPart vf p).part w = s.part w :=
  tget_tput_ne _ _ _ h

@[simp] theorem State.part_onPart_same (s : State) (vf : Nat) (f : Part → Part) : (s.onPart vf f).part vf = f (s.part vf) := by
  simp [State.onPart]

theorem State.part_onPart_ne (s : State) {vf w : Nat} (f : Part → Part) (h : w ≠ vf) : (s.onPart vf f).part w = s.part w :=
  tget_tput_ne _ _ _ h

@[simp] theorem State.part_emit (s : State) (o : Out) (vf : Nat) : (s.emit o).part vf = s.part vf := rfl

@[simp] theorem Part.core_setCore_same (p : Part) (c : Nat) (k : Core) : (p.setCore c k).core c = k := by
  simp [Part.core, Part.setCore]

theorem Part.core_setCore_ne (p : Part) {c d : Nat} (k : Core) (h : d ≠ c) : (p.setCore c k).core d = p.core d :=
  tget_tput_ne _ _ _ h

@[simp] theorem Part.core_onCore_same (p : Part) (c : Nat) (f : Core → Core) : (p.onCore c f).core c = f (p.core c) := by
  simp [Part.onCore]

theorem Part.core_onCore_ne (p : Part) {c d : Nat} (f : Core → Core) (h : d ≠ c) : (p.onCore c f).core d = p.core d :=
  tget_tput_ne _ _ _ h

@[simp] theorem State.core_onCore_same (s : State) (vf c : Nat) (f : Core → Core) : (s.onCore vf c f).core vf c = f (s.core vf c) := by
  simp [State.core, State.onCore]

@[simp] theorem State.part_onCore_same (s : State) (vf c : Nat) (f : Core → Core) : (s.onCore vf c f).part vf = (s.part vf).onCore c f := by
  simp [State.onCore]

theorem State.part_onCore_ne (s : State) {vf w : Nat} (c : Nat) (f : Core → Core) (h : w ≠ vf) : (s.onCore vf c f).part w = s.part w :=
  State.part_onPart_ne s _ h

@[simp] theorem State.here_onHere (s : State) (f : Core → Core) : (s.onHere f).here = s.here.onCore s.cursor.core f := by
  simp [State.here, State.onHere]

@[simp] theorem State.hereCore_onHere (s : State) (f : Core → Core) : (s.onHere f).hereCore = f s.hereCore := by
  simp [State.hereCore]

/-! ### Updates in a row -/

@[simp] theorem State.setPart_setPart (s : State) (vf : Nat) (p q : Part) : (s.setPart vf p).setPart vf q = s.setPart vf q := by
  simp [State.setPart]

@[simp] theorem State.onPart_onPart (s : State) (vf : Nat) (f g : Part → Part) : (s.onPart vf f).onPart vf g = s.onPart vf (fun p => g (f p)) := by
  simp [State.onPart]

@[simp] theorem Part.setCore_setCore (p : Part) (c : Nat) (k l : Core) : (p.setCore c k).setCore c l = p.setCore c l := by
  simp [Part.setCore]

@[simp] theorem Part.onCore_onCore (p : Part) (c : Nat) (f g : Core → Core) : (p.onCore c f).onCore c g = p.onCore c (fun k => g (f k)) := by
  simp [Part.onCore]

@[simp] theorem State.onCore_onCore (s : State) (vf c : Nat) (f g : Core → Core) :
    (s.onCore vf c f).onCore vf c g = s.onCore vf c (fun k => g (f k)) := by
  simp [State.onCore]

@[simp] theorem State.onHere_onHere (s : State) (f g : Core → Core) : (s.onHere f).onHere g = s.onHere (fun k => g (f k)) := by
  simp [State.onHere]

/-! ### Banks, channels, barriers, slots read back -/

@[simp] theorem Part.bank_setBank_same (p : Part) (v b : Nat) (k : Bank) : (p.setBank v b k).bank v b = k := by
  simp [Part.bank, Part.setBank]

@[simp] theorem Part.chan_setChan_same (p : Part) (v : Nat) (k : Chan) : (p.setChan v k).chan v = k := by
  simp [Part.chan, Part.setChan]

@[simp] theorem Part.barrier_setBarrier_same (p : Part) (b : Nat) (k : Barrier) : (p.setBarrier b k).barrier b = k := by
  simp [Part.barrier, Part.setBarrier]

theorem Part.barrier_setBarrier_ne (p : Part) {b d : Nat} (k : Barrier) (h : d ≠ b) : (p.setBarrier b k).barrier d = p.barrier d :=
  tget_tput_ne _ _ _ h

@[simp] theorem Core.slot_setSlot_same (k : Core) (sl : Nat) (st : Sticky) : (k.setSlot sl st).slot sl = st := by
  simp [Core.slot, Core.setSlot]

theorem Core.slot_setSlot_ne (k : Core) {sl m : Nat} (st : Sticky) (h : m ≠ sl) : (k.setSlot sl st).slot m = k.slot m :=
  tget_tput_ne _ _ _ h

end Sys2Proof.Machine
end

