-- ==== Sys2Proof/Laws/Faults.lean ====
section
/-! SUPPORT. Taking a fault and the release from it: all that each can change (16_faults R240, R242, R245, R246; 02_time R17, R28). -/

namespace Sys2Proof.Machine

theorem notify_eq (s : State) (vf : Nat) (r : Bool) : ∃ out, s.notify vf r = { s with outbox := out } := by
  unfold State.notify; split
  · exact ⟨_, rfl⟩
  · exact ⟨s.outbox, rfl⟩

/-- The notice of a stop changes the outbox and voids an alignment stop of its partition; nothing else. -/
theorem announce_eq (s : State) (vf : Nat) (p : Part) :
    ∃ a b c d out, (s.setPart vf p).announce vf =
      { s with parts := tput s.parts vf { p with alignAt := a, flitTo := b, readyAt := c, readies := d }, outbox := out } := by
  cases h : p.multi with
  | true => exact ⟨none, none, none, [], s.outbox ++ [.stopNotice vf p.pt], by simp [State.announce, h, State.onPart, State.emit]; simp [State.setPart]⟩
  | false => exact ⟨p.alignAt, p.flitTo, p.readyAt, p.readies, s.outbox, by simp [State.announce, h]; rfl⟩

/-- TAKING A FAULT changes its partition, draws one wall delay and sends a notice; nothing else. -/
theorem raise_eq (vf : Nat) (f : FRec) (s : State) : ∃ p o out, raise vf f s = { s with parts := tput s.parts vf p, oracle := o, outbox := out }
    ∧ ((s.part vf).recording f = true → p = { s.part vf with frec := FRec.merge (s.part vf).frec f } ∧ o = s.oracle ∧ out = s.outbox)
    ∧ ((s.part vf).recording f = false → ∃ h a b c d,
      p = { (s.part vf).stopBy .fault with frec := f, handlerAt := h, alignAt := a, flitTo := b, readyAt := c, readies := d }) := by
  cases hr : (s.part vf).recording f with
  | true => exact ⟨_, s.oracle, s.outbox, by simp only [raise, hr, if_true]; rfl, fun _ => ⟨rfl, rfl, rfl⟩, by simp⟩
  | false =>
    simp only [raise, hr, Bool.false_eq_true, if_false]
    obtain ⟨a, b, c, d, o1, h1⟩ := announce_eq s.drawDelay.2 vf
      { (s.part vf).stopBy .fault with frec := f, handlerAt := if s.belfryDown then none else some (s.tabor + s.drawDelay.1) }
    exact ⟨_, s.oracle + 1, o1, h1, by simp, fun _ => ⟨_, a, b, c, d, rfl⟩⟩

theorem raise_part_same (vf : Nat) (f : FRec) (s : State) (h : (s.part vf).recording f = false) :
    ∃ a b c d e, (raise vf f s).part vf =
      { (s.part vf).stopBy .fault with frec := f, handlerAt := a, alignAt := b, flitTo := c, readyAt := d, readies := e } := by
  obtain ⟨p, o, out, he, -, hf⟩ := raise_eq vf f s
  obtain ⟨a, b, c, d, e, hp⟩ := hf h
  exact ⟨a, b, c, d, e, by rw [he, hp]; exact tget_tput_same _ _ _ _⟩

/-- A fault that joins the record of the stop in force. -/
theorem raise_part_joined (vf : Nat) (f : FRec) (s : State) (h : (s.part vf).recording f = true) :
    raise vf f s = s.setPart vf { s.part vf with frec := FRec.merge (s.part vf).frec f } := by
  simp [raise, h]

theorem raise_part_ne {vf w : Nat} (f : FRec) (s : State) (h : w ≠ vf) : (raise vf f s).part w = s.part w := by
  obtain ⟨p, o, out, he, -⟩ := raise_eq vf f s
  rw [he]; exact tget_tput_ne _ _ _ h

/-- No fault stop is in force: the fault is a new one. -/
theorem not_recording {p : Part} (f : FRec) (h : Stop.fault ∉ p.stops) : p.recording f = false := by
  simp [Part.recording, h]

/-! What a fault leaves as it is. -/

@[simp] theorem raise_powered (vf : Nat) (f : FRec) (s : State) : (raise vf f s).powered = s.powered := by
  obtain ⟨_, _, _, h, -⟩ := raise_eq vf f s; rw [h]
@[simp] theorem raise_booting (vf : Nat) (f : FRec) (s : State) : (raise vf f s).booting = s.booting := by
  obtain ⟨_, _, _, h, -⟩ := raise_eq vf f s; rw [h]
@[simp] theorem raise_fatal (vf : Nat) (f : FRec) (s : State) : (raise vf f s).fatal = s.fatal := by
  obtain ⟨_, _, _, h, -⟩ := raise_eq vf f s; rw [h]
@[simp] theorem raise_tabor (vf : Nat) (f : FRec) (s : State) : (raise vf f s).tabor = s.tabor := by
  obtain ⟨_, _, _, h, -⟩ := raise_eq vf f s; rw [h]
@[simp] theorem raise_skew (vf : Nat) (f : FRec) (s : State) : (raise vf f s).skew = s.skew := by
  obtain ⟨_, _, _, h, -⟩ := raise_eq vf f s; rw [h]
@[simp] theorem raise_adopted (vf : Nat) (f : FRec) (s : State) : (raise vf f s).adopted = s.adopted := by
  obtain ⟨_, _, _, h, -⟩ := raise_eq vf f s; rw [h]
@[simp] theorem raise_cursor (vf : Nat) (f : FRec) (s : State) : (raise vf f s).cursor = s.cursor := by
  obtain ⟨_, _, _, h, -⟩ := raise_eq vf f s; rw [h]
@[simp] theorem raise_inbox (vf : Nat) (f : FRec) (s : State) : (raise vf f s).inbox = s.inbox := by
  obtain ⟨_, _, _, h, -⟩ := raise_eq vf f s; rw [h]
@[simp] theorem raise_images (vf : Nat) (f : FRec) (s : State) : (raise vf f s).images = s.images := by
  obtain ⟨_, _, _, h, -⟩ := raise_eq vf f s; rw [h]
@[simp] theorem raise_imageTenant (vf : Nat) (f : FRec) (s : State) : (raise vf f s).imageTenant = s.imageTenant := by
  obtain ⟨_, _, _, h, -⟩ := raise_eq vf f s; rw [h]
@[simp] theorem raise_tenants (vf : Nat) (f : FRec) (s : State) : (raise vf f s).tenants = s.tenants := by
  obtain ⟨_, _, _, h, -⟩ := raise_eq vf f s; rw [h]
@[simp] theorem raise_dram (vf : Nat) (f : FRec) (s : State) : (raise vf f s).dram = s.dram := by
  obtain ⟨_, _, _, h, -⟩ := raise_eq vf f s; rw [h]
@[simp] theorem raise_dramBad (vf : Nat) (f : FRec) (s : State) : (raise vf f s).dramBad = s.dramBad := by
  obtain ⟨_, _, _, h, -⟩ := raise_eq vf f s; rw [h]
@[simp] theorem raise_t1 (vf : Nat) (f : FRec) (s : State) : (raise vf f s).t1 = s.t1 := by
  obtain ⟨_, _, _, h, -⟩ := raise_eq vf f s; rw [h]
@[simp] theorem raise_host (vf : Nat) (f : FRec) (s : State) : (raise vf f s).host = s.host := by
  obtain ⟨_, _, _, h, -⟩ := raise_eq vf f s; rw [h]
@[simp] theorem raise_remote (vf : Nat) (f : FRec) (s : State) : (raise vf f s).remote = s.remote := by
  obtain ⟨_, _, _, h, -⟩ := raise_eq vf f s; rw [h]
@[simp] theorem raise_chanTenant (vf : Nat) (f : FRec) (s : State) : (raise vf f s).chanTenant = s.chanTenant := by
  obtain ⟨_, _, _, h, -⟩ := raise_eq vf f s; rw [h]
@[simp] theorem raise_towerTlb (vf : Nat) (f : FRec) (s : State) : (raise vf f s).towerTlb = s.towerTlb := by
  obtain ⟨_, _, _, h, -⟩ := raise_eq vf f s; rw [h]
@[simp] theorem raise_streams (vf : Nat) (f : FRec) (s : State) : (raise vf f s).streams = s.streams := by
  obtain ⟨_, _, _, h, -⟩ := raise_eq vf f s; rw [h]
@[simp] theorem raise_flits (vf : Nat) (f : FRec) (s : State) : (raise vf f s).flits = s.flits := by
  obtain ⟨_, _, _, h, -⟩ := raise_eq vf f s; rw [h]
@[simp] theorem raise_ports (vf : Nat) (f : FRec) (s : State) : (raise vf f s).ports = s.ports := by
  obtain ⟨_, _, _, h, -⟩ := raise_eq vf f s; rw [h]
@[simp] theorem raise_bstat (vf : Nat) (f : FRec) (s : State) : (raise vf f s).bstat = s.bstat := by
  obtain ⟨_, _, _, h, -⟩ := raise_eq vf f s; rw [h]
@[simp] theorem raise_lcs (vf : Nat) (f : FRec) (s : State) : (raise vf f s).lcs = s.lcs := by
  obtain ⟨_, _, _, h, -⟩ := raise_eq vf f s; rw [h]
@[simp] theorem raise_lcsErr (vf : Nat) (f : FRec) (s : State) : (raise vf f s).lcsErr = s.lcsErr := by
  obtain ⟨_, _, _, h, -⟩ := raise_eq vf f s; rw [h]
@[simp] theorem raise_pcap (vf : Nat) (f : FRec) (s : State) : (raise vf f s).pcap = s.pcap := by
  obtain ⟨_, _, _, h, -⟩ := raise_eq vf f s; rw [h]
@[simp] theorem raise_mail (vf : Nat) (f : FRec) (s : State) : (raise vf f s).mail = s.mail := by
  obtain ⟨_, _, _, h, -⟩ := raise_eq vf f s; rw [h]
@[simp] theorem raise_mailQueue (vf : Nat) (f : FRec) (s : State) : (raise vf f s).mailQueue = s.mailQueue := by
  obtain ⟨_, _, _, h, -⟩ := raise_eq vf f s; rw [h]
@[simp] theorem raise_nonce (vf : Nat) (f : FRec) (s : State) : (raise vf f s).nonce = s.nonce := by
  obtain ⟨_, _, _, h, -⟩ := raise_eq vf f s; rw [h]
@[simp] theorem raise_meas (vf : Nat) (f : FRec) (s : State) : (raise vf f s).meas = s.meas := by
  obtain ⟨_, _, _, h, -⟩ := raise_eq vf f s; rw [h]
@[simp] theorem raise_seeds (vf : Nat) (f : FRec) (s : State) : (raise vf f s).seeds = s.seeds := by
  obtain ⟨_, _, _, h, -⟩ := raise_eq vf f s; rw [h]
@[simp] theorem raise_minVersion (vf : Nat) (f : FRec) (s : State) : (raise vf f s).minVersion = s.minVersion := by
  obtain ⟨_, _, _, h, -⟩ := raise_eq vf f s; rw [h]
@[simp] theorem raise_deviceId (vf : Nat) (f : FRec) (s : State) : (raise vf f s).deviceId = s.deviceId := by
  obtain ⟨_, _, _, h, -⟩ := raise_eq vf f s; rw [h]
@[simp] theorem raise_fwKey (vf : Nat) (f : FRec) (s : State) : (raise vf f s).fwKey = s.fwKey := by
  obtain ⟨_, _, _, h, -⟩ := raise_eq vf f s; rw [h]
@[simp] theorem raise_lcKey (vf : Nat) (f : FRec) (s : State) : (raise vf f s).lcKey = s.lcKey := by
  obtain ⟨_, _, _, h, -⟩ := raise_eq vf f s; rw [h]
@[simp] theorem raise_sram (vf : Nat) (f : FRec) (s : State) : (raise vf f s).sram = s.sram := by
  obtain ⟨_, _, _, h, -⟩ := raise_eq vf f s; rw [h]
@[simp] theorem raise_belfry (vf : Nat) (f : FRec) (s : State) : (raise vf f s).belfry = s.belfry := by
  obtain ⟨_, _, _, h, -⟩ := raise_eq vf f s; rw [h]
@[simp] theorem raise_unreached (vf : Nat) (f : FRec) (s : State) : (raise vf f s).unreached = s.unreached := by
  obtain ⟨_, _, _, h, -⟩ := raise_eq vf f s; rw [h]
@[simp] theorem raise_temp (vf : Nat) (f : FRec) (s : State) : (raise vf f s).temp = s.temp := by
  obtain ⟨_, _, _, h, -⟩ := raise_eq vf f s; rw [h]
@[simp] theorem raise_power (vf : Nat) (f : FRec) (s : State) : (raise vf f s).power = s.power := by
  obtain ⟨_, _, _, h, -⟩ := raise_eq vf f s; rw [h]
@[simp] theorem raise_sampleAt (vf : Nat) (f : FRec) (s : State) : (raise vf f s).sampleAt = s.sampleAt := by
  obtain ⟨_, _, _, h, -⟩ := raise_eq vf f s; rw [h]
@[simp] theorem raise_holdLevel (vf : Nat) (f : FRec) (s : State) : (raise vf f s).holdLevel = s.holdLevel := by
  obtain ⟨_, _, _, h, -⟩ := raise_eq vf f s; rw [h]
@[simp] theorem raise_hotBelow (vf : Nat) (f : FRec) (s : State) : (raise vf f s).hotBelow = s.hotBelow := by
  obtain ⟨_, _, _, h, -⟩ := raise_eq vf f s; rw [h]
@[simp] theorem raise_calm (vf : Nat) (f : FRec) (s : State) : (raise vf f s).calm = s.calm := by
  obtain ⟨_, _, _, h, -⟩ := raise_eq vf f s; rw [h]
@[simp] theorem raise_stretchUntil (vf : Nat) (f : FRec) (s : State) : (raise vf f s).stretchUntil = s.stretchUntil := by
  obtain ⟨_, _, _, h, -⟩ := raise_eq vf f s; rw [h]
@[simp] theorem raise_lastDroop (vf : Nat) (f : FRec) (s : State) : (raise vf f s).lastDroop = s.lastDroop := by
  obtain ⟨_, _, _, h, -⟩ := raise_eq vf f s; rw [h]
@[simp] theorem raise_part_live (vf w : Nat) (f : FRec) (s : State) : ((raise vf f s).part w).live = (s.part w).live := by
  by_cases hw : w = vf
  · subst hw; obtain ⟨p, o, out, he, h1, h2⟩ := raise_eq w f s
    cases hr : (s.part w).recording f with
    | true => rw [he, (h1 hr).1]; simp [State.part]
    | false => obtain ⟨a, b, c, d, e, hp⟩ := h2 hr; rw [he, hp]; simp [State.part]
  · rw [raise_part_ne f s hw]
@[simp] theorem raise_part_tenant (vf w : Nat) (f : FRec) (s : State) : ((raise vf f s).part w).tenant = (s.part w).tenant := by
  by_cases hw : w = vf
  · subst hw; obtain ⟨p, o, out, he, h1, h2⟩ := raise_eq w f s
    cases hr : (s.part w).recording f with
    | true => rw [he, (h1 hr).1]; simp [State.part]
    | false => obtain ⟨a, b, c, d, e, hp⟩ := h2 hr; rw [he, hp]; simp [State.part]
  · rw [raise_part_ne f s hw]
@[simp] theorem raise_part_cores (vf w : Nat) (f : FRec) (s : State) : ((raise vf f s).part w).cores = (s.part w).cores := by
  by_cases hw : w = vf
  · subst hw; obtain ⟨p, o, out, he, h1, h2⟩ := raise_eq w f s
    cases hr : (s.part w).recording f with
    | true => rw [he, (h1 hr).1]; simp [State.part]
    | false => obtain ⟨a, b, c, d, e, hp⟩ := h2 hr; rw [he, hp]; simp [State.part]
  · rw [raise_part_ne f s hw]
@[simp] theorem raise_part_channels (vf w : Nat) (f : FRec) (s : State) : ((raise vf f s).part w).channels = (s.part w).channels := by
  by_cases hw : w = vf
  · subst hw; obtain ⟨p, o, out, he, h1, h2⟩ := raise_eq w f s
    cases hr : (s.part w).recording f with
    | true => rw [he, (h1 hr).1]; simp [State.part]
    | false => obtain ⟨a, b, c, d, e, hp⟩ := h2 hr; rw [he, hp]; simp [State.part]
  · rw [raise_part_ne f s hw]
@[simp] theorem raise_part_group (vf w : Nat) (f : FRec) (s : State) : ((raise vf f s).part w).group = (s.part w).group := by
  by_cases hw : w = vf
  · subst hw; obtain ⟨p, o, out, he, h1, h2⟩ := raise_eq w f s
    cases hr : (s.part w).recording f with
    | true => rw [he, (h1 hr).1]; simp [State.part]
    | false => obtain ⟨a, b, c, d, e, hp⟩ := h2 hr; rw [he, hp]; simp [State.part]
  · rw [raise_part_ne f s hw]
@[simp] theorem raise_part_cls (vf w : Nat) (f : FRec) (s : State) : ((raise vf f s).part w).cls = (s.part w).cls := by
  by_cases hw : w = vf
  · subst hw; obtain ⟨p, o, out, he, h1, h2⟩ := raise_eq w f s
    cases hr : (s.part w).recording f with
    | true => rw [he, (h1 hr).1]; simp [State.part]
    | false => obtain ⟨a, b, c, d, e, hp⟩ := h2 hr; rw [he, hp]; simp [State.part]
  · rw [raise_part_ne f s hw]
@[simp] theorem raise_part_resid (vf w : Nat) (f : FRec) (s : State) : ((raise vf f s).part w).resid = (s.part w).resid := by
  by_cases hw : w = vf
  · subst hw; obtain ⟨p, o, out, he, h1, h2⟩ := raise_eq w f s
    cases hr : (s.part w).recording f with
    | true => rw [he, (h1 hr).1]; simp [State.part]
    | false => obtain ⟨a, b, c, d, e, hp⟩ := h2 hr; rw [he, hp]; simp [State.part]
  · rw [raise_part_ne f s hw]
@[simp] theorem raise_part_pt (vf w : Nat) (f : FRec) (s : State) : ((raise vf f s).part w).pt = (s.part w).pt := by
  by_cases hw : w = vf
  · subst hw; obtain ⟨p, o, out, he, h1, h2⟩ := raise_eq w f s
    cases hr : (s.part w).recording f with
    | true => rw [he, (h1 hr).1]; simp [State.part]
    | false => obtain ⟨a, b, c, d, e, hp⟩ := h2 hr; rw [he, hp]; simp [State.part]
  · rw [raise_part_ne f s hw]
@[simp] theorem raise_part_stage (vf w : Nat) (f : FRec) (s : State) : ((raise vf f s).part w).stage = (s.part w).stage := by
  by_cases hw : w = vf
  · subst hw; obtain ⟨p, o, out, he, h1, h2⟩ := raise_eq w f s
    cases hr : (s.part w).recording f with
    | true => rw [he, (h1 hr).1]; simp [State.part]
    | false => obtain ⟨a, b, c, d, e, hp⟩ := h2 hr; rw [he, hp]; simp [State.part]
  · rw [raise_part_ne f s hw]
@[simp] theorem raise_part_hold (vf w : Nat) (f : FRec) (s : State) : ((raise vf f s).part w).hold = (s.part w).hold := by
  by_cases hw : w = vf
  · subst hw; obtain ⟨p, o, out, he, h1, h2⟩ := raise_eq w f s
    cases hr : (s.part w).recording f with
    | true => rw [he, (h1 hr).1]; simp [State.part]
    | false => obtain ⟨a, b, c, d, e, hp⟩ := h2 hr; rw [he, hp]; simp [State.part]
  · rw [raise_part_ne f s hw]
@[simp] theorem raise_part_holdNext (vf w : Nat) (f : FRec) (s : State) : ((raise vf f s).part w).holdNext = (s.part w).holdNext := by
  by_cases hw : w = vf
  · subst hw; obtain ⟨p, o, out, he, h1, h2⟩ := raise_eq w f s
    cases hr : (s.part w).recording f with
    | true => rw [he, (h1 hr).1]; simp [State.part]
    | false => obtain ⟨a, b, c, d, e, hp⟩ := h2 hr; rw [he, hp]; simp [State.part]
  · rw [raise_part_ne f s hw]
@[simp] theorem raise_part_holdAsked (vf w : Nat) (f : FRec) (s : State) : ((raise vf f s).part w).holdAsked = (s.part w).holdAsked := by
  by_cases hw : w = vf
  · subst hw; obtain ⟨p, o, out, he, h1, h2⟩ := raise_eq w f s
    cases hr : (s.part w).recording f with
    | true => rw [he, (h1 hr).1]; simp [State.part]
    | false => obtain ⟨a, b, c, d, e, hp⟩ := h2 hr; rw [he, hp]; simp [State.part]
  · rw [raise_part_ne f s hw]
@[simp] theorem raise_part_holdTold (vf w : Nat) (f : FRec) (s : State) : ((raise vf f s).part w).holdTold = (s.part w).holdTold := by
  by_cases hw : w = vf
  · subst hw; obtain ⟨p, o, out, he, h1, h2⟩ := raise_eq w f s
    cases hr : (s.part w).recording f with
    | true => rw [he, (h1 hr).1]; simp [State.part]
    | false => obtain ⟨a, b, c, d, e, hp⟩ := h2 hr; rw [he, hp]; simp [State.part]
  · rw [raise_part_ne f s hw]
@[simp] theorem raise_part_policy (vf w : Nat) (f : FRec) (s : State) : ((raise vf f s).part w).policy = (s.part w).policy := by
  by_cases hw : w = vf
  · subst hw; obtain ⟨p, o, out, he, h1, h2⟩ := raise_eq w f s
    cases hr : (s.part w).recording f with
    | true => rw [he, (h1 hr).1]; simp [State.part]
    | false => obtain ⟨a, b, c, d, e, hp⟩ := h2 hr; rw [he, hp]; simp [State.part]
  · rw [raise_part_ne f s hw]
@[simp] theorem raise_part_peers (vf w : Nat) (f : FRec) (s : State) : ((raise vf f s).part w).peers = (s.part w).peers := by
  by_cases hw : w = vf
  · subst hw; obtain ⟨p, o, out, he, h1, h2⟩ := raise_eq w f s
    cases hr : (s.part w).recording f with
    | true => rw [he, (h1 hr).1]; simp [State.part]
    | false => obtain ⟨a, b, c, d, e, hp⟩ := h2 hr; rw [he, hp]; simp [State.part]
  · rw [raise_part_ne f s hw]
@[simp] theorem raise_part_noticeAt (vf w : Nat) (f : FRec) (s : State) : ((raise vf f s).part w).noticeAt = (s.part w).noticeAt := by
  by_cases hw : w = vf
  · subst hw; obtain ⟨p, o, out, he, h1, h2⟩ := raise_eq w f s
    cases hr : (s.part w).recording f with
    | true => rw [he, (h1 hr).1]; simp [State.part]
    | false => obtain ⟨a, b, c, d, e, hp⟩ := h2 hr; rw [he, hp]; simp [State.part]
  · rw [raise_part_ne f s hw]
@[simp] theorem raise_part_pauses (vf w : Nat) (f : FRec) (s : State) : ((raise vf f s).part w).pauses = (s.part w).pauses := by
  by_cases hw : w = vf
  · subst hw; obtain ⟨p, o, out, he, h1, h2⟩ := raise_eq w f s
    cases hr : (s.part w).recording f with
    | true => rw [he, (h1 hr).1]; simp [State.part]
    | false => obtain ⟨a, b, c, d, e, hp⟩ := h2 hr; rw [he, hp]; simp [State.part]
  · rw [raise_part_ne f s hw]
@[simp] theorem raise_part_debts (vf w : Nat) (f : FRec) (s : State) : ((raise vf f s).part w).debts = (s.part w).debts := by
  by_cases hw : w = vf
  · subst hw; obtain ⟨p, o, out, he, h1, h2⟩ := raise_eq w f s
    cases hr : (s.part w).recording f with
    | true => rw [he, (h1 hr).1]; simp [State.part]
    | false => obtain ⟨a, b, c, d, e, hp⟩ := h2 hr; rw [he, hp]; simp [State.part]
  · rw [raise_part_ne f s hw]
@[simp] theorem raise_part_losing (vf w : Nat) (f : FRec) (s : State) : ((raise vf f s).part w).losing = (s.part w).losing := by
  by_cases hw : w = vf
  · subst hw; obtain ⟨p, o, out, he, h1, h2⟩ := raise_eq w f s
    cases hr : (s.part w).recording f with
    | true => rw [he, (h1 hr).1]; simp [State.part]
    | false => obtain ⟨a, b, c, d, e, hp⟩ := h2 hr; rw [he, hp]; simp [State.part]
  · rw [raise_part_ne f s hw]
@[simp] theorem raise_part_away (vf w : Nat) (f : FRec) (s : State) : ((raise vf f s).part w).away = (s.part w).away := by
  by_cases hw : w = vf
  · subst hw; obtain ⟨p, o, out, he, h1, h2⟩ := raise_eq w f s
    cases hr : (s.part w).recording f with
    | true => rw [he, (h1 hr).1]; simp [State.part]
    | false => obtain ⟨a, b, c, d, e, hp⟩ := h2 hr; rw [he, hp]; simp [State.part]
  · rw [raise_part_ne f s hw]
@[simp] theorem raise_part_mates (vf w : Nat) (f : FRec) (s : State) : ((raise vf f s).part w).mates = (s.part w).mates := by
  by_cases hw : w = vf
  · subst hw; obtain ⟨p, o, out, he, h1, h2⟩ := raise_eq w f s
    cases hr : (s.part w).recording f with
    | true => rw [he, (h1 hr).1]; simp [State.part]
    | false => obtain ⟨a, b, c, d, e, hp⟩ := h2 hr; rw [he, hp]; simp [State.part]
  · rw [raise_part_ne f s hw]
@[simp] theorem raise_part_coreTable (vf w : Nat) (f : FRec) (s : State) : ((raise vf f s).part w).coreTable = (s.part w).coreTable := by
  by_cases hw : w = vf
  · subst hw; obtain ⟨p, o, out, he, h1, h2⟩ := raise_eq w f s
    cases hr : (s.part w).recording f with
    | true => rw [he, (h1 hr).1]; simp [State.part]
    | false => obtain ⟨a, b, c, d, e, hp⟩ := h2 hr; rw [he, hp]; simp [State.part]
  · rw [raise_part_ne f s hw]
@[simp] theorem raise_part_chanTable (vf w : Nat) (f : FRec) (s : State) : ((raise vf f s).part w).chanTable = (s.part w).chanTable := by
  by_cases hw : w = vf
  · subst hw; obtain ⟨p, o, out, he, h1, h2⟩ := raise_eq w f s
    cases hr : (s.part w).recording f with
    | true => rw [he, (h1 hr).1]; simp [State.part]
    | false => obtain ⟨a, b, c, d, e, hp⟩ := h2 hr; rw [he, hp]; simp [State.part]
  · rw [raise_part_ne f s hw]
@[simp] theorem raise_part_service (vf w : Nat) (f : FRec) (s : State) : ((raise vf f s).part w).service = (s.part w).service := by
  by_cases hw : w = vf
  · subst hw; obtain ⟨p, o, out, he, h1, h2⟩ := raise_eq w f s
    cases hr : (s.part w).recording f with
    | true => rw [he, (h1 hr).1]; simp [State.part]
    | false => obtain ⟨a, b, c, d, e, hp⟩ := h2 hr; rw [he, hp]; simp [State.part]
  · rw [raise_part_ne f s hw]
@[simp] theorem raise_part_pages (vf w : Nat) (f : FRec) (s : State) : ((raise vf f s).part w).pages = (s.part w).pages := by
  by_cases hw : w = vf
  · subst hw; obtain ⟨p, o, out, he, h1, h2⟩ := raise_eq w f s
    cases hr : (s.part w).recording f with
    | true => rw [he, (h1 hr).1]; simp [State.part]
    | false => obtain ⟨a, b, c, d, e, hp⟩ := h2 hr; rw [he, hp]; simp [State.part]
  · rw [raise_part_ne f s hw]
@[simp] theorem raise_part_freeFrames (vf w : Nat) (f : FRec) (s : State) : ((raise vf f s).part w).freeFrames = (s.part w).freeFrames := by
  by_cases hw : w = vf
  · subst hw; obtain ⟨p, o, out, he, h1, h2⟩ := raise_eq w f s
    cases hr : (s.part w).recording f with
    | true => rw [he, (h1 hr).1]; simp [State.part]
    | false => obtain ⟨a, b, c, d, e, hp⟩ := h2 hr; rw [he, hp]; simp [State.part]
  · rw [raise_part_ne f s hw]
@[simp] theorem raise_part_outPages (vf w : Nat) (f : FRec) (s : State) : ((raise vf f s).part w).outPages = (s.part w).outPages := by
  by_cases hw : w = vf
  · subst hw; obtain ⟨p, o, out, he, h1, h2⟩ := raise_eq w f s
    cases hr : (s.part w).recording f with
    | true => rw [he, (h1 hr).1]; simp [State.part]
    | false => obtain ⟨a, b, c, d, e, hp⟩ := h2 hr; rw [he, hp]; simp [State.part]
  · rw [raise_part_ne f s hw]
@[simp] theorem raise_part_outChans (vf w : Nat) (f : FRec) (s : State) : ((raise vf f s).part w).outChans = (s.part w).outChans := by
  by_cases hw : w = vf
  · subst hw; obtain ⟨p, o, out, he, h1, h2⟩ := raise_eq w f s
    cases hr : (s.part w).recording f with
    | true => rw [he, (h1 hr).1]; simp [State.part]
    | false => obtain ⟨a, b, c, d, e, hp⟩ := h2 hr; rw [he, hp]; simp [State.part]
  · rw [raise_part_ne f s hw]
@[simp] theorem raise_part_t1Queue (vf w : Nat) (f : FRec) (s : State) : ((raise vf f s).part w).t1Queue = (s.part w).t1Queue := by
  by_cases hw : w = vf
  · subst hw; obtain ⟨p, o, out, he, h1, h2⟩ := raise_eq w f s
    cases hr : (s.part w).recording f with
    | true => rw [he, (h1 hr).1]; simp [State.part]
    | false => obtain ⟨a, b, c, d, e, hp⟩ := h2 hr; rw [he, hp]; simp [State.part]
  · rw [raise_part_ne f s hw]
@[simp] theorem raise_part_served (vf w : Nat) (f : FRec) (s : State) : ((raise vf f s).part w).served = (s.part w).served := by
  by_cases hw : w = vf
  · subst hw; obtain ⟨p, o, out, he, h1, h2⟩ := raise_eq w f s
    cases hr : (s.part w).recording f with
    | true => rw [he, (h1 hr).1]; simp [State.part]
    | false => obtain ⟨a, b, c, d, e, hp⟩ := h2 hr; rw [he, hp]; simp [State.part]
  · rw [raise_part_ne f s hw]
@[simp] theorem raise_part_queue (vf w : Nat) (f : FRec) (s : State) : ((raise vf f s).part w).queue = (s.part w).queue := by
  by_cases hw : w = vf
  · subst hw; obtain ⟨p, o, out, he, h1, h2⟩ := raise_eq w f s
    cases hr : (s.part w).recording f with
    | true => rw [he, (h1 hr).1]; simp [State.part]
    | false => obtain ⟨a, b, c, d, e, hp⟩ := h2 hr; rw [he, hp]; simp [State.part]
  · rw [raise_part_ne f s hw]
@[simp] theorem raise_part_qfrozen (vf w : Nat) (f : FRec) (s : State) : ((raise vf f s).part w).qfrozen = (s.part w).qfrozen := by
  by_cases hw : w = vf
  · subst hw; obtain ⟨p, o, out, he, h1, h2⟩ := raise_eq w f s
    cases hr : (s.part w).recording f with
    | true => rw [he, (h1 hr).1]; simp [State.part]
    | false => obtain ⟨a, b, c, d, e, hp⟩ := h2 hr; rw [he, hp]; simp [State.part]
  · rw [raise_part_ne f s hw]
@[simp] theorem raise_part_task (vf w : Nat) (f : FRec) (s : State) : ((raise vf f s).part w).task = (s.part w).task := by
  by_cases hw : w = vf
  · subst hw; obtain ⟨p, o, out, he, h1, h2⟩ := raise_eq w f s
    cases hr : (s.part w).recording f with
    | true => rw [he, (h1 hr).1]; simp [State.part]
    | false => obtain ⟨a, b, c, d, e, hp⟩ := h2 hr; rw [he, hp]; simp [State.part]
  · rw [raise_part_ne f s hw]
@[simp] theorem raise_part_loading (vf w : Nat) (f : FRec) (s : State) : ((raise vf f s).part w).loading = (s.part w).loading := by
  by_cases hw : w = vf
  · subst hw; obtain ⟨p, o, out, he, h1, h2⟩ := raise_eq w f s
    cases hr : (s.part w).recording f with
    | true => rw [he, (h1 hr).1]; simp [State.part]
    | false => obtain ⟨a, b, c, d, e, hp⟩ := h2 hr; rw [he, hp]; simp [State.part]
  · rw [raise_part_ne f s hw]
@[simp] theorem raise_part_loadedAt (vf w : Nat) (f : FRec) (s : State) : ((raise vf f s).part w).loadedAt = (s.part w).loadedAt := by
  by_cases hw : w = vf
  · subst hw; obtain ⟨p, o, out, he, h1, h2⟩ := raise_eq w f s
    cases hr : (s.part w).recording f with
    | true => rw [he, (h1 hr).1]; simp [State.part]
    | false => obtain ⟨a, b, c, d, e, hp⟩ := h2 hr; rw [he, hp]; simp [State.part]
  · rw [raise_part_ne f s hw]
@[simp] theorem raise_part_loads (vf w : Nat) (f : FRec) (s : State) : ((raise vf f s).part w).loads = (s.part w).loads := by
  by_cases hw : w = vf
  · subst hw; obtain ⟨p, o, out, he, h1, h2⟩ := raise_eq w f s
    cases hr : (s.part w).recording f with
    | true => rw [he, (h1 hr).1]; simp [State.part]
    | false => obtain ⟨a, b, c, d, e, hp⟩ := h2 hr; rw [he, hp]; simp [State.part]
  · rw [raise_part_ne f s hw]
@[simp] theorem raise_part_coreOf (vf w : Nat) (f : FRec) (s : State) : ((raise vf f s).part w).coreOf = (s.part w).coreOf := by
  by_cases hw : w = vf
  · subst hw; obtain ⟨p, o, out, he, h1, h2⟩ := raise_eq w f s
    cases hr : (s.part w).recording f with
    | true => rw [he, (h1 hr).1]; simp [State.part]
    | false => obtain ⟨a, b, c, d, e, hp⟩ := h2 hr; rw [he, hp]; simp [State.part]
  · rw [raise_part_ne f s hw]
@[simp] theorem raise_part_banks (vf w : Nat) (f : FRec) (s : State) : ((raise vf f s).part w).banks = (s.part w).banks := by
  by_cases hw : w = vf
  · subst hw; obtain ⟨p, o, out, he, h1, h2⟩ := raise_eq w f s
    cases hr : (s.part w).recording f with
    | true => rw [he, (h1 hr).1]; simp [State.part]
    | false => obtain ⟨a, b, c, d, e, hp⟩ := h2 hr; rw [he, hp]; simp [State.part]
  · rw [raise_part_ne f s hw]
@[simp] theorem raise_part_chans (vf w : Nat) (f : FRec) (s : State) : ((raise vf f s).part w).chans = (s.part w).chans := by
  by_cases hw : w = vf
  · subst hw; obtain ⟨p, o, out, he, h1, h2⟩ := raise_eq w f s
    cases hr : (s.part w).recording f with
    | true => rw [he, (h1 hr).1]; simp [State.part]
    | false => obtain ⟨a, b, c, d, e, hp⟩ := h2 hr; rw [he, hp]; simp [State.part]
  · rw [raise_part_ne f s hw]
@[simp] theorem raise_part_barriers (vf w : Nat) (f : FRec) (s : State) : ((raise vf f s).part w).barriers = (s.part w).barriers := by
  by_cases hw : w = vf
  · subst hw; obtain ⟨p, o, out, he, h1, h2⟩ := raise_eq w f s
    cases hr : (s.part w).recording f with
    | true => rw [he, (h1 hr).1]; simp [State.part]
    | false => obtain ⟨a, b, c, d, e, hp⟩ := h2 hr; rw [he, hp]; simp [State.part]
  · rw [raise_part_ne f s hw]
@[simp] theorem raise_part_remotes (vf w : Nat) (f : FRec) (s : State) : ((raise vf f s).part w).remotes = (s.part w).remotes := by
  by_cases hw : w = vf
  · subst hw; obtain ⟨p, o, out, he, h1, h2⟩ := raise_eq w f s
    cases hr : (s.part w).recording f with
    | true => rw [he, (h1 hr).1]; simp [State.part]
    | false => obtain ⟨a, b, c, d, e, hp⟩ := h2 hr; rw [he, hp]; simp [State.part]
  · rw [raise_part_ne f s hw]
@[simp] theorem raise_part_phase (vf w : Nat) (f : FRec) (s : State) : ((raise vf f s).part w).phase = (s.part w).phase := by
  by_cases hw : w = vf
  · subst hw; obtain ⟨p, o, out, he, h1, h2⟩ := raise_eq w f s
    cases hr : (s.part w).recording f with
    | true => rw [he, (h1 hr).1]; simp [State.part]
    | false => obtain ⟨a, b, c, d, e, hp⟩ := h2 hr; rw [he, hp]; simp [State.part]
  · rw [raise_part_ne f s hw]
@[simp] theorem raise_part_phasedAt (vf w : Nat) (f : FRec) (s : State) : ((raise vf f s).part w).phasedAt = (s.part w).phasedAt := by
  by_cases hw : w = vf
  · subst hw; obtain ⟨p, o, out, he, h1, h2⟩ := raise_eq w f s
    cases hr : (s.part w).recording f with
    | true => rw [he, (h1 hr).1]; simp [State.part]
    | false => obtain ⟨a, b, c, d, e, hp⟩ := h2 hr; rw [he, hp]; simp [State.part]
  · rw [raise_part_ne f s hw]
@[simp] theorem raise_part_awayKi (vf w : Nat) (f : FRec) (s : State) : ((raise vf f s).part w).awayKi = (s.part w).awayKi := by
  by_cases hw : w = vf
  · subst hw; obtain ⟨p, o, out, he, h1, h2⟩ := raise_eq w f s
    cases hr : (s.part w).recording f with
    | true => rw [he, (h1 hr).1]; simp [State.part]
    | false => obtain ⟨a, b, c, d, e, hp⟩ := h2 hr; rw [he, hp]; simp [State.part]
  · rw [raise_part_ne f s hw]
@[simp] theorem raise_part_excused (vf w : Nat) (f : FRec) (s : State) : ((raise vf f s).part w).excused = (s.part w).excused := by
  by_cases hw : w = vf
  · subst hw; obtain ⟨p, o, out, he, h1, h2⟩ := raise_eq w f s
    cases hr : (s.part w).recording f with
    | true => rw [he, (h1 hr).1]; simp [State.part]
    | false => obtain ⟨a, b, c, d, e, hp⟩ := h2 hr; rw [he, hp]; simp [State.part]
  · rw [raise_part_ne f s hw]
@[simp] theorem raise_part_leaves (vf w : Nat) (f : FRec) (s : State) : ((raise vf f s).part w).leaves = (s.part w).leaves := by
  by_cases hw : w = vf
  · subst hw; obtain ⟨p, o, out, he, h1, h2⟩ := raise_eq w f s
    cases hr : (s.part w).recording f with
    | true => rw [he, (h1 hr).1]; simp [State.part]
    | false => obtain ⟨a, b, c, d, e, hp⟩ := h2 hr; rw [he, hp]; simp [State.part]
  · rw [raise_part_ne f s hw]
@[simp] theorem raise_part_clampOn (vf w : Nat) (f : FRec) (s : State) : ((raise vf f s).part w).clampOn = (s.part w).clampOn := by
  by_cases hw : w = vf
  · subst hw; obtain ⟨p, o, out, he, h1, h2⟩ := raise_eq w f s
    cases hr : (s.part w).recording f with
    | true => rw [he, (h1 hr).1]; simp [State.part]
    | false => obtain ⟨a, b, c, d, e, hp⟩ := h2 hr; rw [he, hp]; simp [State.part]
  · rw [raise_part_ne f s hw]
@[simp] theorem raise_part_preempt (vf w : Nat) (f : FRec) (s : State) : ((raise vf f s).part w).preempt = (s.part w).preempt := by
  by_cases hw : w = vf
  · subst hw; obtain ⟨p, o, out, he, h1, h2⟩ := raise_eq w f s
    cases hr : (s.part w).recording f with
    | true => rw [he, (h1 hr).1]; simp [State.part]
    | false => obtain ⟨a, b, c, d, e, hp⟩ := h2 hr; rw [he, hp]; simp [State.part]
  · rw [raise_part_ne f s hw]
@[simp] theorem raise_part_preemptTold (vf w : Nat) (f : FRec) (s : State) : ((raise vf f s).part w).preemptTold = (s.part w).preemptTold := by
  by_cases hw : w = vf
  · subst hw; obtain ⟨p, o, out, he, h1, h2⟩ := raise_eq w f s
    cases hr : (s.part w).recording f with
    | true => rw [he, (h1 hr).1]; simp [State.part]
    | false => obtain ⟨a, b, c, d, e, hp⟩ := h2 hr; rw [he, hp]; simp [State.part]
  · rw [raise_part_ne f s hw]
@[simp] theorem raise_part_forceAlways (vf w : Nat) (f : FRec) (s : State) : ((raise vf f s).part w).forceAlways = (s.part w).forceAlways := by
  by_cases hw : w = vf
  · subst hw; obtain ⟨p, o, out, he, h1, h2⟩ := raise_eq w f s
    cases hr : (s.part w).recording f with
    | true => rw [he, (h1 hr).1]; simp [State.part]
    | false => obtain ⟨a, b, c, d, e, hp⟩ := h2 hr; rw [he, hp]; simp [State.part]
  · rw [raise_part_ne f s hw]
@[simp] theorem raise_part_portMask (vf w : Nat) (f : FRec) (s : State) : ((raise vf f s).part w).portMask = (s.part w).portMask := by
  by_cases hw : w = vf
  · subst hw; obtain ⟨p, o, out, he, h1, h2⟩ := raise_eq w f s
    cases hr : (s.part w).recording f with
    | true => rw [he, (h1 hr).1]; simp [State.part]
    | false => obtain ⟨a, b, c, d, e, hp⟩ := h2 hr; rw [he, hp]; simp [State.part]
  · rw [raise_part_ne f s hw]
@[simp] theorem raise_part_portLand (vf w : Nat) (f : FRec) (s : State) : ((raise vf f s).part w).portLand = (s.part w).portLand := by
  by_cases hw : w = vf
  · subst hw; obtain ⟨p, o, out, he, h1, h2⟩ := raise_eq w f s
    cases hr : (s.part w).recording f with
    | true => rw [he, (h1 hr).1]; simp [State.part]
    | false => obtain ⟨a, b, c, d, e, hp⟩ := h2 hr; rw [he, hp]; simp [State.part]
  · rw [raise_part_ne f s hw]
@[simp] theorem raise_part_inbound (vf w : Nat) (f : FRec) (s : State) : ((raise vf f s).part w).inbound = (s.part w).inbound := by
  by_cases hw : w = vf
  · subst hw; obtain ⟨p, o, out, he, h1, h2⟩ := raise_eq w f s
    cases hr : (s.part w).recording f with
    | true => rw [he, (h1 hr).1]; simp [State.part]
    | false => obtain ⟨a, b, c, d, e, hp⟩ := h2 hr; rw [he, hp]; simp [State.part]
  · rw [raise_part_ne f s hw]
@[simp] theorem raise_part_failing (vf w : Nat) (f : FRec) (s : State) : ((raise vf f s).part w).failing = (s.part w).failing := by
  by_cases hw : w = vf
  · subst hw; obtain ⟨p, o, out, he, h1, h2⟩ := raise_eq w f s
    cases hr : (s.part w).recording f with
    | true => rw [he, (h1 hr).1]; simp [State.part]
    | false => obtain ⟨a, b, c, d, e, hp⟩ := h2 hr; rw [he, hp]; simp [State.part]
  · rw [raise_part_ne f s hw]
@[simp] theorem raise_part_endAfter (vf w : Nat) (f : FRec) (s : State) : ((raise vf f s).part w).endAfter = (s.part w).endAfter := by
  by_cases hw : w = vf
  · subst hw; obtain ⟨p, o, out, he, h1, h2⟩ := raise_eq w f s
    cases hr : (s.part w).recording f with
    | true => rw [he, (h1 hr).1]; simp [State.part]
    | false => obtain ⟨a, b, c, d, e, hp⟩ := h2 hr; rw [he, hp]; simp [State.part]
  · rw [raise_part_ne f s hw]
@[simp] theorem raise_part_wantRestore (vf w : Nat) (f : FRec) (s : State) : ((raise vf f s).part w).wantRestore = (s.part w).wantRestore := by
  by_cases hw : w = vf
  · subst hw; obtain ⟨p, o, out, he, h1, h2⟩ := raise_eq w f s
    cases hr : (s.part w).recording f with
    | true => rw [he, (h1 hr).1]; simp [State.part]
    | false => obtain ⟨a, b, c, d, e, hp⟩ := h2 hr; rw [he, hp]; simp [State.part]
  · rw [raise_part_ne f s hw]
@[simp] theorem raise_part_resumeAt (vf w : Nat) (f : FRec) (s : State) : ((raise vf f s).part w).resumeAt = (s.part w).resumeAt := by
  by_cases hw : w = vf
  · subst hw; obtain ⟨p, o, out, he, h1, h2⟩ := raise_eq w f s
    cases hr : (s.part w).recording f with
    | true => rw [he, (h1 hr).1]; simp [State.part]
    | false => obtain ⟨a, b, c, d, e, hp⟩ := h2 hr; rw [he, hp]; simp [State.part]
  · rw [raise_part_ne f s hw]
@[simp] theorem raise_part_pcmd (vf w : Nat) (f : FRec) (s : State) : ((raise vf f s).part w).pcmd = (s.part w).pcmd := by
  by_cases hw : w = vf
  · subst hw; obtain ⟨p, o, out, he, h1, h2⟩ := raise_eq w f s
    cases hr : (s.part w).recording f with
    | true => rw [he, (h1 hr).1]; simp [State.part]
    | false => obtain ⟨a, b, c, d, e, hp⟩ := h2 hr; rw [he, hp]; simp [State.part]
  · rw [raise_part_ne f s hw]
@[simp] theorem raise_part_parg (vf w : Nat) (f : FRec) (s : State) : ((raise vf f s).part w).parg = (s.part w).parg := by
  by_cases hw : w = vf
  · subst hw; obtain ⟨p, o, out, he, h1, h2⟩ := raise_eq w f s
    cases hr : (s.part w).recording f with
    | true => rw [he, (h1 hr).1]; simp [State.part]
    | false => obtain ⟨a, b, c, d, e, hp⟩ := h2 hr; rw [he, hp]; simp [State.part]
  · rw [raise_part_ne f s hw]
@[simp] theorem raise_part_pres (vf w : Nat) (f : FRec) (s : State) : ((raise vf f s).part w).pres = (s.part w).pres := by
  by_cases hw : w = vf
  · subst hw; obtain ⟨p, o, out, he, h1, h2⟩ := raise_eq w f s
    cases hr : (s.part w).recording f with
    | true => rw [he, (h1 hr).1]; simp [State.part]
    | false => obtain ⟨a, b, c, d, e, hp⟩ := h2 hr; rw [he, hp]; simp [State.part]
  · rw [raise_part_ne f s hw]
@[simp] theorem raise_part_meter (vf w : Nat) (f : FRec) (s : State) : ((raise vf f s).part w).meter = (s.part w).meter := by
  by_cases hw : w = vf
  · subst hw; obtain ⟨p, o, out, he, h1, h2⟩ := raise_eq w f s
    cases hr : (s.part w).recording f with
    | true => rw [he, (h1 hr).1]; simp [State.part]
    | false => obtain ⟨a, b, c, d, e, hp⟩ := h2 hr; rw [he, hp]; simp [State.part]
  · rw [raise_part_ne f s hw]
@[simp] theorem raise_part_meterHold (vf w : Nat) (f : FRec) (s : State) : ((raise vf f s).part w).meterHold = (s.part w).meterHold := by
  by_cases hw : w = vf
  · subst hw; obtain ⟨p, o, out, he, h1, h2⟩ := raise_eq w f s
    cases hr : (s.part w).recording f with
    | true => rw [he, (h1 hr).1]; simp [State.part]
    | false => obtain ⟨a, b, c, d, e, hp⟩ := h2 hr; rw [he, hp]; simp [State.part]
  · rw [raise_part_ne f s hw]
@[simp] theorem raise_part_meterSat (vf w : Nat) (f : FRec) (s : State) : ((raise vf f s).part w).meterSat = (s.part w).meterSat := by
  by_cases hw : w = vf
  · subst hw; obtain ⟨p, o, out, he, h1, h2⟩ := raise_eq w f s
    cases hr : (s.part w).recording f with
    | true => rw [he, (h1 hr).1]; simp [State.part]
    | false => obtain ⟨a, b, c, d, e, hp⟩ := h2 hr; rw [he, hp]; simp [State.part]
  · rw [raise_part_ne f s hw]
@[simp] theorem raise_part_facc (vf w : Nat) (f : FRec) (s : State) : ((raise vf f s).part w).facc = (s.part w).facc := by
  by_cases hw : w = vf
  · subst hw; obtain ⟨p, o, out, he, h1, h2⟩ := raise_eq w f s
    cases hr : (s.part w).recording f with
    | true => rw [he, (h1 hr).1]; simp [State.part]
    | false => obtain ⟨a, b, c, d, e, hp⟩ := h2 hr; rw [he, hp]; simp [State.part]
  · rw [raise_part_ne f s hw]
@[simp] theorem raise_part_factOk (vf w : Nat) (f : FRec) (s : State) : ((raise vf f s).part w).factOk = (s.part w).factOk := by
  by_cases hw : w = vf
  · subst hw; obtain ⟨p, o, out, he, h1, h2⟩ := raise_eq w f s
    cases hr : (s.part w).recording f with
    | true => rw [he, (h1 hr).1]; simp [State.part]
    | false => obtain ⟨a, b, c, d, e, hp⟩ := h2 hr; rw [he, hp]; simp [State.part]
  · rw [raise_part_ne f s hw]
@[simp] theorem raise_part_features (vf w : Nat) (f : FRec) (s : State) : ((raise vf f s).part w).features = (s.part w).features := by
  by_cases hw : w = vf
  · subst hw; obtain ⟨p, o, out, he, h1, h2⟩ := raise_eq w f s
    cases hr : (s.part w).recording f with
    | true => rw [he, (h1 hr).1]; simp [State.part]
    | false => obtain ⟨a, b, c, d, e, hp⟩ := h2 hr; rw [he, hp]; simp [State.part]
  · rw [raise_part_ne f s hw]
@[simp] theorem raise_part_featuresNext (vf w : Nat) (f : FRec) (s : State) : ((raise vf f s).part w).featuresNext = (s.part w).featuresNext := by
  by_cases hw : w = vf
  · subst hw; obtain ⟨p, o, out, he, h1, h2⟩ := raise_eq w f s
    cases hr : (s.part w).recording f with
    | true => rw [he, (h1 hr).1]; simp [State.part]
    | false => obtain ⟨a, b, c, d, e, hp⟩ := h2 hr; rw [he, hp]; simp [State.part]
  · rw [raise_part_ne f s hw]
@[simp] theorem raise_part_debug (vf w : Nat) (f : FRec) (s : State) : ((raise vf f s).part w).debug = (s.part w).debug := by
  by_cases hw : w = vf
  · subst hw; obtain ⟨p, o, out, he, h1, h2⟩ := raise_eq w f s
    cases hr : (s.part w).recording f with
    | true => rw [he, (h1 hr).1]; simp [State.part]
    | false => obtain ⟨a, b, c, d, e, hp⟩ := h2 hr; rw [he, hp]; simp [State.part]
  · rw [raise_part_ne f s hw]
@[simp] theorem raise_part_breakMask (vf w : Nat) (f : FRec) (s : State) : ((raise vf f s).part w).breakMask = (s.part w).breakMask := by
  by_cases hw : w = vf
  · subst hw; obtain ⟨p, o, out, he, h1, h2⟩ := raise_eq w f s
    cases hr : (s.part w).recording f with
    | true => rw [he, (h1 hr).1]; simp [State.part]
    | false => obtain ⟨a, b, c, d, e, hp⟩ := h2 hr; rw [he, hp]; simp [State.part]
  · rw [raise_part_ne f s hw]
@[simp] theorem raise_part_digest (vf w : Nat) (f : FRec) (s : State) : ((raise vf f s).part w).digest = (s.part w).digest := by
  by_cases hw : w = vf
  · subst hw; obtain ⟨p, o, out, he, h1, h2⟩ := raise_eq w f s
    cases hr : (s.part w).recording f with
    | true => rw [he, (h1 hr).1]; simp [State.part]
    | false => obtain ⟨a, b, c, d, e, hp⟩ := h2 hr; rw [he, hp]; simp [State.part]
  · rw [raise_part_ne f s hw]
@[simp] theorem raise_part_corrupt (vf w : Nat) (f : FRec) (s : State) : ((raise vf f s).part w).corrupt = (s.part w).corrupt := by
  by_cases hw : w = vf
  · subst hw; obtain ⟨p, o, out, he, h1, h2⟩ := raise_eq w f s
    cases hr : (s.part w).recording f with
    | true => rw [he, (h1 hr).1]; simp [State.part]
    | false => obtain ⟨a, b, c, d, e, hp⟩ := h2 hr; rw [he, hp]; simp [State.part]
  · rw [raise_part_ne f s hw]
@[simp] theorem raise_part_nodePage (vf w : Nat) (f : FRec) (s : State) : ((raise vf f s).part w).nodePage = (s.part w).nodePage := by
  by_cases hw : w = vf
  · subst hw; obtain ⟨p, o, out, he, h1, h2⟩ := raise_eq w f s
    cases hr : (s.part w).recording f with
    | true => rw [he, (h1 hr).1]; simp [State.part]
    | false => obtain ⟨a, b, c, d, e, hp⟩ := h2 hr; rw [he, hp]; simp [State.part]
  · rw [raise_part_ne f s hw]
@[simp] theorem raise_part_nodeCount (vf w : Nat) (f : FRec) (s : State) : ((raise vf f s).part w).nodeCount = (s.part w).nodeCount := by
  by_cases hw : w = vf
  · subst hw; obtain ⟨p, o, out, he, h1, h2⟩ := raise_eq w f s
    cases hr : (s.part w).recording f with
    | true => rw [he, (h1 hr).1]; simp [State.part]
    | false => obtain ⟨a, b, c, d, e, hp⟩ := h2 hr; rw [he, hp]; simp [State.part]
  · rw [raise_part_ne f s hw]

@[simp] theorem raise_core (vf w c : Nat) (f : FRec) (s : State) : ((raise vf f s).core w c) = s.core w c := by
  simp [State.core, Part.core]

/-- The faults of one stop, from the first on: the stop is one. -/
@[simp] theorem raiseAll_cursor (vf : Nat) (fs : List FRec) (s : State) : (raiseAll vf fs s).cursor = s.cursor := by
  induction fs generalizing s with
  | nil => rfl
  | cons f fs ih => simp [raiseAll, ih]

theorem raiseAll_part_ne {vf w : Nat} (fs : List FRec) (s : State) (h : w ≠ vf) : (raiseAll vf fs s).part w = s.part w := by
  induction fs generalizing s with
  | nil => rfl
  | cons f fs ih => rw [raiseAll, ih, raise_part_ne f s h]

@[simp] theorem raiseAll_core (vf w c : Nat) (fs : List FRec) (s : State) : (raiseAll vf fs s).core w c = s.core w c := by
  induction fs generalizing s with
  | nil => rfl
  | cons f fs ih => rw [raiseAll, ih, raise_core]

@[simp] theorem raiseAll_pt (vf w : Nat) (fs : List FRec) (s : State) : ((raiseAll vf fs s).part w).pt = (s.part w).pt := by
  induction fs generalizing s with
  | nil => rfl
  | cons f fs ih => rw [raiseAll, ih, raise_part_pt]

/-! ### The release -/

theorem Part.resumed_eq (p : Part) : ∃ a b c d e f, p.resumed =
    { p with peers := a, hold := b, holdNext := c, holdAsked := d, readyAt := e, readies := f } := by
  unfold Part.resumed
  split
  · dsimp only
    split
    · exact ⟨_, _, _, _, _, _, rfl⟩
    · exact ⟨_, _, _, _, _, _, rfl⟩
  · exact ⟨_, _, _, _, _, _, rfl⟩

/-- What a release changes. -/
theorem Part.releaseFrom_eq (p : Part) (st : Stop → Bool) :
    ∃ a b c d e f g, p.releaseFrom st =
      { p with stops := a, peers := b, hold := c, holdNext := d, holdAsked := e, readyAt := f, readies := g } := by
  unfold Part.releaseFrom
  dsimp only
  split
  · exact ⟨_, _, _, _, _, _, _, rfl⟩
  · obtain ⟨a, b, c, d, e, f, h⟩ := Part.resumed_eq { p with stops := p.stops.filter fun x => !st x }
    exact ⟨_, a, b, c, d, e, f, h⟩

/-- The stops that a release leaves, and the alignment stop of a device that another must resume before or with (02_time R17, R28). -/
theorem Part.releaseFrom_stops (p : Part) (st : Stop → Bool) :
    (p.releaseFrom st).stops =
      let r := p.stops.filter fun x => !st x
      if p.stops.any Stop.announced && !r.any Stop.announced && !p.alone then r ++ [.align] else r := by
  unfold Part.releaseFrom
  dsimp only [Part.staysOver]
  change Part.stops (if (_ && _ && !p.alone) = true then _ else _) = _
  split
  · rfl
  · obtain ⟨a, b, c, d, e, f, h⟩ := Part.resumed_eq { p with stops := p.stops.filter fun x => !st x }
    rw [h]

/-- A partition of one device is released at once. -/
theorem Part.releaseFrom_single (p : Part) (st : Stop → Bool) (h : p.cls = 0) : (p.releaseFrom st).stops = p.stops.filter fun x => !st x := by
  have ht : p.alone = true := by simp [Part.alone, Part.multi, h]
  simp [Part.releaseFrom_stops, ht]

@[simp] theorem Part.releaseFrom_live (p : Part) (st : Stop → Bool) : (p.releaseFrom st).live = p.live := by
  obtain ⟨_, _, _, _, _, _, _, h⟩ := Part.releaseFrom_eq p st; rw [h]
@[simp] theorem Part.releaseFrom_tenant (p : Part) (st : Stop → Bool) : (p.releaseFrom st).tenant = p.tenant := by
  obtain ⟨_, _, _, _, _, _, _, h⟩ := Part.releaseFrom_eq p st; rw [h]
@[simp] theorem Part.releaseFrom_cores (p : Part) (st : Stop → Bool) : (p.releaseFrom st).cores = p.cores := by
  obtain ⟨_, _, _, _, _, _, _, h⟩ := Part.releaseFrom_eq p st; rw [h]
@[simp] theorem Part.releaseFrom_channels (p : Part) (st : Stop → Bool) : (p.releaseFrom st).channels = p.channels := by
  obtain ⟨_, _, _, _, _, _, _, h⟩ := Part.releaseFrom_eq p st; rw [h]
@[simp] theorem Part.releaseFrom_group (p : Part) (st : Stop → Bool) : (p.releaseFrom st).group = p.group := by
  obtain ⟨_, _, _, _, _, _, _, h⟩ := Part.releaseFrom_eq p st; rw [h]
@[simp] theorem Part.releaseFrom_cls (p : Part) (st : Stop → Bool) : (p.releaseFrom st).cls = p.cls := by
  obtain ⟨_, _, _, _, _, _, _, h⟩ := Part.releaseFrom_eq p st; rw [h]
@[simp] theorem Part.releaseFrom_resid (p : Part) (st : Stop → Bool) : (p.releaseFrom st).resid = p.resid := by
  obtain ⟨_, _, _, _, _, _, _, h⟩ := Part.releaseFrom_eq p st; rw [h]
@[simp] theorem Part.releaseFrom_pt (p : Part) (st : Stop → Bool) : (p.releaseFrom st).pt = p.pt := by
  obtain ⟨_, _, _, _, _, _, _, h⟩ := Part.releaseFrom_eq p st; rw [h]
@[simp] theorem Part.releaseFrom_stage (p : Part) (st : Stop → Bool) : (p.releaseFrom st).stage = p.stage := by
  obtain ⟨_, _, _, _, _, _, _, h⟩ := Part.releaseFrom_eq p st; rw [h]
@[simp] theorem Part.releaseFrom_holdTold (p : Part) (st : Stop → Bool) : (p.releaseFrom st).holdTold = p.holdTold := by
  obtain ⟨_, _, _, _, _, _, _, h⟩ := Part.releaseFrom_eq p st; rw [h]
@[simp] theorem Part.releaseFrom_policy (p : Part) (st : Stop → Bool) : (p.releaseFrom st).policy = p.policy := by
  obtain ⟨_, _, _, _, _, _, _, h⟩ := Part.releaseFrom_eq p st; rw [h]
@[simp] theorem Part.releaseFrom_alignAt (p : Part) (st : Stop → Bool) : (p.releaseFrom st).alignAt = p.alignAt := by
  obtain ⟨_, _, _, _, _, _, _, h⟩ := Part.releaseFrom_eq p st; rw [h]
@[simp] theorem Part.releaseFrom_flitTo (p : Part) (st : Stop → Bool) : (p.releaseFrom st).flitTo = p.flitTo := by
  obtain ⟨_, _, _, _, _, _, _, h⟩ := Part.releaseFrom_eq p st; rw [h]
@[simp] theorem Part.releaseFrom_noticeAt (p : Part) (st : Stop → Bool) : (p.releaseFrom st).noticeAt = p.noticeAt := by
  obtain ⟨_, _, _, _, _, _, _, h⟩ := Part.releaseFrom_eq p st; rw [h]
@[simp] theorem Part.releaseFrom_pauses (p : Part) (st : Stop → Bool) : (p.releaseFrom st).pauses = p.pauses := by
  obtain ⟨_, _, _, _, _, _, _, h⟩ := Part.releaseFrom_eq p st; rw [h]
@[simp] theorem Part.releaseFrom_debts (p : Part) (st : Stop → Bool) : (p.releaseFrom st).debts = p.debts := by
  obtain ⟨_, _, _, _, _, _, _, h⟩ := Part.releaseFrom_eq p st; rw [h]
@[simp] theorem Part.releaseFrom_losing (p : Part) (st : Stop → Bool) : (p.releaseFrom st).losing = p.losing := by
  obtain ⟨_, _, _, _, _, _, _, h⟩ := Part.releaseFrom_eq p st; rw [h]
@[simp] theorem Part.releaseFrom_away (p : Part) (st : Stop → Bool) : (p.releaseFrom st).away = p.away := by
  obtain ⟨_, _, _, _, _, _, _, h⟩ := Part.releaseFrom_eq p st; rw [h]
@[simp] theorem Part.releaseFrom_mates (p : Part) (st : Stop → Bool) : (p.releaseFrom st).mates = p.mates := by
  obtain ⟨_, _, _, _, _, _, _, h⟩ := Part.releaseFrom_eq p st; rw [h]
@[simp] theorem Part.releaseFrom_coreTable (p : Part) (st : Stop → Bool) : (p.releaseFrom st).coreTable = p.coreTable := by
  obtain ⟨_, _, _, _, _, _, _, h⟩ := Part.releaseFrom_eq p st; rw [h]
@[simp] theorem Part.releaseFrom_chanTable (p : Part) (st : Stop → Bool) : (p.releaseFrom st).chanTable = p.chanTable := by
  obtain ⟨_, _, _, _, _, _, _, h⟩ := Part.releaseFrom_eq p st; rw [h]
@[simp] theorem Part.releaseFrom_service (p : Part) (st : Stop → Bool) : (p.releaseFrom st).service = p.service := by
  obtain ⟨_, _, _, _, _, _, _, h⟩ := Part.releaseFrom_eq p st; rw [h]
@[simp] theorem Part.releaseFrom_pages (p : Part) (st : Stop → Bool) : (p.releaseFrom st).pages = p.pages := by
  obtain ⟨_, _, _, _, _, _, _, h⟩ := Part.releaseFrom_eq p st; rw [h]
@[simp] theorem Part.releaseFrom_freeFrames (p : Part) (st : Stop → Bool) : (p.releaseFrom st).freeFrames = p.freeFrames := by
  obtain ⟨_, _, _, _, _, _, _, h⟩ := Part.releaseFrom_eq p st; rw [h]
@[simp] theorem Part.releaseFrom_outPages (p : Part) (st : Stop → Bool) : (p.releaseFrom st).outPages = p.outPages := by
  obtain ⟨_, _, _, _, _, _, _, h⟩ := Part.releaseFrom_eq p st; rw [h]
@[simp] theorem Part.releaseFrom_outChans (p : Part) (st : Stop → Bool) : (p.releaseFrom st).outChans = p.outChans := by
  obtain ⟨_, _, _, _, _, _, _, h⟩ := Part.releaseFrom_eq p st; rw [h]
@[simp] theorem Part.releaseFrom_t1Queue (p : Part) (st : Stop → Bool) : (p.releaseFrom st).t1Queue = p.t1Queue := by
  obtain ⟨_, _, _, _, _, _, _, h⟩ := Part.releaseFrom_eq p st; rw [h]
@[simp] theorem Part.releaseFrom_served (p : Part) (st : Stop → Bool) : (p.releaseFrom st).served = p.served := by
  obtain ⟨_, _, _, _, _, _, _, h⟩ := Part.releaseFrom_eq p st; rw [h]
@[simp] theorem Part.releaseFrom_queue (p : Part) (st : Stop → Bool) : (p.releaseFrom st).queue = p.queue := by
  obtain ⟨_, _, _, _, _, _, _, h⟩ := Part.releaseFrom_eq p st; rw [h]
@[simp] theorem Part.releaseFrom_qfrozen (p : Part) (st : Stop → Bool) : (p.releaseFrom st).qfrozen = p.qfrozen := by
  obtain ⟨_, _, _, _, _, _, _, h⟩ := Part.releaseFrom_eq p st; rw [h]
@[simp] theorem Part.releaseFrom_task (p : Part) (st : Stop → Bool) : (p.releaseFrom st).task = p.task := by
  obtain ⟨_, _, _, _, _, _, _, h⟩ := Part.releaseFrom_eq p st; rw [h]
@[simp] theorem Part.releaseFrom_loading (p : Part) (st : Stop → Bool) : (p.releaseFrom st).loading = p.loading := by
  obtain ⟨_, _, _, _, _, _, _, h⟩ := Part.releaseFrom_eq p st; rw [h]
@[simp] theorem Part.releaseFrom_loadedAt (p : Part) (st : Stop → Bool) : (p.releaseFrom st).loadedAt = p.loadedAt := by
  obtain ⟨_, _, _, _, _, _, _, h⟩ := Part.releaseFrom_eq p st; rw [h]
@[simp] theorem Part.releaseFrom_loads (p : Part) (st : Stop → Bool) : (p.releaseFrom st).loads = p.loads := by
  obtain ⟨_, _, _, _, _, _, _, h⟩ := Part.releaseFrom_eq p st; rw [h]
@[simp] theorem Part.releaseFrom_coreOf (p : Part) (st : Stop → Bool) : (p.releaseFrom st).coreOf = p.coreOf := by
  obtain ⟨_, _, _, _, _, _, _, h⟩ := Part.releaseFrom_eq p st; rw [h]
@[simp] theorem Part.releaseFrom_banks (p : Part) (st : Stop → Bool) : (p.releaseFrom st).banks = p.banks := by
  obtain ⟨_, _, _, _, _, _, _, h⟩ := Part.releaseFrom_eq p st; rw [h]
@[simp] theorem Part.releaseFrom_chans (p : Part) (st : Stop → Bool) : (p.releaseFrom st).chans = p.chans := by
  obtain ⟨_, _, _, _, _, _, _, h⟩ := Part.releaseFrom_eq p st; rw [h]
@[simp] theorem Part.releaseFrom_barriers (p : Part) (st : Stop → Bool) : (p.releaseFrom st).barriers = p.barriers := by
  obtain ⟨_, _, _, _, _, _, _, h⟩ := Part.releaseFrom_eq p st; rw [h]
@[simp] theorem Part.releaseFrom_remotes (p : Part) (st : Stop → Bool) : (p.releaseFrom st).remotes = p.remotes := by
  obtain ⟨_, _, _, _, _, _, _, h⟩ := Part.releaseFrom_eq p st; rw [h]
@[simp] theorem Part.releaseFrom_phase (p : Part) (st : Stop → Bool) : (p.releaseFrom st).phase = p.phase := by
  obtain ⟨_, _, _, _, _, _, _, h⟩ := Part.releaseFrom_eq p st; rw [h]
@[simp] theorem Part.releaseFrom_phasedAt (p : Part) (st : Stop → Bool) : (p.releaseFrom st).phasedAt = p.phasedAt := by
  obtain ⟨_, _, _, _, _, _, _, h⟩ := Part.releaseFrom_eq p st; rw [h]

@[simp] theorem Part.releaseFrom_awayKi (p : Part) (st : Stop → Bool) : (p.releaseFrom st).awayKi = p.awayKi := by
  obtain ⟨_, _, _, _, _, _, _, h⟩ := Part.releaseFrom_eq p st; rw [h]
@[simp] theorem Part.releaseFrom_excused (p : Part) (st : Stop → Bool) : (p.releaseFrom st).excused = p.excused := by
  obtain ⟨_, _, _, _, _, _, _, h⟩ := Part.releaseFrom_eq p st; rw [h]
@[simp] theorem Part.releaseFrom_leaves (p : Part) (st : Stop → Bool) : (p.releaseFrom st).leaves = p.leaves := by
  obtain ⟨_, _, _, _, _, _, _, h⟩ := Part.releaseFrom_eq p st; rw [h]
@[simp] theorem Part.releaseFrom_clampOn (p : Part) (st : Stop → Bool) : (p.releaseFrom st).clampOn = p.clampOn := by
  obtain ⟨_, _, _, _, _, _, _, h⟩ := Part.releaseFrom_eq p st; rw [h]
@[simp] theorem Part.releaseFrom_preempt (p : Part) (st : Stop → Bool) : (p.releaseFrom st).preempt = p.preempt := by
  obtain ⟨_, _, _, _, _, _, _, h⟩ := Part.releaseFrom_eq p st; rw [h]
@[simp] theorem Part.releaseFrom_preemptTold (p : Part) (st : Stop → Bool) : (p.releaseFrom st).preemptTold = p.preemptTold := by
  obtain ⟨_, _, _, _, _, _, _, h⟩ := Part.releaseFrom_eq p st; rw [h]
@[simp] theorem Part.releaseFrom_forceAlways (p : Part) (st : Stop → Bool) : (p.releaseFrom st).forceAlways = p.forceAlways := by
  obtain ⟨_, _, _, _, _, _, _, h⟩ := Part.releaseFrom_eq p st; rw [h]
@[simp] theorem Part.releaseFrom_portMask (p : Part) (st : Stop → Bool) : (p.releaseFrom st).portMask = p.portMask := by
  obtain ⟨_, _, _, _, _, _, _, h⟩ := Part.releaseFrom_eq p st; rw [h]
@[simp] theorem Part.releaseFrom_portLand (p : Part) (st : Stop → Bool) : (p.releaseFrom st).portLand = p.portLand := by
  obtain ⟨_, _, _, _, _, _, _, h⟩ := Part.releaseFrom_eq p st; rw [h]
@[simp] theorem Part.releaseFrom_inbound (p : Part) (st : Stop → Bool) : (p.releaseFrom st).inbound = p.inbound := by
  obtain ⟨_, _, _, _, _, _, _, h⟩ := Part.releaseFrom_eq p st; rw [h]
@[simp] theorem Part.releaseFrom_frec (p : Part) (st : Stop → Bool) : (p.releaseFrom st).frec = p.frec := by
  obtain ⟨_, _, _, _, _, _, _, h⟩ := Part.releaseFrom_eq p st; rw [h]
@[simp] theorem Part.releaseFrom_handlerAt (p : Part) (st : Stop → Bool) : (p.releaseFrom st).handlerAt = p.handlerAt := by
  obtain ⟨_, _, _, _, _, _, _, h⟩ := Part.releaseFrom_eq p st; rw [h]
@[simp] theorem Part.releaseFrom_failing (p : Part) (st : Stop → Bool) : (p.releaseFrom st).failing = p.failing := by
  obtain ⟨_, _, _, _, _, _, _, h⟩ := Part.releaseFrom_eq p st; rw [h]
@[simp] theorem Part.releaseFrom_endAfter (p : Part) (st : Stop → Bool) : (p.releaseFrom st).endAfter = p.endAfter := by
  obtain ⟨_, _, _, _, _, _, _, h⟩ := Part.releaseFrom_eq p st; rw [h]
@[simp] theorem Part.releaseFrom_wantRestore (p : Part) (st : Stop → Bool) : (p.releaseFrom st).wantRestore = p.wantRestore := by
  obtain ⟨_, _, _, _, _, _, _, h⟩ := Part.releaseFrom_eq p st; rw [h]
@[simp] theorem Part.releaseFrom_resumeAt (p : Part) (st : Stop → Bool) : (p.releaseFrom st).resumeAt = p.resumeAt := by
  obtain ⟨_, _, _, _, _, _, _, h⟩ := Part.releaseFrom_eq p st; rw [h]
@[simp] theorem Part.releaseFrom_pcmd (p : Part) (st : Stop → Bool) : (p.releaseFrom st).pcmd = p.pcmd := by
  obtain ⟨_, _, _, _, _, _, _, h⟩ := Part.releaseFrom_eq p st; rw [h]
@[simp] theorem Part.releaseFrom_parg (p : Part) (st : Stop → Bool) : (p.releaseFrom st).parg = p.parg := by
  obtain ⟨_, _, _, _, _, _, _, h⟩ := Part.releaseFrom_eq p st; rw [h]
@[simp] theorem Part.releaseFrom_pres (p : Part) (st : Stop → Bool) : (p.releaseFrom st).pres = p.pres := by
  obtain ⟨_, _, _, _, _, _, _, h⟩ := Part.releaseFrom_eq p st; rw [h]
@[simp] theorem Part.releaseFrom_meter (p : Part) (st : Stop → Bool) : (p.releaseFrom st).meter = p.meter := by
  obtain ⟨_, _, _, _, _, _, _, h⟩ := Part.releaseFrom_eq p st; rw [h]
@[simp] theorem Part.releaseFrom_meterHold (p : Part) (st : Stop → Bool) : (p.releaseFrom st).meterHold = p.meterHold := by
  obtain ⟨_, _, _, _, _, _, _, h⟩ := Part.releaseFrom_eq p st; rw [h]
@[simp] theorem Part.releaseFrom_meterSat (p : Part) (st : Stop → Bool) : (p.releaseFrom st).meterSat = p.meterSat := by
  obtain ⟨_, _, _, _, _, _, _, h⟩ := Part.releaseFrom_eq p st; rw [h]
@[simp] theorem Part.releaseFrom_facc (p : Part) (st : Stop → Bool) : (p.releaseFrom st).facc = p.facc := by
  obtain ⟨_, _, _, _, _, _, _, h⟩ := Part.releaseFrom_eq p st; rw [h]
@[simp] theorem Part.releaseFrom_factOk (p : Part) (st : Stop → Bool) : (p.releaseFrom st).factOk = p.factOk := by
  obtain ⟨_, _, _, _, _, _, _, h⟩ := Part.releaseFrom_eq p st; rw [h]
@[simp] theorem Part.releaseFrom_features (p : Part) (st : Stop → Bool) : (p.releaseFrom st).features = p.features := by
  obtain ⟨_, _, _, _, _, _, _, h⟩ := Part.releaseFrom_eq p st; rw [h]
@[simp] theorem Part.releaseFrom_featuresNext (p : Part) (st : Stop → Bool) : (p.releaseFrom st).featuresNext = p.featuresNext := by
  obtain ⟨_, _, _, _, _, _, _, h⟩ := Part.releaseFrom_eq p st; rw [h]
@[simp] theorem Part.releaseFrom_debug (p : Part) (st : Stop → Bool) : (p.releaseFrom st).debug = p.debug := by
  obtain ⟨_, _, _, _, _, _, _, h⟩ := Part.releaseFrom_eq p st; rw [h]
@[simp] theorem Part.releaseFrom_breakMask (p : Part) (st : Stop → Bool) : (p.releaseFrom st).breakMask = p.breakMask := by
  obtain ⟨_, _, _, _, _, _, _, h⟩ := Part.releaseFrom_eq p st; rw [h]
@[simp] theorem Part.releaseFrom_digest (p : Part) (st : Stop → Bool) : (p.releaseFrom st).digest = p.digest := by
  obtain ⟨_, _, _, _, _, _, _, h⟩ := Part.releaseFrom_eq p st; rw [h]
@[simp] theorem Part.releaseFrom_corrupt (p : Part) (st : Stop → Bool) : (p.releaseFrom st).corrupt = p.corrupt := by
  obtain ⟨_, _, _, _, _, _, _, h⟩ := Part.releaseFrom_eq p st; rw [h]
@[simp] theorem Part.releaseFrom_nodePage (p : Part) (st : Stop → Bool) : (p.releaseFrom st).nodePage = p.nodePage := by
  obtain ⟨_, _, _, _, _, _, _, h⟩ := Part.releaseFrom_eq p st; rw [h]
@[simp] theorem Part.releaseFrom_nodeCount (p : Part) (st : Stop → Bool) : (p.releaseFrom st).nodeCount = p.nodeCount := by
  obtain ⟨_, _, _, _, _, _, _, h⟩ := Part.releaseFrom_eq p st; rw [h]

@[simp] theorem Part.releaseFrom_core (p : Part) (st : Stop → Bool) (c : Nat) : (p.releaseFrom st).core c = p.core c := by
  simp [Part.core]

end Sys2Proof.Machine
end

