-- ==== Sys2Proof/Laws/Issue.lean ====
section
/-! SUPPORT. What the issue of an op can do: a failing check, a false condition, an error met by a read, its effects (03_core R39, R43, R47;
16_faults R239, R241). -/

namespace Sys2Proof.Machine

theorem executes_iff (s : State) (g : Guard) (i : Instr) :
    executes s g i = true ↔
      opCheck s s.cursor.vf s.cursor.core s.cursor.slot (s.hereCore.slot s.cursor.slot) g i = none
      ∧ s.hereCore.guardError g = none ∧ s.hereCore.holds g = true ∧ s.hereCore.issueError s.cursor.slot i = none := by
  simp [executes, passes, and_assoc, Option.isNone_iff_eq_none]

/-- A failing check: the fault, and nothing else. -/
theorem issueOp_fails {s : State} {g : Guard} {i : Instr} (step : Sticky → Sticky) (eff : State → State) {b : Bad}
    (h : opCheck s s.cursor.vf s.cursor.core s.cursor.slot (s.hereCore.slot s.cursor.slot) g i = some b) :
    issueOp i g step eff s = .next (raise s.cursor.vf (issueFault s.here s.cursor.core s.cursor.slot b) s) := by
  simp [issueOp, h]

/-- A false condition: the step alone. -/
theorem issueOp_false {s : State} {g : Guard} {i : Instr} (step : Sticky → Sticky) (eff : State → State)
    (h : passes s g i = true) (hg : s.hereCore.guardError g = none) (hc : s.hereCore.holds g = false) :
    issueOp i g step eff s = .next (s.onHere fun c => c.setSlot s.cursor.slot (step (c.slot s.cursor.slot))) := by
  simp only [passes, decide_eq_true_eq] at h
  simp [issueOp, guardedEffects, h, hg, hc]

/-- A condition that cannot be read: the fault of the next cycle, and the step. -/
theorem issueOp_unread {s : State} {g : Guard} {i : Instr} (step : Sticky → Sticky) (eff : State → State) {e : Nat × Nat}
    (h : passes s g i = true) (hg : s.hereCore.guardError g = some e) :
    issueOp i g step eff s = .next (s.onHere fun c =>
      let k := c.issue s.here.pt s.cursor.slot [(1, .readError e.1 e.2)]
      k.setSlot s.cursor.slot (step (k.slot s.cursor.slot))) := by
  simp only [passes, decide_eq_true_eq] at h
  simp [issueOp, guardedEffects, h, hg]

/-- An op that executes: its effects, after its touches are reserved, and its step. -/
theorem issueOp_executes {s : State} {g : Guard} {i : Instr} (step : Sticky → Sticky) (eff : State → State)
    (h : executes s g i = true) :
    issueOp i g step eff s = .next
      ((eff (s.onHere fun c => c.reserve (touchesOf s.hereCore s.cursor.slot s.here.pt s.here.t0 (s.hereCore.slot s.cursor.slot) i))).onHere
        fun c => c.setSlot s.cursor.slot (step (c.slot s.cursor.slot))) := by
  obtain ⟨h1, h2, h3, h4⟩ := (executes_iff s g i).1 h
  simp [issueOp, guardedEffects, issueEffects, h1, h2, h3, h4]

/-- What one op can do at its issue. -/
theorem issueOp_cases (i : Instr) (g : Guard) (step : Sticky → Sticky) (eff : State → State) (s : State) :
    (∃ b, opCheck s s.cursor.vf s.cursor.core s.cursor.slot (s.hereCore.slot s.cursor.slot) g i = some b
      ∧ issueOp i g step eff s = .next (raise s.cursor.vf (issueFault s.here s.cursor.core s.cursor.slot b) s))
    ∨ (∃ e, passes s g i = true ∧ s.hereCore.guardError g = some e
      ∧ issueOp i g step eff s = .next (s.onHere fun c =>
          let k := c.issue s.here.pt s.cursor.slot [(1, .readError e.1 e.2)]
          k.setSlot s.cursor.slot (step (k.slot s.cursor.slot))))
    ∨ (passes s g i = true ∧ s.hereCore.guardError g = none ∧ s.hereCore.holds g = false
      ∧ issueOp i g step eff s = .next (s.onHere fun c => c.setSlot s.cursor.slot (step (c.slot s.cursor.slot))))
    ∨ (∃ e, passes s g i = true ∧ s.hereCore.guardError g = none ∧ s.hereCore.holds g = true ∧ s.hereCore.issueError s.cursor.slot i = some e
      ∧ issueOp i g step eff s = .next (s.onHere fun c =>
          let k := (c.reserve (touchesOf s.hereCore s.cursor.slot s.here.pt s.here.t0 (s.hereCore.slot s.cursor.slot) i)).issue s.here.pt
            s.cursor.slot [(1, .readError e.1 e.2)]
          k.setSlot s.cursor.slot (step (k.slot s.cursor.slot))))
    ∨ (executes s g i = true ∧ issueOp i g step eff s = .next
      ((eff (s.onHere fun c => c.reserve (touchesOf s.hereCore s.cursor.slot s.here.pt s.here.t0 (s.hereCore.slot s.cursor.slot) i))).onHere
        fun c => c.setSlot s.cursor.slot (step (c.slot s.cursor.slot)))) := by
  cases h : opCheck s s.cursor.vf s.cursor.core s.cursor.slot (s.hereCore.slot s.cursor.slot) g i with
  | some b => exact .inl ⟨b, rfl, issueOp_fails step eff h⟩
  | none =>
    have hp : passes s g i = true := by simp [passes, h]
    cases hg : s.hereCore.guardError g with
    | some e => exact .inr (.inl ⟨e, hp, rfl, issueOp_unread step eff hp hg⟩)
    | none =>
      cases hc : s.hereCore.holds g with
      | false => exact .inr (.inr (.inl ⟨hp, rfl, rfl, issueOp_false step eff hp hg hc⟩))
      | true =>
        cases he : s.hereCore.issueError s.cursor.slot i with
        | some e => exact .inr (.inr (.inr (.inl ⟨e, hp, rfl, rfl, rfl, by simp [issueOp, guardedEffects, issueEffects, h, hg, hc, he]⟩)))
        | none =>
          have hx : executes s g i = true := (executes_iff s g i).2 ⟨h, hg, hc, he⟩
          exact .inr (.inr (.inr (.inr ⟨hx, issueOp_executes step eff hx⟩)))

/-- An op never stops the machine. -/
theorem issueOp_next (i : Instr) (g : Guard) (step : Sticky → Sticky) (eff : State → State) (s : State) :
    ∃ t, issueOp i g step eff s = .next t := by
  rcases issueOp_cases i g step eff s with ⟨_, _, h⟩ | ⟨_, _, _, h⟩ | ⟨_, _, _, h⟩ | ⟨_, _, _, _, _, h⟩ | ⟨_, h⟩ <;> exact ⟨_, h⟩

theorem onHere_congr (s : State) {f g : Core → Core} (h : f s.hereCore = g s.hereCore) : s.onHere f = s.onHere g := by
  unfold State.onHere State.onCore State.onPart Part.onCore
  exact congrArg _ (congrArg _ h)

/-- An op that changes its core by `f`, from the core alone. -/
theorem issueOp_issued {s : State} {g : Guard} {i : Instr} (step : Sticky → Sticky) {eff : State → State} (f : Core → Core)
    (h : executes s g i = true) (hf : ∀ ts, eff (s.onHere fun c => c.reserve ts) = (s.onHere fun c => c.reserve ts).onHere f) :
    issueOp i g step eff s = .next (s.issued i step f) := by
  rw [issueOp_executes step eff h, hf]
  simp only [State.onHere_onHere, State.issued]
  exact congrArg Host.Outcome.next (onHere_congr s rfl)

theorem issueCore_executes {s : State} {g : Guard} {i : Instr} (f : Nat → Core → Core) (h : executes s g i = true) :
    issueCore i g f s = .next (s.issued i id (f s.here.pt)) := by
  refine issueOp_issued id _ h fun ts => ?_
  simp

/-- An op that puts effects in flight, computed from registers and its sticky op. -/
theorem issueResults_executes {s : State} {g : Guard} {i : Instr} (f : Core → List (Nat × Eff)) (h : executes s g i = true)
    (hf : ∀ c ts, f (Core.reserve c ts) = f c) :
    issueResults i g f s = .next (s.inFlight i id (f s.hereCore)) := by
  unfold issueResults State.inFlight
  rw [issueOp_issued id (fun c => c.issue s.here.pt s.cursor.slot (f c)) h fun ts => by simp]
  unfold State.issued
  refine congrArg Host.Outcome.next (onHere_congr s ?_)
  simp only [hf]

theorem issueReg_executes {s : State} {g : Guard} {i : Instr} (lat : Nat) (d : Dst) (f : Core → Nat) (h : executes s g i = true)
    (hf : ∀ c ts, f (Core.reserve c ts) = f c) :
    issueReg i g lat d f s = .next (s.inFlight i id [(lat, .reg d (f s.hereCore))]) :=
  issueResults_executes _ h fun c ts => by simp only [hf]

/-- An op with a step that puts effects in flight. -/
theorem issueStep_executes {s : State} {g : Guard} {i : Instr} (step : Sticky → Sticky) {eff : State → State}
    (f : Core → List (Nat × Eff)) (h : executes s g i = true)
    (he : ∀ ts, eff (s.onHere fun c => c.reserve ts)
      = (s.onHere fun c => c.reserve ts).onHere fun c => c.issue s.here.pt s.cursor.slot (f c))
    (hf : ∀ c ts, f (Core.reserve c ts) = f c) :
    issueOp i g step eff s = .next (s.inFlight i step (f s.hereCore)) := by
  rw [issueOp_issued step (fun c => c.issue s.here.pt s.cursor.slot (f c)) h he]
  unfold State.inFlight State.issued
  refine congrArg Host.Outcome.next (onHere_congr s ?_)
  simp only [hf]

/-- A V op that writes one register of its slot's file. -/
theorem vReg_executes {s : State} {g : Guard} {i : Instr} (lat d : Nat) (f : Nat → Core → Nat) (h : executes s g i = true)
    (hf : ∀ c ts, f s.cursor.slot (Core.reserve c ts) = f s.cursor.slot c) :
    vReg i g lat d f s = .next (s.inFlight i id [(lat, .reg (vDst s.cursor.slot d) (f s.cursor.slot s.hereCore))]) :=
  issueReg_executes lat _ (f s.cursor.slot) h hf

end Sys2Proof.Machine
end

