-- ==== Sys2Proof/Laws/Memory.lean ====
section
/-! SUPPORT. Reading and writing byte memories, and the canonical form that every memory operation keeps. -/

namespace Sys2Proof.Machine

/-! ### One byte read back -/

@[simp] theorem memGet_nil (a : Nat) : memGet [] a = 0 := rfl

theorem memGet_append (m n : Mem) (a : Nat) (h : ∀ c ∈ m, c.1 ≠ a) : memGet (m ++ n) a = memGet n a := by
  induction m with
  | nil => rfl
  | cons c r ih =>
    obtain ⟨k, b⟩ := c
    have hk : k ≠ a := h (k, b) (by simp)
    simp only [List.cons_append, memGet, hk, if_false]
    exact ih fun c hc => h c (by simp [hc])

theorem memGet_append_left (m n : Mem) (a : Nat) (h : ∀ c ∈ n, c.1 ≠ a) : memGet (m ++ n) a = memGet m a := by
  induction m with
  | nil =>
    have := memGet_append n [] a h
    simpa using this
  | cons c r ih => obtain ⟨k, b⟩ := c; simp only [List.cons_append, memGet, ih]

theorem memGet_filter (m : Mem) (f : Nat → Bool) (a : Nat) :
    memGet (m.filter fun c => f c.1) a = if f a then memGet m a else 0 := by
  induction m with
  | nil => simp [memGet]
  | cons c r ih =>
    obtain ⟨k, b⟩ := c
    by_cases hk : k = a
    · subst hk
      by_cases hf : f k
      · simp [hf, memGet]
      · simp [hf, ih]
    · by_cases hf : f k
      · simp [hf, memGet, hk, ih]
      · simp [hf, memGet, hk, ih]

theorem mem_cells {a : Nat} {bs : List Byte} {c : Host.Cell} (h : c ∈ cells a bs) : a ≤ c.1 ∧ c.1 < a + bs.length := by
  induction bs generalizing a with
  | nil => simp [cells] at h
  | cons b r ih =>
    simp only [cells] at h
    split at h
    · have := ih h; simp only [List.length_cons]; omega
    · simp only [List.mem_cons] at h
      rcases h with h | h
      · subst h; simp only [List.length_cons]; omega
      · have := ih h; simp only [List.length_cons]; omega

theorem memGet_cells (a : Nat) (bs : List Byte) (i : Nat) (h : i < bs.length) : memGet (cells a bs) (a + i) = bs[i] := by
  induction bs generalizing a i with
  | nil => simp at h
  | cons b r ih =>
    cases i with
    | zero =>
      simp only [cells]
      split
      · rename_i hb
        have hn := memGet_append (cells (a + 1) r) [] a (fun c hc => by have := mem_cells hc; omega)
        rw [List.append_nil] at hn
        simp [hn, hb]
      · simp [memGet]
    | succ j =>
      have hj : j < r.length := by simpa using h
      have e : a + (j + 1) = a + 1 + j := by omega
      simp only [cells]
      split
      · rw [e, ih (a + 1) j hj]; simp
      · have hk : a ≠ a + (j + 1) := by omega
        simp only [memGet, hk, if_false]
        rw [e, ih (a + 1) j hj]; simp

/-- A byte inside a write reads as what was written. -/
theorem memGet_memWrite_in (m : Mem) (a : Nat) (bs : List Byte) (i : Nat) (h : i < bs.length) :
    memGet (memWrite m a bs) (a + i) = bs[i] := by
  unfold memWrite
  rw [List.append_assoc, memGet_append _ _ _ (fun c hc => by simp at hc; omega),
    memGet_append_left _ _ _ (fun c hc => by simp at hc; omega)]
  exact memGet_cells a bs i h

/-- A byte outside a write reads as before. -/
theorem memGet_memWrite_out (m : Mem) (a : Nat) (bs : List Byte) (x : Nat) (h : x < a ∨ a + bs.length ≤ x) :
    memGet (memWrite m a bs) x = memGet m x := by
  unfold memWrite
  rcases h with h | h
  · rw [memGet_append_left _ _ _ (fun c hc => by simp at hc; omega),
      memGet_append_left _ _ _ (fun c hc => by have := mem_cells hc; omega),
      memGet_filter m (fun k => decide (k < a)) x]
    simp [h]
  · rw [List.append_assoc, memGet_append _ _ _ (fun c hc => by simp at hc; omega),
      memGet_append _ _ _ (fun c hc => by have := mem_cells hc; omega),
      memGet_filter m (fun k => decide (a + bs.length ≤ k)) x]
    simp [h]

theorem memRead_eq (m : Mem) (a n : Nat) : memRead m a n = (List.range n).map fun i => memGet m (a + i) := by
  unfold memRead
  refine List.map_congr_left fun i hi => ?_
  have hi : i < n := by simpa using hi
  have := memGet_filter m (fun k => decide (a ≤ k ∧ k < a + n)) (a + i)
  simp only [this]
  have h1 : a ≤ a + i ∧ a + i < a + n := by omega
  simp [h1]

/-! ### Numbers in bytes -/

theorem leNat_leBytes (n v : Nat) : leNat (leBytes n v) = v % 256 ^ n := by
  induction n generalizing v with
  | zero => simp [leBytes, leNat, Nat.mod_one]
  | succ n ih =>
    have h := Nat.mod_mul (x := v) (a := 256) (b := 256 ^ n)
    rw [Nat.pow_succ, Nat.mul_comm (256 ^ n), h]
    simp [leBytes, leNat, ih]

@[simp] theorem leBytes_length (n v : Nat) : (leBytes n v).length = n := by
  induction n generalizing v with
  | zero => rfl
  | succ n ih => simp [leBytes, ih]

/-! ### The canonical form -/

theorem Memory.wf_iff (m : Mem) :
    Memory.wf m = true ↔ m.Pairwise (fun a b => a.1 < b.1) ∧ ∀ c ∈ m, c.2 ≠ 0 := by
  induction m with
  | nil => simp [Memory.wf]
  | cons c r ih =>
    obtain ⟨k, b⟩ := c
    cases r with
    | nil => simp [Memory.wf]
    | cons d r =>
      obtain ⟨k', b'⟩ := d
      simp only [Memory.wf, Bool.and_eq_true, decide_eq_true_eq, ih]
      constructor
      · rintro ⟨⟨hb, hk⟩, hp, hz⟩
        refine ⟨?_, ?_⟩
        · rw [List.pairwise_cons]
          refine ⟨?_, hp⟩
          intro e he
          rw [List.pairwise_cons] at hp
          simp only [List.mem_cons] at he
          rcases he with he | he
          · subst he; exact hk
          · have := hp.1 e he
            simp only at this ⊢
            omega
        · intro e he
          simp only [List.mem_cons] at he
          rcases he with he | he | he
          · subst he; exact hb
          · subst he; exact hz _ (by simp)
          · exact hz e (by simp [he])
      · rintro ⟨hp, hz⟩
        rw [List.pairwise_cons] at hp
        exact ⟨⟨hz (k, b) (by simp), hp.1 (k', b') (by simp)⟩, hp.2, fun e he => hz e (by simp [he])⟩

theorem Memory.wf_nil : Memory.wf [] = true := rfl

theorem Memory.wf_filter {m : Mem} (h : Memory.wf m = true) (f : Host.Cell → Bool) : Memory.wf (m.filter f) = true := by
  rw [Memory.wf_iff] at h ⊢
  exact ⟨h.1.filter _, fun c hc => h.2 c (List.mem_filter.1 hc).1⟩

theorem cells_wf (a : Nat) (bs : List Byte) : Memory.wf (cells a bs) = true := by
  rw [Memory.wf_iff]
  induction bs generalizing a with
  | nil => simp [cells]
  | cons b r ih =>
    simp only [cells]
    split
    · exact ih (a + 1)
    · rename_i hb
      refine ⟨?_, ?_⟩
      · rw [List.pairwise_cons]
        exact ⟨fun c hc => by have := mem_cells hc; simp only; omega, (ih (a + 1)).1⟩
      · intro c hc
        simp only [List.mem_cons] at hc
        rcases hc with hc | hc
        · subst hc; exact hb
        · exact (ih (a + 1)).2 c hc

/-- A write keeps the canonical form. -/
theorem memWrite_wf {m : Mem} (h : Memory.wf m = true) (a : Nat) (bs : List Byte) : Memory.wf (memWrite m a bs) = true := by
  have h1 := (Memory.wf_iff _).1 (Memory.wf_filter h fun c => decide (c.1 < a))
  have h2 := (Memory.wf_iff _).1 (cells_wf a bs)
  have h3 := (Memory.wf_iff _).1 (Memory.wf_filter h fun c => decide (a + bs.length ≤ c.1))
  rw [Memory.wf_iff]
  unfold memWrite
  refine ⟨?_, ?_⟩
  · rw [List.pairwise_append, List.pairwise_append]
    refine ⟨⟨h1.1, h2.1, ?_⟩, h3.1, ?_⟩
    · intro c hc d hd
      have := mem_cells hd
      simp at hc; omega
    · intro c hc d hd
      simp only [List.mem_append] at hc
      simp at hd
      rcases hc with hc | hc
      · simp at hc; omega
      · have := mem_cells hc; omega
  · intro c hc
    simp only [List.mem_append] at hc
    rcases hc with (hc | hc) | hc
    · exact h1.2 c hc
    · exact h2.2 c hc
    · exact h3.2 c hc

theorem loadBytes_wf {m : Mem} (h : Memory.wf m = true) (bs : List (Nat × Byte)) : Memory.wf (loadBytes m bs) = true := by
  unfold loadBytes
  induction bs generalizing m with
  | nil => exact h
  | cons c r ih => exact ih (memWrite_wf h _ _)

theorem writeCells_wf {m : Mem} (h : Memory.wf m = true) (off : Nat) (cs : Mem) : Memory.wf (writeCells m off cs) = true := by
  unfold writeCells
  induction cs generalizing m with
  | nil => exact h
  | cons c r ih => exact ih (memWrite_wf h _ _)

theorem eraseRows_wf {m : Mem} (h : Memory.wf m = true) (ch r n : Nat) : Memory.wf (eraseRows m ch r n) = true :=
  Memory.wf_filter h _

theorem placeRows_wf {m : Mem} (h : Memory.wf m = true) (ch r : Nat) (cs : Mem) : Memory.wf (placeRows m ch r cs) = true :=
  writeCells_wf h _ _

/-- Bytes laid one by one, each where `f` puts it, keep the canonical form. -/
theorem layCells_wf {m : Mem} (h : Memory.wf m = true) (f : Nat → Nat) (cs : Mem) :
    Memory.wf (cs.foldl (fun m c => memWrite m (f c.1) [c.2]) m) = true := by
  induction cs generalizing m with
  | nil => exact h
  | cons c r ih => exact ih (memWrite_wf h _ _)

theorem fillRange_wf {m : Mem} (h : Memory.wf m = true) (a n : Nat) (cs : Mem) : Memory.wf (fillRange m a n cs) = true :=
  writeCells_wf (Memory.wf_filter h _) _ _

/-- Cells taken out by a test and moved down by the same distance are in canonical form. -/
theorem Memory.wf_shift {m : Mem} (h : Memory.wf m = true) (f : Host.Cell → Bool) (g : Nat → Nat)
    (hg : ∀ c ∈ m, ∀ d ∈ m, f c = true → f d = true → c.1 < d.1 → g c.1 < g d.1) :
    Memory.wf ((m.filter f).map fun c => (g c.1, c.2)) = true := by
  have hf := (Memory.wf_iff _).1 (Memory.wf_filter h f)
  rw [Memory.wf_iff]
  refine ⟨?_, ?_⟩
  · rw [List.pairwise_map]
    refine List.Pairwise.imp_of_mem ?_ hf.1
    intro a b ha hb hab
    exact hg a (List.mem_filter.1 ha).1 b (List.mem_filter.1 hb).1 (List.mem_filter.1 ha).2 (List.mem_filter.1 hb).2 hab
  · intro c hc
    simp only [List.mem_map] at hc
    obtain ⟨d, hd, rfl⟩ := hc
    exact hf.2 d hd

theorem rangeOf_wf {m : Mem} (h : Memory.wf m = true) (a n : Nat) : Memory.wf (rangeOf m a n) = true :=
  Memory.wf_shift h _ (fun x => x - a) fun c _ d _ hc hd hcd => by
    have := of_decide_eq_true hc; have := of_decide_eq_true hd; omega

/-- The rows taken out of a channel are in canonical form, counted from their first. -/
theorem rowsOf_wf {m : Mem} (h : Memory.wf m = true) (ch r n : Nat) : Memory.wf (rowsOf m ch r n) = true :=
  Memory.wf_shift h _ (fun x => x % 2 ^ 32 - r * 2 ^ 12) fun c _ d _ hc hd hcd => by
    have hc := of_decide_eq_true hc; have hd := of_decide_eq_true hd
    simp only [rowOf] at hc hd
    omega

/-! ### The banks of a channel: T0 rows in program banks, T1 bytes in service banks (01_device R11; 09_memory R132) -/

theorem Part.fit_frame (p : Part) (s : State) (e : Nat × Nat) : p.fit s e = { s with dram := (p.fit s e).dram, t1 := (p.fit s e).t1 } := rfl

theorem Part.memGet_fit_dram (p : Part) (s : State) (e : Nat × Nat) (a : Nat) :
    memGet (p.fit s e).dram a = if decide (a / 2 ^ 32 ≠ e.2) || p.inProgramBank e.1 a then memGet s.dram a else 0 :=
  memGet_filter s.dram (fun a => decide (a / 2 ^ 32 ≠ e.2) || p.inProgramBank e.1 a) a

theorem Part.memGet_fit_t1 (p : Part) (s : State) (e : Nat × Nat) (a : Nat) :
    memGet (p.fit s e).t1 a = if a / 2 ^ 32 ≠ e.2 ∨ a % 2 ^ 32 / 65536 < p.nearLimit e.1 then memGet s.t1 a else 0 := by
  rw [show (p.fit s e).t1 = s.t1.filter fun c => decide (c.1 / 2 ^ 32 ≠ e.2 ∨ c.1 % 2 ^ 32 / 65536 < p.nearLimit e.1) from rfl,
    memGet_filter s.t1 (fun a => decide (a / 2 ^ 32 ≠ e.2 ∨ a % 2 ^ 32 / 65536 < p.nearLimit e.1)) a]
  simp only [decide_eq_true_eq]

theorem Part.fit_wf {p : Part} {s : State} (e : Nat × Nat) (hd : Memory.wf s.dram = true) (ht : Memory.wf s.t1 = true) :
    Memory.wf (p.fit s e).dram = true ∧ Memory.wf (p.fit s e).t1 = true :=
  ⟨Memory.wf_filter hd _, Memory.wf_filter ht _⟩

theorem Part.fits_frame (p : Part) (l : List (Nat × Nat)) (s : State) :
    l.foldl p.fit s = { s with dram := (l.foldl p.fit s).dram, t1 := (l.foldl p.fit s).t1 } := by
  induction l generalizing s with
  | nil => rfl
  | cons e r ih => rw [List.foldl_cons, ih, Part.fit_frame]

/-- Fitting a partition's channels changes T0 rows and T1 bytes alone, and keeps both memories canonical. -/
theorem fitChannels_frame (vf : Nat) (s : State) : fitChannels vf s = { s with dram := (fitChannels vf s).dram, t1 := (fitChannels vf s).t1 } :=
  Part.fits_frame _ _ _

theorem fitChannels_wf (vf : Nat) {s : State} (hd : Memory.wf s.dram = true) (ht : Memory.wf s.t1 = true) :
    Memory.wf (fitChannels vf s).dram = true ∧ Memory.wf (fitChannels vf s).t1 = true := by
  unfold fitChannels
  generalize s.part vf = p
  generalize p.chanTable = l
  induction l generalizing s with
  | nil => exact ⟨hd, ht⟩
  | cons e r ih => exact ih (Part.fit_wf e hd ht).1 (Part.fit_wf e hd ht).2

/-- A received flit changes T1 memory alone, in service banks, and keeps it canonical. -/
theorem applyFlit_frame (f : Flit) (s : State) : (applyFlit f s).1 = { s with t1 := (applyFlit f s).1.t1 } := by
  unfold applyFlit
  split
  · rfl
  · split <;> rfl

theorem applyFlit_wf (f : Flit) {s : State} (h : Memory.wf s.t1 = true) : Memory.wf (applyFlit f s).1.t1 = true := by
  unfold applyFlit
  split
  · exact writeCells_wf h 0 _
  · split
    · exact memWrite_wf h _ _
    · exact h

end Sys2Proof.Machine
end

