-- ==== Sys2Proof/Laws/Operands.lean ====
section
/-! SUPPORT. The operand forms and scalar computations in the terms of bit vectors. -/

namespace Sys2Proof.Machine

/-- A number read as `w`-bit two's complement. -/
theorem signed_eq (w v : Nat) (hw : 0 < w) : signed w v = (BitVec.ofNat w v).toInt := by
  unfold signed
  rw [BitVec.toInt_eq_toNat_cond, BitVec.toNat_ofNat]
  have h2 : 2 ^ w = 2 * 2 ^ (w - 1) := by rw [← Nat.pow_succ']; congr 1; omega
  split <;> split <;> first | rfl | omega

/-- A signed number of `w` bits in 64 bits is the sign-extended field. -/
theorem ofInt_signed (w v : Nat) (hw : 0 < w) : (BitVec.ofInt 64 (signed w v) : DWord) = (BitVec.ofNat w v).signExtend 64 := by
  rw [signed_eq w v hw]; rfl

theorem imm32_eq (v : Nat) : imm32 v = (BitVec.ofNat 32 v).signExtend 64 := ofInt_signed 32 v (by decide)

@[simp] theorem toNat_decide (P : Prop) [Decidable P] : (decide P).toNat = if P then 1 else 0 := by
  by_cases h : P <;> simp [h]

theorem imod_natCast (n m : Nat) : imod (n : Int) m = n % m := by unfold imod; omega

/-- A line address: register, signed offset and steps, modulo the scratchpad's lines. -/
theorem lineAddr_eq (reg w off adv : Nat) (hw : 0 < w) :
    lineAddr reg w off adv = ((((reg / 256 : Nat) : Int) + (BitVec.ofNat w off).toInt + (adv : Int)) % 4096).toNat := by
  rw [← signed_eq w off hw]; rfl

/-- The byte address of LDS and STS. -/
theorem scalarAddr_eq (base : DWord) (size off : Nat) :
    scalarAddr base size off = ((base + (BitVec.ofNat 20 off).signExtend 64).toNat % 2 ^ 20) / 2 ^ size * 2 ^ size := by
  unfold scalarAddr
  congr 2
  rw [← ofInt_signed 20 off (by decide), BitVec.toNat_add, BitVec.toNat_ofInt]
  unfold imod
  generalize signed 20 off = z
  omega

theorem popcount_eq (w : Nat) (v : Nat) : popcount w v = (List.range w).countP fun i => v.testBit i := by
  induction w generalizing v with
  | zero => rfl
  | succ w ih =>
    rw [List.range_succ_eq_map, List.countP_cons, List.countP_map, popcount, ih]
    have h0 : (if v.testBit 0 = true then 1 else 0) = v % 2 := by
      rw [Nat.testBit_zero]; split <;> rename_i h <;> simp at h <;> omega
    rw [h0, Nat.add_comm]
    congr 1
    refine List.countP_congr fun i _ => ?_
    simp [Function.comp, Nat.testBit_succ]

theorem sClz_eq {x : DWord} {n : Nat} (hn : n < 64) (h1 : 2 ^ (63 - n) ≤ x.toNat) (h2 : x.toNat < 2 ^ (64 - n)) : sClz x = n := by
  have hx : x.toNat ≠ 0 := by have := Nat.two_pow_pos (63 - n); omega
  have hx' : x ≠ 0 := by rintro rfl; exact hx rfl
  have e : 64 - n = (63 - n) + 1 := by omega
  rw [e] at h2
  have hl : Nat.log2 x.toNat = 63 - n := (Nat.log2_eq_iff hx).2 ⟨h1, h2⟩
  simp only [sClz, hx', if_false, hl]
  omega

end Sys2Proof.Machine
end

