-- ==== Sys2Proof/Laws/PerInstr.lean ====
section
/-! SUPPORT. The per-instruction family `Encodable`: an instruction that some slot admits has words.
An op's words are written by the encoder (04_encoding R56 to R60); an event is not encoded in any op map, so no slot
admits it. -/

namespace Sys2Proof.Laws.Encodable

/-- Whatever a slot admits, the encoder writes. -/
def Statement (i : Instr) : Prop :=
  ∀ sl, i.wellFormed sl = true → ∃ w x, encode i = some (w, x)

/-- An instruction of no opcode map is admitted by no slot. -/
theorem of_no_map {i : Instr} (h : ∀ mp, i.inMap mp = false) : Statement i := by
  intro sl hw
  unfold Instr.wellFormed at hw
  split at hw
  · simp [h] at hw
  · simp at hw

theorem nop (g : Guard) : Statement (.nop g) := fun _ _ => ⟨_, _, rfl⟩
theorem br (g : Guard) (off : Nat) : Statement (.br g off) := fun _ _ => ⟨_, _, rfl⟩
theorem brk (g : Guard) (ka : Nat) : Statement (.brk g ka) := fun _ _ => ⟨_, _, rfl⟩
theorem call (g : Guard) (off : Nat) : Statement (.call g off) := fun _ _ => ⟨_, _, rfl⟩
theorem ret (g : Guard) : Statement (.ret g) := fun _ _ => ⟨_, _, rfl⟩
theorem loop (g : Guard) (kn ki body stages cl res : Nat) :
    Statement (.loop g kn ki body stages cl res) := fun _ _ => ⟨_, _, rfl⟩
theorem yieldOp (g : Guard) : Statement (.yieldOp g) := fun _ _ => ⟨_, _, rfl⟩
theorem endOp (g : Guard) : Statement (.endOp g) := fun _ _ => ⟨_, _, rfl⟩
theorem trap (g : Guard) (code : Nat) : Statement (.trap g code) := fun _ _ => ⟨_, _, rfl⟩
theorem wake (g : Guard) (dom mode : Nat) : Statement (.wake g dom mode) := fun _ _ => ⟨_, _, rfl⟩
theorem sleep (g : Guard) (dom mode : Nat) : Statement (.sleep g dom mode) := fun _ _ => ⟨_, _, rfl⟩
theorem wstat (g : Guard) (kd dom : Nat) : Statement (.wstat g kd dom) := fun _ _ => ⟨_, _, rfl⟩
theorem leave (g : Guard) (mask : Nat) : Statement (.leave g mask) := fun _ _ => ⟨_, _, rfl⟩
theorem xlt (g : Guard) (hd ka : Nat) : Statement (.xlt g hd ka) := fun _ _ => ⟨_, _, rfl⟩
theorem hinv (g : Guard) (hd : Nat) : Statement (.hinv g hd) := fun _ _ => ⟨_, _, rfl⟩
theorem setfmt (g : Guard) (ka : Nat) : Statement (.setfmt g ka) := fun _ _ => ⟨_, _, rfl⟩
theorem setfmtLong (g : Guard) (val : Nat) : Statement (.setfmtLong g val) := fun _ _ => ⟨_, _, rfl⟩
theorem bara (g : Guard) (bar : Nat) : Statement (.bara g bar) := fun _ _ => ⟨_, _, rfl⟩
theorem barw (g : Guard) (bar : Nat) : Statement (.barw g bar) := fun _ _ => ⟨_, _, rfl⟩
theorem barwTimeout (g : Guard) (bar beats : Nat) : Statement (.barwTimeout g bar beats) := fun _ _ => ⟨_, _, rfl⟩
theorem phase (g : Guard) : Statement (.phase g) := fun _ _ => ⟨_, _, rfl⟩
theorem launch (g : Guard) (kq kn : Nat) : Statement (.launch g kq kn) := fun _ _ => ⟨_, _, rfl⟩
theorem fence (g : Guard) (scope kind : Nat) : Statement (.fence g scope kind) := fun _ _ => ⟨_, _, rfl⟩
theorem tabr (g : Guard) (kd clk : Nat) : Statement (.tabr g kd clk) := fun _ _ => ⟨_, _, rfl⟩
theorem kli (g : Guard) (kd imm : Nat) : Statement (.kli g kd imm) := fun _ _ => ⟨_, _, rfl⟩
theorem kcp (g : Guard) (kd ka : Nat) : Statement (.kcp g kd ka) := fun _ _ => ⟨_, _, rfl⟩
theorem xcpK (g : Guard) (f d s u : Nat) : Statement (.xcpK g f d s u) := fun _ _ => ⟨_, _, rfl⟩
theorem add (g : Guard) (d a b : Nat) : Statement (.add g d a b) := fun _ _ => ⟨_, _, rfl⟩
theorem addImm (g : Guard) (d a imm : Nat) : Statement (.addImm g d a imm) := fun _ _ => ⟨_, _, rfl⟩
theorem addi (g : Guard) (d a imm : Nat) : Statement (.addi g d a imm) := fun _ _ => ⟨_, _, rfl⟩
theorem sub (g : Guard) (d a b : Nat) : Statement (.sub g d a b) := fun _ _ => ⟨_, _, rfl⟩
theorem subImm (g : Guard) (d a imm : Nat) : Statement (.subImm g d a imm) := fun _ _ => ⟨_, _, rfl⟩
theorem adc (g : Guard) (d a b ci co : Nat) : Statement (.adc g d a b ci co) := fun _ _ => ⟨_, _, rfl⟩
theorem sbb (g : Guard) (d a b ci co : Nat) : Statement (.sbb g d a b ci co) := fun _ _ => ⟨_, _, rfl⟩
theorem mul (g : Guard) (d a b : Nat) : Statement (.mul g d a b) := fun _ _ => ⟨_, _, rfl⟩
theorem mulImm (g : Guard) (d a imm : Nat) : Statement (.mulImm g d a imm) := fun _ _ => ⟨_, _, rfl⟩
theorem mulh (g : Guard) (d a b nat : Nat) : Statement (.mulh g d a b nat) := fun _ _ => ⟨_, _, rfl⟩
theorem div (g : Guard) (d a b nat : Nat) : Statement (.div g d a b nat) := fun _ _ => ⟨_, _, rfl⟩
theorem andOp (g : Guard) (d a b : Nat) : Statement (.andOp g d a b) := fun _ _ => ⟨_, _, rfl⟩
theorem andImm (g : Guard) (d a imm : Nat) : Statement (.andImm g d a imm) := fun _ _ => ⟨_, _, rfl⟩
theorem orOp (g : Guard) (d a b : Nat) : Statement (.orOp g d a b) := fun _ _ => ⟨_, _, rfl⟩
theorem orImm (g : Guard) (d a imm : Nat) : Statement (.orImm g d a imm) := fun _ _ => ⟨_, _, rfl⟩
theorem xorOp (g : Guard) (d a b : Nat) : Statement (.xorOp g d a b) := fun _ _ => ⟨_, _, rfl⟩
theorem xorImm (g : Guard) (d a imm : Nat) : Statement (.xorImm g d a imm) := fun _ _ => ⟨_, _, rfl⟩
theorem shl (g : Guard) (d a b : Nat) : Statement (.shl g d a b) := fun _ _ => ⟨_, _, rfl⟩
theorem shlImm (g : Guard) (d a imm : Nat) : Statement (.shlImm g d a imm) := fun _ _ => ⟨_, _, rfl⟩
theorem shr (g : Guard) (d a b : Nat) : Statement (.shr g d a b) := fun _ _ => ⟨_, _, rfl⟩
theorem shrImm (g : Guard) (d a imm : Nat) : Statement (.shrImm g d a imm) := fun _ _ => ⟨_, _, rfl⟩
theorem sar (g : Guard) (d a b : Nat) : Statement (.sar g d a b) := fun _ _ => ⟨_, _, rfl⟩
theorem sarImm (g : Guard) (d a imm : Nat) : Statement (.sarImm g d a imm) := fun _ _ => ⟨_, _, rfl⟩
theorem minOp (g : Guard) (d a b nat : Nat) : Statement (.minOp g d a b nat) := fun _ _ => ⟨_, _, rfl⟩
theorem maxOp (g : Guard) (d a b nat : Nat) : Statement (.maxOp g d a b nat) := fun _ _ => ⟨_, _, rfl⟩
theorem clz (g : Guard) (d a : Nat) : Statement (.clz g d a) := fun _ _ => ⟨_, _, rfl⟩
theorem popc (g : Guard) (d a : Nat) : Statement (.popc g d a) := fun _ _ => ⟨_, _, rfl⟩
theorem li (g : Guard) (d imm : Nat) : Statement (.li g d imm) := fun _ _ => ⟨_, _, rfl⟩
theorem lih (g : Guard) (d imm : Nat) : Statement (.lih g d imm) := fun _ _ => ⟨_, _, rfl⟩
theorem sel (g : Guard) (d a b p : Nat) : Statement (.sel g d a b p) := fun _ _ => ⟨_, _, rfl⟩
theorem cmp (g : Guard) (d a b nat cond isImm imm : Nat) :
    Statement (.cmp g d a b nat cond isImm imm) := fun _ _ => ⟨_, _, rfl⟩
theorem plog (g : Guard) (pd pa pb tt : Nat) : Statement (.plog g pd pa pb tt) := fun _ _ => ⟨_, _, rfl⟩
theorem lds (g : Guard) (d a nat size off : Nat) : Statement (.lds g d a nat size off) := fun _ _ => ⟨_, _, rfl⟩
theorem sts (g : Guard) (d a size off : Nat) : Statement (.sts g d a size off) := fun _ _ => ⟨_, _, rfl⟩
theorem xcpS (g : Guard) (f d s u : Nat) : Statement (.xcpS g f d s u) := fun _ _ => ⟨_, _, rfl⟩
theorem vadd (g : Guard) (d a b t : Nat) : Statement (.vadd g d a b t) := fun _ _ => ⟨_, _, rfl⟩
theorem vaddLong (g : Guard) (d a b t na aa nb ab clp sc rm rmo : Nat) :
    Statement (.vaddLong g d a b t na aa nb ab clp sc rm rmo) := fun _ _ => ⟨_, _, rfl⟩
theorem vsub (g : Guard) (d a b t : Nat) : Statement (.vsub g d a b t) := fun _ _ => ⟨_, _, rfl⟩
theorem vsubLong (g : Guard) (d a b t na aa nb ab clp sc rm rmo : Nat) :
    Statement (.vsubLong g d a b t na aa nb ab clp sc rm rmo) := fun _ _ => ⟨_, _, rfl⟩
theorem vmul (g : Guard) (d a b t : Nat) : Statement (.vmul g d a b t) := fun _ _ => ⟨_, _, rfl⟩
theorem vmulLong (g : Guard) (d a b t na aa nb ab clp sc rm rmo : Nat) :
    Statement (.vmulLong g d a b t na aa nb ab clp sc rm rmo) := fun _ _ => ⟨_, _, rfl⟩
theorem vfma (g : Guard) (d a b t c na aa nb ab nc ac clp sc rm rmo : Nat) :
    Statement (.vfma g d a b t c na aa nb ab nc ac clp sc rm rmo) := fun _ _ => ⟨_, _, rfl⟩
theorem vmin (g : Guard) (d a b t : Nat) : Statement (.vmin g d a b t) := fun _ _ => ⟨_, _, rfl⟩
theorem vminLong (g : Guard) (d a b t na aa nb ab clp sc rm rmo : Nat) :
    Statement (.vminLong g d a b t na aa nb ab clp sc rm rmo) := fun _ _ => ⟨_, _, rfl⟩
theorem vmax (g : Guard) (d a b t : Nat) : Statement (.vmax g d a b t) := fun _ _ => ⟨_, _, rfl⟩
theorem vmaxLong (g : Guard) (d a b t na aa nb ab clp sc rm rmo : Nat) :
    Statement (.vmaxLong g d a b t na aa nb ab clp sc rm rmo) := fun _ _ => ⟨_, _, rfl⟩
theorem vand (g : Guard) (d a b t : Nat) : Statement (.vand g d a b t) := fun _ _ => ⟨_, _, rfl⟩
theorem vor (g : Guard) (d a b t : Nat) : Statement (.vor g d a b t) := fun _ _ => ⟨_, _, rfl⟩
theorem vxor (g : Guard) (d a b t : Nat) : Statement (.vxor g d a b t) := fun _ _ => ⟨_, _, rfl⟩
theorem vshl (g : Guard) (d a b t : Nat) : Statement (.vshl g d a b t) := fun _ _ => ⟨_, _, rfl⟩
theorem vshr (g : Guard) (d a b t : Nat) : Statement (.vshr g d a b t) := fun _ _ => ⟨_, _, rfl⟩
theorem vsar (g : Guard) (d a b t : Nat) : Statement (.vsar g d a b t) := fun _ _ => ⟨_, _, rfl⟩
theorem vcmp (g : Guard) (d a b t na aa nb ab cond : Nat) :
    Statement (.vcmp g d a b t na aa nb ab cond) := fun _ _ => ⟨_, _, rfl⟩
theorem vsel (g : Guard) (d a b t c : Nat) : Statement (.vsel g d a b t c) := fun _ _ => ⟨_, _, rfl⟩
theorem vcvt (g : Guard) (d a t na aa clp sc rm rmo dc : Nat) :
    Statement (.vcvt g d a t na aa clp sc rm rmo dc) := fun _ _ => ⟨_, _, rfl⟩
theorem vrcp (g : Guard) (d a t : Nat) : Statement (.vrcp g d a t) := fun _ _ => ⟨_, _, rfl⟩
theorem vrcpLong (g : Guard) (d a t na aa clp sc rm rmo : Nat) :
    Statement (.vrcpLong g d a t na aa clp sc rm rmo) := fun _ _ => ⟨_, _, rfl⟩
theorem vrsq (g : Guard) (d a t : Nat) : Statement (.vrsq g d a t) := fun _ _ => ⟨_, _, rfl⟩
theorem vrsqLong (g : Guard) (d a t na aa clp sc rm rmo : Nat) :
    Statement (.vrsqLong g d a t na aa clp sc rm rmo) := fun _ _ => ⟨_, _, rfl⟩
theorem vexp (g : Guard) (d a t : Nat) : Statement (.vexp g d a t) := fun _ _ => ⟨_, _, rfl⟩
theorem vexpLong (g : Guard) (d a t na aa clp sc rm rmo : Nat) :
    Statement (.vexpLong g d a t na aa clp sc rm rmo) := fun _ _ => ⟨_, _, rfl⟩
theorem vlog (g : Guard) (d a t : Nat) : Statement (.vlog g d a t) := fun _ _ => ⟨_, _, rfl⟩
theorem vlogLong (g : Guard) (d a t na aa clp sc rm rmo : Nat) :
    Statement (.vlogLong g d a t na aa clp sc rm rmo) := fun _ _ => ⟨_, _, rfl⟩
theorem vsum (g : Guard) (d a t : Nat) : Statement (.vsum g d a t) := fun _ _ => ⟨_, _, rfl⟩
theorem vsumLong (g : Guard) (d a t na aa clp sc rm rmo : Nat) :
    Statement (.vsumLong g d a t na aa clp sc rm rmo) := fun _ _ => ⟨_, _, rfl⟩
theorem vrmax (g : Guard) (d a t : Nat) : Statement (.vrmax g d a t) := fun _ _ => ⟨_, _, rfl⟩
theorem vrmaxLong (g : Guard) (d a t na aa : Nat) : Statement (.vrmaxLong g d a t na aa) := fun _ _ => ⟨_, _, rfl⟩
theorem vperm (g : Guard) (d a b t : Nat) : Statement (.vperm g d a b t) := fun _ _ => ⟨_, _, rfl⟩
theorem vbcast (g : Guard) (d a t : Nat) : Statement (.vbcast g d a t) := fun _ _ => ⟨_, _, rfl⟩
theorem vbcastLong (g : Guard) (d a t lane : Nat) : Statement (.vbcastLong g d a t lane) := fun _ _ => ⟨_, _, rfl⟩
theorem viota (g : Guard) (d t : Nat) : Statement (.viota g d t) := fun _ _ => ⟨_, _, rfl⟩
theorem vli (g : Guard) (d t imm : Nat) : Statement (.vli g d t imm) := fun _ _ => ⟨_, _, rfl⟩
theorem vld (g : Guard) (r ar off : Nat) : Statement (.vld g r ar off) := fun _ _ => ⟨_, _, rfl⟩
theorem vldLong (g : Guard) (r ar off step : Nat) : Statement (.vldLong g r ar off step) := fun _ _ => ⟨_, _, rfl⟩
theorem vst (g : Guard) (r ar off : Nat) : Statement (.vst g r ar off) := fun _ _ => ⟨_, _, rfl⟩
theorem vstLong (g : Guard) (r ar off step : Nat) : Statement (.vstLong g r ar off step) := fun _ _ => ⟨_, _, rfl⟩
theorem vrng (g : Guard) (d a b t : Nat) : Statement (.vrng g d a b t) := fun _ _ => ⟨_, _, rfl⟩
theorem vpopc (g : Guard) (d a t : Nat) : Statement (.vpopc g d a t) := fun _ _ => ⟨_, _, rfl⟩
theorem vany (g : Guard) (pd a : Nat) : Statement (.vany g pd a) := fun _ _ => ⟨_, _, rfl⟩
theorem xcpV (g : Guard) (f d s u : Nat) : Statement (.xcpV g f d s u) := fun _ _ => ⟨_, _, rfl⟩
theorem xcpVLane (g : Guard) (f d s u lane : Nat) : Statement (.xcpVLane g f d s u lane) := fun _ _ => ⟨_, _, rfl⟩
theorem mgw (g : Guard) (gw : Nat) : Statement (.mgw g gw) := fun _ _ => ⟨_, _, rfl⟩
theorem mgreq (g : Guard) (ma mb n : Nat) : Statement (.mgreq g ma mb n) := fun _ _ => ⟨_, _, rfl⟩
theorem mpack (g : Guard) (z im off n rev str start step : Nat) :
    Statement (.mpack g z im off n rev str start step) := fun _ _ => ⟨_, _, rfl⟩
theorem mldb (g : Guard) (lane entry im : Nat) : Statement (.mldb g lane entry im) := fun _ _ => ⟨_, _, rfl⟩
theorem mldbLong (g : Guard) (lane entry im off lstep estep : Nat) :
    Statement (.mldbLong g lane entry im off lstep estep) := fun _ _ => ⟨_, _, rfl⟩
theorem mmul (g : Guard) (q z e : Nat) : Statement (.mmul g q z e) := fun _ _ => ⟨_, _, rfl⟩
theorem mmac (g : Guard) (q z e : Nat) : Statement (.mmac g q z e) := fun _ _ => ⟨_, _, rfl⟩
theorem mclr (g : Guard) (q : Nat) : Statement (.mclr g q) := fun _ _ => ⟨_, _, rfl⟩
theorem mext (g : Guard) (q im first count wide off : Nat) :
    Statement (.mext g q im first count wide off) := fun _ _ => ⟨_, _, rfl⟩
theorem mcvt (g : Guard) (q im first count off : Nat) :
    Statement (.mcvt g q im first count off) := fun _ _ => ⟨_, _, rfl⟩
theorem mshr (g : Guard) (q k : Nat) : Statement (.mshr g q k) := fun _ _ => ⟨_, _, rfl⟩
theorem mneg (g : Guard) (q : Nat) : Statement (.mneg g q) := fun _ _ => ⟨_, _, rfl⟩
theorem mldq (g : Guard) (q im : Nat) : Statement (.mldq g q im) := fun _ _ => ⟨_, _, rfl⟩
theorem mldqLong (g : Guard) (q im off : Nat) : Statement (.mldqLong g q im off) := fun _ _ => ⟨_, _, rfl⟩
theorem mstq (g : Guard) (q im : Nat) : Statement (.mstq g q im) := fun _ _ => ⟨_, _, rfl⟩
theorem mstqLong (g : Guard) (q im off : Nat) : Statement (.mstqLong g q im off) := fun _ _ => ⟨_, _, rfl⟩
theorem xcpM (g : Guard) (f d s u : Nat) : Statement (.xcpM g f d s u) := fun _ _ => ⟨_, _, rfl⟩
theorem cpy (g : Guard) (sstep dstep src dst cnt : Nat) :
    Statement (.cpy g sstep dstep src dst cnt) := fun _ _ => ⟨_, _, rfl⟩
theorem cpyx (g : Guard) (core sstep dstep src dst cnt : Nat) :
    Statement (.cpyx g core sstep dstep src dst cnt) := fun _ _ => ⟨_, _, rfl⟩
theorem dact (g : Guard) (vch bank h row : Nat) : Statement (.dact g vch bank h row) := fun _ _ => ⟨_, _, rfl⟩
theorem drd (g : Guard) (vch bank col line step : Nat) :
    Statement (.drd g vch bank col line step) := fun _ _ => ⟨_, _, rfl⟩
theorem dwr (g : Guard) (vch bank col line step : Nat) :
    Statement (.dwr g vch bank col line step) := fun _ _ => ⟨_, _, rfl⟩
theorem dpre (g : Guard) (vch bank all : Nat) : Statement (.dpre g vch bank all) := fun _ _ => ⟨_, _, rfl⟩
theorem dref (g : Guard) (vch bank : Nat) : Statement (.dref g vch bank) := fun _ _ => ⟨_, _, rfl⟩
theorem rld (g : Guard) (r line idx : Nat) : Statement (.rld g r line idx) := fun _ _ => ⟨_, _, rfl⟩
theorem rset (g : Guard) (r fld val : Nat) : Statement (.rset g r fld val) := fun _ _ => ⟨_, _, rfl⟩
theorem enq (g : Guard) (rs rd scope acq rel kind off : Nat) :
    Statement (.enq g rs rd scope acq rel kind off) := fun _ _ => ⟨_, _, rfl⟩
theorem aop (g : Guard) (r fn size scope acq rel opl resl foff : Nat) :
    Statement (.aop g r fn size scope acq rel opl resl foff) := fun _ _ => ⟨_, _, rfl⟩
theorem fsend (g : Guard) (r line cnt port : Nat) : Statement (.fsend g r line cnt port) := fun _ _ => ⟨_, _, rfl⟩
theorem fput (g : Guard) (rs rd scope rel flag : Nat) :
    Statement (.fput g rs rd scope rel flag) := fun _ _ => ⟨_, _, rfl⟩
theorem xcpC (g : Guard) (f d s u : Nat) : Statement (.xcpC g f d s u) := fun _ _ => ⟨_, _, rfl⟩
theorem headerBreak (vf core : Nat) : Statement (.headerBreak vf core) := of_no_map fun _ => rfl
theorem transferTakesEffect (vf core : Nat) : Statement (.transferTakesEffect vf core) := of_no_map fun _ => rfl
theorem loopPassEnd (vf core : Nat) : Statement (.loopPassEnd vf core) := of_no_map fun _ => rfl
theorem registerResult (vf core : Nat) : Statement (.registerResult vf core) := of_no_map fun _ => rfl
theorem scratchpadTouch (vf core : Nat) : Statement (.scratchpadTouch vf core) := of_no_map fun _ => rfl
theorem drdLanding (vf core : Nat) : Statement (.drdLanding vf core) := of_no_map fun _ => rfl
theorem cpyxArrival (vf core : Nat) : Statement (.cpyxArrival vf core) := of_no_map fun _ => rfl
theorem fsendLanding (vf core : Nat) : Statement (.fsendLanding vf core) := of_no_map fun _ => rfl
theorem linkTimingFault (vf core : Nat) : Statement (.linkTimingFault vf core) := of_no_map fun _ => rfl
theorem xltResult (vf core : Nat) : Statement (.xltResult vf core) := of_no_map fun _ => rfl
theorem mpackResult (vf core : Nat) : Statement (.mpackResult vf core) := of_no_map fun _ => rfl
theorem mldbEntryWrite (vf core : Nat) : Statement (.mldbEntryWrite vf core) := of_no_map fun _ => rfl
theorem multiplyResult (vf core : Nat) : Statement (.multiplyResult vf core) := of_no_map fun _ => rfl
theorem accumulatorResult (vf core : Nat) : Statement (.accumulatorResult vf core) := of_no_map fun _ => rfl
theorem mextWrite (vf core : Nat) : Statement (.mextWrite vf core) := of_no_map fun _ => rfl
theorem mldqResult (vf core : Nat) : Statement (.mldqResult vf core) := of_no_map fun _ => rfl
theorem vcvtBlockResult (vf core : Nat) : Statement (.vcvtBlockResult vf core) := of_no_map fun _ => rfl
theorem enqStartCheck (vf core : Nat) : Statement (.enqStartCheck vf core) := of_no_map fun _ => rfl
theorem enqReadPhase (vf core : Nat) : Statement (.enqReadPhase vf core) := of_no_map fun _ => rfl
theorem untimedScratchAccess (vf core cmd : Nat) :
    Statement (.untimedScratchAccess vf core cmd) := of_no_map fun _ => rfl
theorem enginePiece (vf core cmd : Nat) : Statement (.enginePiece vf core cmd) := of_no_map fun _ => rfl
theorem engineWalk (vf core cmd : Nat) : Statement (.engineWalk vf core cmd) := of_no_map fun _ => rfl
theorem aopPerform (vf core cmd : Nat) : Statement (.aopPerform vf core cmd) := of_no_map fun _ => rfl
theorem flagWordWrite (vf core cmd : Nat) : Statement (.flagWordWrite vf core cmd) := of_no_map fun _ => rfl
theorem streamReplay (vf core dev scope seq : Nat) :
    Statement (.streamReplay vf core dev scope seq) := of_no_map fun _ => rfl
theorem portDown (port : Nat) : Statement (.portDown port) := of_no_map fun _ => rfl
theorem destinationUnreachable (vf core cmd : Nat) :
    Statement (.destinationUnreachable vf core cmd) := of_no_map fun _ => rfl
theorem refreshDone (vf vch bank : Nat) : Statement (.refreshDone vf vch bank) := of_no_map fun _ => rfl
theorem refreshDeadline (vf : Nat) : Statement (.refreshDeadline vf) := of_no_map fun _ => rfl
theorem refreshKeeper (vf : Nat) : Statement (.refreshKeeper vf) := of_no_map fun _ => rfl
theorem serviceWindow (vf vch : Nat) : Statement (.serviceWindow vf vch) := of_no_map fun _ => rfl
theorem wakeStart (vf core dom : Nat) : Statement (.wakeStart vf core dom) := of_no_map fun _ => rfl
theorem domainReady (vf core dom : Nat) : Statement (.domainReady vf core dom) := of_no_map fun _ => rfl
theorem noticeLapse (vf core : Nat) : Statement (.noticeLapse vf core) := of_no_map fun _ => rfl
theorem barrierArrival (vf bar member : Nat) : Statement (.barrierArrival vf bar member) := of_no_map fun _ => rfl
theorem barrierTimeout (vf bar : Nat) : Statement (.barrierTimeout vf bar) := of_no_map fun _ => rfl
theorem absenceToken (vf bar member : Nat) : Statement (.absenceToken vf bar member) := of_no_map fun _ => rfl
theorem watchdog (vf : Nat) : Statement (.watchdog vf) := of_no_map fun _ => rfl
theorem holdRequest (vf n : Nat) : Statement (.holdRequest vf n) := of_no_map fun _ => rfl
theorem holdStart (vf : Nat) : Statement (.holdStart vf) := of_no_map fun _ => rfl
theorem holdEnd (vf : Nat) : Statement (.holdEnd vf) := of_no_map fun _ => rfl
theorem stopNotice (vf dev pt : Nat) : Statement (.stopNotice vf dev pt) := of_no_map fun _ => rfl
theorem alignmentFlitSend (vf : Nat) : Statement (.alignmentFlitSend vf) := of_no_map fun _ => rfl
theorem alignmentFlitArrival (vf : Nat) : Statement (.alignmentFlitArrival vf) := of_no_map fun _ => rfl
theorem droopStretch (cycles lost : Nat) : Statement (.droopStretch cycles lost) := of_no_map fun _ => rfl
theorem stretchNotice (vf lost : Nat) : Statement (.stretchNotice vf lost) := of_no_map fun _ => rfl
theorem alignmentPause (vf : Nat) : Statement (.alignmentPause vf) := of_no_map fun _ => rfl
theorem railError : Statement .railError := of_no_map fun _ => rfl
theorem faultHandler (vf : Nat) : Statement (.faultHandler vf) := of_no_map fun _ => rfl
theorem belfryPanic : Statement .belfryPanic := of_no_map fun _ => rfl
theorem pageMove (vf page unmap prow : Nat) : Statement (.pageMove vf page unmap prow) := of_no_map fun _ => rfl
theorem taskDispatch (vf : Nat) : Statement (.taskDispatch vf) := of_no_map fun _ => rfl
theorem taskStart (vf : Nat) : Statement (.taskStart vf) := of_no_map fun _ => rfl
theorem taskCompletion (vf : Nat) : Statement (.taskCompletion vf) := of_no_map fun _ => rfl
theorem launchNodeRead (vf core : Nat) : Statement (.launchNodeRead vf core) := of_no_map fun _ => rfl
theorem preemptionRequest (vf stopPt : Nat) : Statement (.preemptionRequest vf stopPt) := of_no_map fun _ => rfl
theorem clampEffect (vf : Nat) : Statement (.clampEffect vf) := of_no_map fun _ => rfl
theorem parkFreeze (vf : Nat) : Statement (.parkFreeze vf) := of_no_map fun _ => rfl
theorem parkDeadline (vf : Nat) : Statement (.parkDeadline vf) := of_no_map fun _ => rfl
theorem forcedStop (vf : Nat) : Statement (.forcedStop vf) := of_no_map fun _ => rfl
theorem drainTimeout (vf : Nat) : Statement (.drainTimeout vf) := of_no_map fun _ => rfl
theorem contextSave (vf : Nat) : Statement (.contextSave vf) := of_no_map fun _ => rfl
theorem resume (vf : Nat) : Statement (.resume vf) := of_no_map fun _ => rfl
theorem channelReassignment (ch vf : Nat) : Statement (.channelReassignment ch vf) := of_no_map fun _ => rfl
theorem endSlice (vf : Nat) : Statement (.endSlice vf) := of_no_map fun _ => rfl
theorem reshape (vf m : Nat) : Statement (.reshape vf m) := of_no_map fun _ => rfl
theorem pageOut (vf : Nat) : Statement (.pageOut vf) := of_no_map fun _ => rfl
theorem coldRestore (vf : Nat) : Statement (.coldRestore vf) := of_no_map fun _ => rfl
theorem qsubWrite (vf addr : Nat) : Statement (.qsubWrite vf addr) := of_no_map fun _ => rfl
theorem featureCommit (vf : Nat) : Statement (.featureCommit vf) := of_no_map fun _ => rfl
theorem emloRead (vf : Nat) : Statement (.emloRead vf) := of_no_map fun _ => rfl
theorem emhiRead (vf : Nat) : Statement (.emhiRead vf) := of_no_map fun _ => rfl
theorem energyMeterClear (vf : Nat) : Statement (.energyMeterClear vf) := of_no_map fun _ => rfl
theorem pcapWrite (val : Nat) : Statement (.pcapWrite val) := of_no_map fun _ => rfl
theorem mmioWrite (fn off val : Nat) : Statement (.mmioWrite fn off val) := of_no_map fun _ => rfl
theorem registerImage (pf : Nat) : Statement (.registerImage pf) := of_no_map fun _ => rfl
theorem unregisterImage (pf : Nat) : Statement (.unregisterImage pf) := of_no_map fun _ => rfl
theorem createTenant (pf : Nat) : Statement (.createTenant pf) := of_no_map fun _ => rfl
theorem deleteTenant (pf : Nat) : Statement (.deleteTenant pf) := of_no_map fun _ => rfl
theorem createLogicalPartition (pf : Nat) : Statement (.createLogicalPartition pf) := of_no_map fun _ => rfl
theorem deleteLogicalPartition (pf : Nat) : Statement (.deleteLogicalPartition pf) := of_no_map fun _ => rfl
theorem lifeCycleNonce (pf : Nat) : Statement (.lifeCycleNonce pf) := of_no_map fun _ => rfl
theorem lifeCycleChange (pf : Nat) : Statement (.lifeCycleChange pf) := of_no_map fun _ => rfl
theorem attestationReport (pf : Nat) : Statement (.attestationReport pf) := of_no_map fun _ => rfl
theorem attestationKey (pf : Nat) : Statement (.attestationKey pf) := of_no_map fun _ => rfl
theorem debugEnable (pf : Nat) : Statement (.debugEnable pf) := of_no_map fun _ => rfl
theorem setBreakMask (pf : Nat) : Statement (.setBreakMask pf) := of_no_map fun _ => rfl
theorem debugRelease (pf : Nat) : Statement (.debugRelease pf) := of_no_map fun _ => rfl
theorem packageReset : Statement .packageReset := of_no_map fun _ => rfl
theorem portTraining (port dom cls : Nat) : Statement (.portTraining port dom cls) := of_no_map fun _ => rfl
theorem syncFlit (dom val : Nat) : Statement (.syncFlit dom val) := of_no_map fun _ => rfl
theorem thermalSample (temp power : Nat) : Statement (.thermalSample temp power) := of_no_map fun _ => rfl
theorem maintenanceCycle (vf : Nat) : Statement (.maintenanceCycle vf) := of_no_map fun _ => rfl
theorem energyMeterCharge (vf amount : Nat) : Statement (.energyMeterCharge vf amount) := of_no_map fun _ => rfl
theorem powerLoss : Statement .powerLoss := of_no_map fun _ => rfl
theorem absenceTokenWithdrawn (vf bar member : Nat) :
    Statement (.absenceTokenWithdrawn vf bar member) := of_no_map fun _ => rfl
theorem untimedFlitReceived (dev srcCore scope seq : Nat) :
    Statement (.untimedFlitReceived dev srcCore scope seq) := of_no_map fun _ => rfl
theorem alignmentPauseEnd (vf : Nat) : Statement (.alignmentPauseEnd vf) := of_no_map fun _ => rfl
theorem mailboxUnknownCode (pf : Nat) : Statement (.mailboxUnknownCode pf) := of_no_map fun _ => rfl

end Sys2Proof.Laws.Encodable
end

