-- ==== Sys2Proof/Tests/Slice0.lean ====
section
/-! SUPPORT. Tests of the model: words of the spec's encodings and their decoding, ill-formed ops, worked results, and for every statement of
Certificates/Slice0/Obligations.lean states and operands that meet the hypotheses of each of its clauses. The expected words and values are
the spec's own, or are worked by hand from its rules. -/

open Sys2Proof Sys2Proof.Machine

set_option Elab.async false

/-! ### Decoding: the words of the spec's examples; where it gives none, the word worked by hand from the layout -/

/-- Every word of a list decodes, in a slot, to the op beside it. -/
def decodes (sl : Nat) (l : List (Nat × Nat × Instr)) : Bool :=
  l.all fun e => decide ((decodeOp sl e.1 e.2.1).toOption = some e.2.2)

/-- The predicate field of an op without a predicate. -/
abbrev gT : Guard := ⟨0, 0⟩

theorem test_decode_k_flow : decodes 0
    [ (0x00000000, 0, .nop gT), (0x00080000, 0, .nop ⟨0, 1⟩), (0x0237FFEC, 0, .br ⟨3, 0⟩ 0x7FFEC), (0x04018000, 0, .brk gT 3)
    , (0x06000028, 0, .call gT 40), (0x08000000, 0, .ret gT), (0x8A008083, 0, .loop gT 1 0 8 3 0 0)
    , (0x8A008083, 0xFFFFFFF4, .loop gT 1 0 8 3 1 0x7FFFFFF4), (0x8A0081E1, 0, .loop gT 1 0 30 1 0 0), (0x0C000000, 0, .yieldOp gT)
    , (0x0E000000, 0, .endOp gT), (0x10000123, 0, .trap gT 0x123), (0x10780001, 0, .trap ⟨7, 1⟩ 1) ] = true := by decide

theorem test_decode_k_system : decodes 0
    [ (0x1200C000, 0, .wake gT 3 0), (0x12070000, 0, .wake gT 28 0), (0x14025000, 0, .sleep gT 9 1), (0x14000000, 0, .sleep gT 0 0)
    , (0x16020000, 0, .wstat gT 4 0), (0x1603E400, 0, .wstat gT 7 25), (0x18028000, 0, .leave gT 5), (0x1A00A800, 0, .xlt gT 1 5)
    , (0x1A01B800, 0, .xlt gT 3 7), (0x1C010000, 0, .hinv gT 2), (0x1E018000, 0, .setfmt gT 3), (0x9E000000, 3, .setfmtLong gT 3)
    , (0x20000000, 0, .bara gT 0), (0x22008000, 0, .barw gT 1), (0xA2010000, 4, .barwTimeout gT 2 4), (0x24000000, 0, .phase gT)
    , (0x26011800, 0, .launch gT 2 3), (0x28048000, 0, .fence gT 2 1), (0x28020000, 0, .fence gT 1 0), (0x28070000, 0, .fence gT 3 2)
    , (0x2A018000, 0, .tabr gT 3 0), (0x2A01C000, 0, .tabr gT 3 1), (0xAC010000, 0x3F, .kli gT 2 63), (0x2E016000, 0, .kcp gT 2 12)
    , (0x300114C0, 0, .xcpK gT 1 5 12 0) ] = true := by decide

theorem test_decode_s_arithmetic : decodes 1
    [ (0x0200A282, 0, .add gT 5 5 1), (0x82002101, 0xFFFFFFFB, .addImm gT 1 2 0xFFFFFFFB), (0x0400C1BF, 0, .addi gT 6 3 63)
    , (0x0400417F, 0, .addi gT 2 2 127), (0x0600620A, 0, .sub gT 3 4 5), (0x86002081, 0x100, .subImm gT 1 1 256)
    , (0x8800A086, 0x41, .adc gT 5 1 3 1 2), (0x8A00C108, 0x62, .sbb gT 6 2 4 2 3), (0x0C00C284, 0, .mul gT 6 5 2)
    , (0x8C00C281, 0xA, .mulImm gT 6 5 10), (0x0E010085, 0, .mulh gT 8 1 2 1), (0x1000E31A, 0, .div gT 7 6 13 0)
    , (0x1000E31B, 0, .div gT 7 6 13 1), (0x2000E31A, 0, .maxOp gT 7 6 13 0), (0x20002106, 0, .maxOp gT 1 2 3 0)
    , (0x1E00620B, 0, .minOp gT 3 4 5 1) ] = true := by decide

theorem test_decode_s_logic : decodes 1
    [ (0x1200C284, 0, .andOp gT 6 5 2), (0x92008201, 0xFF, .andImm gT 4 4 255), (0x14006084, 0, .orOp gT 3 1 2)
    , (0x94006181, 0x100, .orImm gT 3 3 256), (0x16006084, 0, .xorOp gT 3 1 2), (0x9600A281, 0xFFFFFFFF, .xorImm gT 5 5 0xFFFFFFFF)
    , (0x1800820E, 0, .shl gT 4 4 7), (0x9800C281, 0xC, .shlImm gT 6 5 12), (0x1A00820E, 0, .shr gT 4 4 7), (0x9A00C301, 6, .shrImm gT 6 6 6)
    , (0x1C00820E, 0, .sar gT 4 4 7), (0x9C00C301, 6, .sarImm gT 6 6 6), (0x22008480, 0, .clz gT 4 9), (0x24008480, 0, .popc gT 4 9)
    , (0xA6006000, 0x56789ABC, .li gT 3 0x56789ABC), (0xA8006000, 0x1234, .lih gT 3 0x1234), (0xAA00E084, 4, .sel gT 7 1 2 4)
    , (0xAC00A188, 2, .cmp gT 5 3 4 0 2 0 0), (0xAC004300, 0x20D, .cmp gT 2 6 0 0 5 1 2), (0xACA0E480, 8, .cmp ⟨10, 0⟩ 7 9 0 0 0 1 0)
    , (0x2E010A68, 0, .plog gT 4 5 6 8), (0xB0008100, 0x40000000, .lds gT 4 2 0 1 0), (0xB000A101, 0x40000001, .lds gT 5 2 1 1 1)
    , (0xB2008100, 0x80000008, .sts gT 4 2 2 8), (0x34000C90, 0, .xcpS gT 0 3 9 0), (0x340708B2, 0, .xcpS gT 7 2 11 2) ] = true := by decide

theorem test_decode_v_short : decodes 2
    [ (0x0200C22A, 0, .vadd gT 3 1 2 10), (0x0405EF82, 0, .vsub gT 23 23 24 2), (0x060310BA, 0, .vmul gT 12 8 11 10)
    , (0x0A010A64, 0, .vmin gT 4 5 6 4), (0x0C004439, 0, .vmax gT 1 2 3 9), (0x0E045A57, 0, .vand gT 17 13 5 7), (0x10056327, 0, .vor gT 21 17 18 7)
    , (0x1203DAE7, 0, .vxor gT 15 13 14 7), (0x1407BDD7, 0, .vshl gT 30 30 29 7), (0x16014C76, 0, .vshr gT 5 6 7 6)
    , (0x18008641, 0, .vsar gT 2 3 4 1), (0x2002D40A, 0, .vrcp gT 11 10 10), (0x22045C0A, 0, .vrsq gT 17 14 10), (0x24008208, 0, .vexp gT 2 1 8)
    , (0x26010809, 0, .vlog gT 4 4 9), (0x2802000A, 0, .vsum gT 8 0 10), (0x2A02460A, 0, .vrmax gT 9 3 10), (0x2C00C227, 0, .vperm gT 3 1 2 7)
    , (0x2E05220A, 0, .vbcast gT 20 17 10), (0x3000C002, 0, .viota gT 3 2), (0x34008000, 0, .vld gT 2 0 0), (0x3601C800, 0, .vst gT 7 1 0)
    , (0x3800C227, 0, .vrng gT 3 1 2 7), (0x3A042007, 0, .vpopc gT 16 16 7), (0x3C018A00, 0, .vany gT 6 5), (0x3E030420, 0, .xcpV gT 3 1 2 0)
    , (0x3E040870, 0, .xcpV gT 4 2 7 0) ] = true := by decide

theorem test_decode_v_long : decodes 2
    [ (0x82018A2A, 0x7000, .vaddLong gT 6 5 2 10 0 0 0 0 0 0 3 1), (0x8401422A, 0x07800000, .vsubLong gT 5 1 2 10 1 1 1 1 0 0 0 0)
    , (0x8601421A, 0x7000, .vmulLong gT 5 1 1 10 0 0 0 0 0 0 3 1), (0x8850C22A, 0x24103000, .vfma ⟨5, 0⟩ 3 1 2 10 4 1 0 0 0 0 0 2 0 1 1)
    , (0x8A01422A, 0x01000000, .vminLong gT 5 1 2 10 0 0 1 0 0 0 0 0), (0x8C01422A, 0x00080000, .vmaxLong gT 5 1 2 10 0 0 0 0 1 0 0 0)
    , (0x9A01422A, 4, .vcmp gT 5 1 2 10 0 0 0 0 4), (0x9A01422A, 0x04000002, .vcmp gT 5 1 2 10 1 0 0 0 2), (0x9C01822A, 0x28000000, .vsel gT 6 1 2 10 5)
    , (0x9E00C408, 0xA, .vcvt gT 3 2 8 0 0 0 0 0 0 10), (0x9E018A0A, 0x12, .vcvt gT 6 5 10 0 0 0 0 0 0 18)
    , (0xA002D40A, 0x04000000, .vrcpLong gT 11 10 10 1 0 0 0 0 0), (0xA2045C0A, 0x00007000, .vrsqLong gT 17 14 10 0 0 0 0 3 1)
    , (0xA4008208, 0x00100000, .vexpLong gT 2 1 8 0 0 2 0 0 0), (0xA6010809, 0x02000000, .vlogLong gT 4 4 9 0 1 0 0 0 0)
    , (0xA8008200, 0x00080000, .vsumLong gT 2 1 0 0 0 1 0 0 0), (0xAA02460A, 0x04000000, .vrmaxLong gT 9 3 10 1 0)
    , (0xAE024402, 7, .vbcastLong gT 9 2 2 7), (0xB2004002, 5, .vli gT 1 2 5), (0xB204000A, 0x3A800000, .vli gT 16 10 0x3A800000)
    , (0xB4004004, 0x00100000, .vldLong gT 1 0 4 1), (0xB6010800, 0x00200000, .vstLong gT 4 1 0 2), (0xBE011020, 7, .xcpVLane gT 1 4 2 0 7) ] = true := by
  decide

theorem test_decode_vb : decodes 3
    [ (0x28008202, 0, .vsum gT 2 1 2), (0x3C024400, 0, .vany gT 9 2), (0x3E022430, 0, .xcpV gT 2 9 3 0), (0xBE011420, 0, .xcpVLane gT 1 5 2 0 0)
    , (0x34015010, 0, .vld gT 5 2 16), (0xB2074007, 2, .vli gT 29 7 2) ] = true := by decide

theorem test_decode_m : decodes 4
    [ (0x0200C000, 0, .mgw gT 6), (0x04022003, 0, .mgreq gT 4 4 3), (0x86014004, 0x10505001, .mpack gT 1 2 4 32 1 1 10 1)
    , (0x86000001, 0x01800000, .mpack gT 0 0 1 3 0 0 0 0), (0x08000000, 0, .mldb gT 0 0 0), (0x88022860, 0x402, .mldbLong gT 1 40 3 0 1 1)
    , (0x0A000000, 0, .mmul gT 0 0 0), (0x0C028220, 0, .mmac gT 1 2 17), (0x0E040000, 0, .mclr gT 2), (0x90044000, 0x0054FFFF, .mext gT 2 1 0 339 1 0x1FFF)
    , (0x90028000, 0xC000, .mext gT 1 2 0 3 0 0), (0x92028000, 0xC001, .mcvt gT 1 2 0 3 1), (0x14020300, 0, .mshr gT 1 3), (0x16020000, 0, .mneg gT 1)
    , (0x18000000, 0, .mldq gT 0 0), (0x98020000, 9, .mldqLong gT 1 0 9), (0x1A064000, 0, .mstq gT 3 1), (0x9A064000, 6, .mstqLong gT 3 1 6)
    , (0x1C020C10, 0, .xcpM gT 2 3 1 0) ] = true := by decide

theorem test_decode_c : decodes 5
    [ (0x82000000, 0x10020001, .cpy gT 0 0 256 512 1), (0x84B00000, 0x1201201F, .cpyx ⟨11, 0⟩ 0 0 0 288 288 31)
    , (0x84E00108, 0x10410400, .cpyx ⟨14, 0⟩ 0 8 8 260 260 0), (0x86000510, 3, .dact gT 0 5 1 3), (0x88000300, 0x02804000, .drd gT 0 3 0 40 1)
    , (0x8A000320, 0x03200000, .dwr gT 0 3 2 50 0), (0x0C000300, 0, .dpre gT 0 3 0), (0x0C002001, 0, .dpre gT 2 0 1), (0x0E000300, 0, .dref gT 0 3)
    , (0x90018000, 0x02840000, .rld gT 3 40 2), (0x92009800, 8, .rset gT 1 3 8), (0x9200B800, 7, .rset gT 1 7 7), (0x94022A80, 0x800, .enq gT 4 5 1 0 1 0 2048)
    , (0x96018300, 0x00A00B01, .aop gT 3 0 1 2 0 0 10 11 1), (0x98030000, 0x02801180, .fsend gT 6 40 1 3), (0x9A01A500, 0x03D00000, .fput gT 3 4 2 1 61)
    , (0x1C010853, 0, .xcpC gT 1 2 5 3), (0x1C061050, 0, .xcpC gT 6 4 5 0) ] = true := by decide

theorem test_decode_cb : decodes 6
    [ (0x88003620, 0x02804000, .drd gT 3 6 2 40 1), (0x960121E0, 0x01401500, .aop gT 2 4 0 3 1 1 20 21 0), (0x94009730, 0x1000, .enq gT 1 2 3 1 0 3 4096)
    , (0x9A02B200, 0x06400000, .fput gT 5 6 1 0 100), (0x1C050070, 0, .xcpC gT 5 0 7 0), (0x1C011814, 0, .xcpC gT 1 6 1 4) ] = true := by decide

/-- The words that R69 lists as no instruction, and the code each meets. -/
def refusedWith (sl w x : Nat) : Option DecodeError :=
  match decodeOp sl w x with
  | .ok _ => none
  | .error e => some e

theorem test_refused_words :
    refusedWith 0 0x4A000000 0 = some .illegalEncoding ∧ refusedWith 0 0x12000001 0 = some .reservedField
    ∧ refusedWith 1 0x0200A283 0 = some .illegalEncoding ∧ refusedWith 1 0xAC04A188 0 = some .illegalEncoding
    ∧ refusedWith 2 0x40000000 0 = some .illegalEncoding ∧ refusedWith 4 0x02000000 0 = some .illegalEncoding
    ∧ refusedWith 4 0x8C028220 0 = some .illegalEncoding ∧ refusedWith 5 0x0C003601 0 = some .illegalEncoding
    ∧ refusedWith 0 0x80000000 0 = some .illegalEncoding ∧ refusedWith 7 0 0 = some .illegalEncoding := by decide

/-! ### Ill-formed ops and events, one for each check -/

/-- A predicate number above 31; an operand above its field; an op in a slot of another map; an event in a slot. -/
theorem test_ill_formed_range : Instr.wellFormed 1 (.add ⟨32, 0⟩ 1 2 3) = false ∧ Instr.wellFormed 1 (.add ⟨0, 2⟩ 1 2 3) = false
    ∧ Instr.wellFormed 1 (.addi gT 1 2 128) = false ∧ Instr.wellFormed 2 (.add gT 1 2 3) = false
    ∧ Instr.wellFormed 0 (.watchdog 0) = false ∧ Instr.wellFormed 7 (.nop gT) = false := by decide

/-- A code that the op does not take: a k destination above 11; LEAVE of no lane; G below 6; integer VRCP; VRNG of another type; DPRE of all
with a bank; a block conversion of an integer. -/
theorem test_ill_formed_codes : Instr.wellFormed 0 (.kcp gT 12 0) = false ∧ Instr.wellFormed 0 (.leave gT 0) = false
    ∧ Instr.wellFormed 4 (.mgw gT 5) = false ∧ Instr.wellFormed 2 (.vrcp gT 1 2 0) = false ∧ Instr.wellFormed 2 (.vrng gT 1 2 3 6) = false
    ∧ Instr.wellFormed 5 (.dpre gT 0 6 1) = false ∧ Instr.wellFormed 2 (.vcvt gT 1 2 2 0 0 0 0 0 0 18) = false := by decide

/-- A field that must be zero: a rounding mode without its flag; an RSET value above its field; a CMP with an immediate and a B register. -/
theorem test_ill_formed_zero : Instr.wellFormed 2 (.vaddLong gT 1 2 3 10 0 0 0 0 0 0 1 0) = false
    ∧ Instr.wellFormed 5 (.rset gT 1 7 256) = false ∧ Instr.wellFormed 1 (.cmp gT 1 2 3 0 0 1 5) = false := by decide

theorem test_ill_formed_events : Instr.eventWellFormed (.add gT 1 2 3) = false := by decide

/-- What the bytes of memory decode to, and what is left of them. -/
theorem test_decode_bytes : (decodeBytes 1 [0x82, 0xA2, 0x00, 0x02, 0xFF]).toOption = some (.add gT 5 5 1, [0xFF])
    ∧ (decodeBytes 0 [0x00, 0x00, 0x01, 0xAC, 0x3F, 0x00, 0x00, 0x00]).toOption = some (.kli gT 2 63, [])
    ∧ (decodeBytes 0 [0x00, 0x00, 0x01]).toOption = none ∧ (decodeBytes 0 [0x00, 0x00, 0x01, 0xAC]).toOption = none := by decide

/-! ### Small machines to run one step on -/

/-- The state that an outcome answers; the state after reset where it answers none. -/
def after (o : Host.Outcome State Fault Refusal) : State :=
  match o with
  | .next t => t
  | _ => State.reset

/-- The outcome is a next state. -/
def goesOn (o : Host.Outcome State Fault Refusal) : Bool :=
  match o with
  | .next _ => true
  | _ => false

/-- A booted package with one partition, number 0, whose core 0 has the slot `sl` to issue. -/
def base (sl : Nat) (p : Part) : State :=
  { State.reset with booting := false, bstat := 7, cursor := ⟨0, 0, sl, [0]⟩, parts := [(0, p)] }

/-- A partition at PT 1024 that runs a task of one core, every domain ON, its core 0 changed by `f`. -/
def lone (f : Core → Core) : Part :=
  let p := { lonePart [] 3 with pt := 1024 }
  p.setCore 0 (f (p.core 0))

/-- The package about to issue an op from a slot of core 0. -/
def at_ (sl : Nat) (f : Core → Core) : State := base sl (lone f)

/-- What an op puts in flight: latency and effect of each. -/
def flight (sl : Nat) (f : Core → Core) (i : Instr) : List (Nat × Eff) :=
  ((after (exec i (at_ sl f))).core 0 0).pend.map fun e => (e.due - 1024, e.eff)

/-- The values of registers of a core. -/
def regs (l : List (Dst × Nat)) (c : Core) : Core := l.foldl (fun c e => c.put e.1 e.2) c

/-! ### Worked results of the scalar ops -/

/-- The 128-bit sum and difference of the ADC and SBB fragments (20_ref_a_d R294; 22_ref_n_t R349). -/
theorem test_adc_sbb :
    flight 1 (regs [(.s 1, 2 ^ 64 - 1), (.s 3, 1)]) (.adc gT 5 1 3 1 2) = [(1, .reg (.s 5) 0), (1, .reg (.p 2) 1)]
    ∧ flight 1 (regs [(.s 2, 5), (.s 4, 7), (.p 2, 1)]) (.adc gT 6 2 4 2 3) = [(1, .reg (.s 6) 13), (1, .reg (.p 3) 0)]
    ∧ flight 1 (regs [(.s 3, 1)]) (.sbb gT 5 1 3 1 2) = [(1, .reg (.s 5) 0xFFFFFFFFFFFFFFFF), (1, .reg (.p 2) 1)]
    ∧ flight 1 (regs [(.s 2, 5), (.s 4, 2), (.p 2, 1)]) (.sbb gT 6 2 4 2 3) = [(1, .reg (.s 6) 2), (1, .reg (.p 3) 0)] := by decide

/-- Rows of the DIV table (20_ref_a_d R309). -/
theorem test_div : flight 1 (regs [(.s 6, 2 ^ 64 - 7), (.s 13, 2)]) (.div gT 7 6 13 0) = [(18, .reg (.s 7) (2 ^ 64 - 3))]
    ∧ flight 1 (regs [(.s 6, 2 ^ 64 - 7), (.s 13, 2)]) (.div gT 7 6 13 1) = [(18, .reg (.s 7) 0x7FFFFFFFFFFFFFFC)] := by decide

/-- Division by zero, and the quotient that does not fit. -/
theorem test_div_corners : flight 1 (regs [(.s 6, 7)]) (.div gT 7 6 13 0) = [(18, .reg (.s 7) (2 ^ 64 - 1))]
    ∧ flight 1 (regs [(.s 6, 2 ^ 63), (.s 13, 2 ^ 64 - 1)]) (.div gT 7 6 13 0) = [(18, .reg (.s 7) (2 ^ 63))] := by decide

/-- −1 and 1: the signed product's high half is −1, the natural one's 0 (21_ref_e_m R330). -/
theorem test_mulh : flight 1 (regs [(.s 1, 2 ^ 64 - 1), (.s 2, 1)]) (.mulh gT 8 1 2 0) = [(3, .reg (.s 8) (2 ^ 64 - 1))]
    ∧ flight 1 (regs [(.s 1, 2 ^ 64 - 1), (.s 2, 1)]) (.mulh gT 8 1 2 1) = [(3, .reg (.s 8) 0)] := by decide

theorem test_min_max : flight 1 (regs [(.s 1, 2 ^ 64 - 1), (.s 2, 1)]) (.maxOp gT 8 1 2 0) = [(1, .reg (.s 8) 1)]
    ∧ flight 1 (regs [(.s 1, 2 ^ 64 - 1), (.s 2, 1)]) (.minOp gT 8 1 2 1) = [(1, .reg (.s 8) 1)] := by decide

theorem test_mul_wraps : flight 1 (regs [(.s 5, 2 ^ 63 + 3), (.s 2, 2)]) (.mul gT 6 5 2) = [(3, .reg (.s 6) 6)]
    ∧ flight 1 (regs [(.s 3, 0)]) (.addi gT 6 3 127) = [(1, .reg (.s 6) (2 ^ 64 - 1))]
    ∧ flight 1 (regs [(.s 4, 0x1234)]) (.andImm gT 4 4 0xFFFFFF00) = [(1, .reg (.s 4) 0x1200)]
    ∧ flight 1 (regs [(.s 1, 3), (.s 2, 5)]) (.sub gT 0 1 2) = [(1, .reg (.s 0) (2 ^ 64 - 2))] := by decide

/-- The shift table, with the count of 68 in a register (22_ref_n_t R348). -/
theorem test_shifts : flight 1 (regs [(.s 4, 0x80000000000000F0), (.s 7, 68)]) (.shl gT 4 4 7) = [(1, .reg (.s 4) 0xF00)]
    ∧ flight 1 (regs [(.s 4, 0x80000000000000F0), (.s 7, 68)]) (.shr gT 4 4 7) = [(1, .reg (.s 4) 0x080000000000000F)]
    ∧ flight 1 (regs [(.s 4, 0x80000000000000F0), (.s 7, 68)]) (.sar gT 4 4 7) = [(1, .reg (.s 4) 0xF80000000000000F)] := by decide

/-- CLZ of 0x1_0000 is 47, POPC of 0xF0F0 is 8, and LI with LIH makes 0x1234_5678_9ABC (20_ref_a_d R302; 22_ref_n_t R343; 21_ref_e_m R328). -/
theorem test_bits_and_constants : flight 1 (regs [(.s 9, 0x10000)]) (.clz gT 4 9) = [(1, .reg (.s 4) 47)]
    ∧ flight 1 (regs [(.s 9, 0xF0F0)]) (.popc gT 4 9) = [(1, .reg (.s 4) 8)]
    ∧ flight 1 (regs [(.s 3, 0x56789ABC)]) (.lih gT 3 0x1234) = [(1, .reg (.s 3) 0x123456789ABC)]
    ∧ flight 0 id (.kli gT 1 0xFFFFFFFF) = [(1, .reg (.k 1) (2 ^ 64 - 1))] := by decide

/-- PLOG with table 8 is AND; CMP compares signed or natural values (22_ref_n_t R342; 20_ref_a_d R303). -/
theorem test_predicates : flight 1 (regs [(.p 5, 1), (.p 6, 1)]) (.plog gT 4 5 6 8) = [(1, .reg (.p 4) 1)]
    ∧ flight 1 (regs [(.p 5, 1)]) (.plog gT 4 5 6 8) = [(1, .reg (.p 4) 0)]
    ∧ flight 1 (regs [(.s 3, 2 ^ 64 - 1), (.s 4, 1)]) (.cmp gT 5 3 4 0 2 0 0) = [(1, .reg (.p 5) 1)]
    ∧ flight 1 (regs [(.s 3, 2 ^ 64 - 1), (.s 4, 1)]) (.cmp gT 5 3 4 1 2 0 0) = [(1, .reg (.p 5) 0)] := by decide

/-- s2 = 0x1_0000 and bytes FF 80 there: LDS of 2 bytes at offset 1 reads 0x80FF, sign-extended or not (21_ref_e_m R326). -/
theorem test_lds :
    let m : Core → Core := fun c => { c with scratch := [(0x10000, 0xFF), (0x10001, 0x80)], pend := [⟨1024, 1023, 1, 0, .lds 4 0x10000 1 false⟩] }
    let n : Core → Core := fun c => { c with scratch := [(0x10000, 0xFF), (0x10001, 0x80)], pend := [⟨1024, 1023, 1, 0, .lds 5 0x10000 1 true⟩] }
    flight 1 (regs [(.s 2, 0x10000)]) (.lds gT 4 2 0 1 1) = [(1, .lds 4 0x10000 1 false)]
    ∧ ((after (exec (.scratchpadTouch 0 0) (at_ 1 m))).core 0 0).pend = [⟨1027, 1023, 1, 0, .reg (.s 4) 0xFFFFFFFFFFFF80FF⟩]
    ∧ ((after (exec (.scratchpadTouch 0 0) (at_ 1 n))).core 0 0).pend = [⟨1027, 1023, 1, 0, .reg (.s 5) 0x80FF⟩] := by decide

/-- s4 = 0x1122_3344_5566_7788: STS of 4 bytes at s2+8 writes 88 77 66 55 two cycles later (22_ref_n_t R353). -/
theorem test_sts : flight 1 (regs [(.s 2, 0x10000), (.s 4, 0x1122334455667788)]) (.sts gT 4 2 2 8)
    = [(2, .storeBytes 0x10008 [0x88, 0x77, 0x66, 0x55])] := by decide

/-! ### Worked results of numbers and lanes -/

/-- A vector whose lowest lanes of `w` bits are given, the others zero. -/
def vec (w : Nat) (l : List Nat) : Nat := l.foldr (fun a r => a % 2 ^ w + 2 ^ w * r) 0

/-- The lowest `n` lanes of a vector. -/
def low (w n x : Nat) : List Nat := (List.range n).map fun i => lane w x i

/-- 100 + 100 in i8, clamped and not; 3 − 5 in n16, clamped; the absolute value of −2^31 in i32 wraps (06_numbers R85). -/
theorem test_integer_lanes :
    lane 8 (vArith .add 0 ⟨0, 0, 0, 0, 0, 0, 1, 0, 0, 0⟩ 0 100 100) 0 = 127
    ∧ lane 8 (vArith .add 0 Mods.none 0 100 100) 0 = 200
    ∧ lane 16 (vArith .sub 5 ⟨0, 0, 0, 0, 0, 0, 1, 0, 0, 0⟩ 0 3 5) 0 = 0
    ∧ lane 32 (vArith .add 2 ⟨0, 1, 0, 0, 0, 0, 0, 0, 0, 0⟩ 0 (2 ^ 31) 0) 0 = 2 ^ 31 := by decide +kernel

/-- VFMA rounds once and VMUL with VADD twice, all toward +Inf (23_ref_v_y R367). -/
theorem test_fused_once :
    lane 32 (vFma 10 ⟨0, 0, 0, 0, 0, 0, 0, 0, 3, 1⟩ 0 0x3F800001 0x3F800001 0xBF800000) 0 = 0x34800001
    ∧ lane 32 (vArith .mul 10 ⟨0, 0, 0, 0, 0, 0, 0, 0, 3, 1⟩ 0 0x3F800001 0x3F800001) 0 = 0x3F800003
    ∧ lane 32 (vArith .add 10 ⟨0, 0, 0, 0, 0, 0, 0, 0, 3, 1⟩ 0 0x3F800003 0xBF800000) 0 = 0x34C00000 := by decide +kernel

/-- f32 to i32 and n32: 2.5 by nearest and up, −2.5 down, 3.0e9, −7.0 (06_numbers R91). -/
theorem test_convert_to_integer :
    low 32 1 (vCvt 10 2 Mods.none 0 0x40200000) = [2] ∧ low 32 1 (vCvt 10 2 ⟨0, 0, 0, 0, 0, 0, 0, 0, 3, 1⟩ 0 0x40200000) = [3]
    ∧ low 32 1 (vCvt 10 2 ⟨0, 0, 0, 0, 0, 0, 0, 0, 2, 1⟩ 0 0xC0200000) = [2 ^ 32 - 3]
    ∧ low 32 1 (vCvt 10 2 Mods.none 0 0x4F32D05E) = [2147483647] ∧ low 32 1 (vCvt 10 6 Mods.none 0 0x4F32D05E) = [3000000000]
    ∧ low 32 1 (vCvt 10 6 Mods.none 0 0xC0E00000) = [0] := by decide +kernel

/-- f32 to bf16: halfway to even, halfway up, a quarter above (06_numbers R91). -/
theorem test_convert_to_bf16 :
    low 16 1 (vCvt 10 9 Mods.none 0 0x3F808000) = [0x3F80] ∧ low 16 1 (vCvt 10 9 ⟨0, 0, 0, 0, 0, 0, 0, 0, 3, 1⟩ 0 0x3F808000) = [0x3F81]
    ∧ low 16 1 (vCvt 10 9 Mods.none 0 0x3F804000) = [0x3F80] ∧ low 16 1 (vCvt 10 9 ⟨0, 0, 0, 0, 0, 0, 0, 0, 3, 1⟩ 0 0x3F804000) = [0x3F81] := by decide +kernel

/-- VEXP of −3.0 is 0.125 and VLOG of 1.0 is +0; VRCP of −0 and VRSQ of a negative number (06_numbers R93). -/
theorem test_functions : lane 32 (vFunc .exp 10 Mods.none 0 0xC0400000) 0 = 0x3E000000 ∧ lane 32 (vFunc .log 10 Mods.none 0 0x3F800000) 0 = 0
    ∧ lane 32 (vFunc .rcp 10 Mods.none 0 0x80000000) 0 = 0xFF800000 ∧ lane 32 (vFunc .rsq 10 Mods.none 0 0xBF800000) 0 = 0x7FC00000 := by decide +kernel

/-- The tree sum of 2^24, 1, 1, 1 is 16,777,218 (06_numbers R94). -/
theorem test_tree_sum : lane 32 (vSum 10 Mods.none 0 (vec 32 [0x4B800000, 0x3F800000, 0x3F800000, 0x3F800000])) 0 = 0x4B800001 := by decide +kernel

/-- The bk4 block of 0.3, −1.7, 2.5 and 7.6 (06_numbers R96). -/
theorem test_block :
    toBlock 4 (blockSource 10 Mods.none (vec 32 [0x3E99999A, 0xBFD9999A, 0x40200000, 0x40F33333])) = some (0x7F + 256 * 0xE0 + 65536 * 0x72) := by decide +kernel

/-- The vector shift examples with an i16 lane of 0x8010 (23_ref_v_y R376). -/
theorem test_lane_shifts : lane 16 (vShl 1 0x8010 4) 0 = 0x0100 ∧ lane 16 (vShr 1 0x8010 4) 0 = 0x0801 ∧ lane 16 (vSar 1 0x8010 4) 0 = 0xF801
    ∧ lane 16 (vShl 1 0x8010 16) 0 = 0 ∧ lane 16 (vShr 1 0x8010 16) 0 = 0 ∧ lane 16 (vSar 1 0x8010 16) 0 = 0xFFFF := by decide +kernel

/-- The Peal test vector (06_numbers R99). -/
theorem test_peal : peal 0x56789ABC 0x1234 0 0 0 2 = 0x4F88E9164F37CBD1 := by decide +kernel

theorem test_lane_ops : low 8 2 (vIota 0 / 2 ^ 1016) = [127, 128] ∧ low 32 3 (vPerm 2 (vec 32 [7, 8, 9]) (vec 32 [2, 64, 1])) = [9, 7, 8]
    ∧ low 32 2 (vSel 2 (vec 32 [1, 2]) (vec 32 [3, 4]) (vec 32 [0, 1])) = [3, 2] ∧ low 8 2 (vPopc 0 0x0F03) = [2, 4]
    ∧ low 16 2 (vBcast 1 1 0x00070005) = [7, 7] := by decide +kernel

/-- −|−128| compared by VMAX with |…|: 128 is chosen and wraps, and clamps to 127 (23_ref_v_y R360). -/
theorem test_max_of_absolute : lane 8 (vArith .max 0 ⟨0, 1, 0, 0, 0, 0, 0, 0, 0, 0⟩ 0 0x80 5) 0 = 0x80
    ∧ lane 8 (vArith .max 0 ⟨0, 1, 0, 0, 0, 0, 1, 0, 0, 0⟩ 0 0x80 5) 0 = 127 := by decide +kernel

/-! ### Worked results of the product array -/

/-- AES with a 256-bit key (the example of FIPS 197, C.3), and two blocks of XTS (vector 10 of IEEE 1619), the cipher that R266 names. -/
theorem test_xts :
    let bytes (x : Nat) : List Nat := (leBytes 16 x).map BitVec.toNat |>.reverse
    let ramp (n : Nat) : List Byte := (List.range n).map (BitVec.ofNat 8)
    let big (n x : Nat) : Nat := leNat (leBytes n x).reverse
    let key := big 32 0x2718281828459045235360287471352662497757247093699959574966967627
      + 2 ^ 256 * big 32 0x3141592653589793238462643383279502884197169399375105820974944592
    aesBlock (roundKeys (List.range 32)) (bytes 0x00112233445566778899aabbccddeeff) = bytes 0x8ea2b7ca516745bfeafc49904b496089
    ∧ leNat (xtsEncrypt key 0xFF (ramp 32)) = big 32 0x1c3b3a102f770386e4836c99e370cf9bea00803f5e482357a4ae12d414a3e63b := by decide +kernel

/-- `mgreq 4, 4, 3` sets G to 9 (11_products R159). -/
theorem test_mgreq : flight 4 id (.mgreq gT 4 4 3) = [(1, .reg .g 9), (1, .reg .wa 4), (1, .reg .wb 4)]
    ∧ flight 4 id (.mgreq gT 15 15 2047) = [(1, .reg .g 40), (1, .reg .wa 15), (1, .reg .wb 15)] := by decide +kernel

/-- Balanced extraction at g = 8: 2,569 and 509 (11_products R171). -/
theorem test_extraction : coefficientRange 8 0 2 2569 = [9, 10] ∧ coefficientRange 8 0 3 509 = [-3, 2, 0] := by decide

/-- The extraction fragment: MEXT's and MCVT's bytes, and MSHR's failure (21_ref_e_m R332, R334, R335). -/
theorem test_extraction_fragment :
    let f : Core → Core := fun c => { regs [(.im 2, 0x20000), (.g, 8)] c with qregs := [(1, ⟨509, BitVec.ofInt 16 (-2), 20⟩)] }
    flight 4 f (.mext gT 1 2 0 3 0 0) = [(10, .mext 0x20000 [0xFD, 0xFF, 0xFF, 0xFF, 2, 0, 0, 0, 0, 0, 0, 0])]
    ∧ flight 4 f (.mcvt gT 1 2 0 3 1) = [(8, .storeBytes 0x20100 [0, 0, 0x40, 0xBF, 0, 0, 0, 0x3F, 0, 0, 0, 0])]
    ∧ flight 4 f (.mshr gT 1 1) = [(4, .accChecked 1 ⟨1, BitVec.ofInt 16 (-2), 20⟩ (some ⟨0x42, 6⟩))] := by decide +kernel

/-- The CONV product: z0 = 1, −1, 2 and the entry 1, 2, 3, 4 at G = 9 make 1, 1, 3, 5, 2, 8, with bound 24 (11_products R166). -/
theorem test_conv_product :
    let z : Packed := ⟨BitVec.ofNat 2048 (1 + 511 * 2 ^ 9 + 2 * 2 ^ 18), 0, 3, 2⟩
    let e : Packed := ⟨BitVec.ofNat 2048 (1 + 2 * 2 ^ 9 + 3 * 2 ^ 18 + 4 * 2 ^ 27), 0, 227, 4⟩
    let f : Core → Core := fun c => { regs [(.g, 9)] c with zregs := [(0, z)], bstore := [(0, e)], notices := [(0, 900)] }
    (flight 4 f (.mmul gT 0 0 0)).map (·.1) = [16]
    ∧ polyValue 9 z.image * polyValue 9 e.image = 0x10020280C0201 ∧ z.bound * e.bound * min z.count e.count = 24 := by decide +kernel

/-- An op with a false condition puts nothing in flight, and with PN set the condition is the other way round (03_core R39). -/
theorem test_false_condition : flight 1 (regs [(.s 1, 6), (.s 2, 7)]) (.add ⟨3, 0⟩ 5 1 2) = []
    ∧ flight 1 (regs [(.s 1, 6), (.s 2, 7)]) (.add ⟨3, 1⟩ 5 1 2) = [(1, .reg (.s 5) 13)] := by decide

/-- A handle of page B: the XLT of k5 = 0x40_3000 delivers PROW 0x1C0 after 40 cycles; the DACT of an INVALID handle faults with 0x20
(10_translation R148, R151). -/
theorem test_xlt :
    let s := { at_ 0 (regs [(.k 5, 0x403000)]) with towerTlb := [(0, [(0, ⟨0x40, 1, 0, true, true, true, 0x1C0⟩)])] }
    (((after (exec (.xlt gT 1 5) s)).core 0 0).pend.map fun e => (e.due - 1024, e.eff))
      = [(40, .xlt 1 0x403000 ⟨.valid, true, true, 1, 0, 0, 0x40, 0x1C0⟩)]
    ∧ (after (exec (.dact gT 0 2 1 0) (at_ 5 id))).here.frec.code = 0x20 := by decide

/-- FREC0 to DETAIL of a TRAP 0x123: code 0x70, class 3 (16_faults R248). -/
theorem test_trap : flight 0 id (.trap gT 0x123) = [(1, .trap 0x123)]
    ∧ (after (exec (.registerResult 0 0) (at_ 0 fun c => { c with pend := [⟨1024, 1023, 0, 7, .trap 0x123⟩] }))).here.frec
      = ⟨0x70, 0, 0, 3, false, 7, 1023, 1024, 0x123⟩ := by decide

/-- `call` with offset +40 pushes the address after its two delay bundles, and the target is 40 words on (08_loops R114, R115). -/
theorem test_call : ((after (exec (.call gT 40) (at_ 0 fun c => { c with cur := 100, next := 102 }))).core 0 0).pending = some (140, 2)
    ∧ ((after (exec (.call gT 40) (at_ 0 fun c => { c with cur := 100, next := 102 }))).core 0 0).rstack = [104] := by decide

/-- The first step after reset runs a lone ADD placed where the package fetches (02_time R16; 04_encoding R53). -/
theorem test_lone_add : ((after (step (State.reset.withFetchWord 32 0x0400417F))).core 0 0).pend
    = [⟨1, 0, 1, 0, .reg (.s 2) (2 ^ 64 - 1)⟩] := by decide

/-! ### Witnesses: states and operands that meet the hypotheses of every clause of the statements, at the ends of their ranges -/

/-- Each op of a list executes in a state, and issues. -/
def runs (s : State) (l : List Instr) : Bool := l.all fun i => executes s gT i && goesOn (exec i s)

theorem wit_ScalarSumsAndLogic : runs (at_ 1 (regs [(.s 1, 5), (.s 63, 2 ^ 64 - 1)]))
    [ .add gT 0 63 1, .addImm gT 63 63 (2 ^ 32 - 1), .addi gT 1 63 127, .sub gT 1 0 63, .subImm gT 1 1 (2 ^ 31), .andOp gT 1 1 63, .andImm gT 1 1 0
    , .orOp gT 1 1 63, .orImm gT 1 1 1, .xorOp gT 1 1 63, .xorImm gT 0 0 (2 ^ 32 - 1) ] = true := by decide

/-- s1 = −1 and s2 = 1 stand in both orders, s3 = 0 divides. -/
theorem wit_ScalarProductsAndCarries :
    let s := at_ 1 (regs [(.s 1, 2 ^ 64 - 1), (.s 2, 1)])
    let c := s.hereCore
    runs s [ .mul gT 0 1 2, .mulImm gT 1 1 (2 ^ 32 - 1), .mulh gT 1 1 1 1, .mulh gT 1 1 1 0, .div gT 1 1 3 1, .div gT 1 1 3 0, .div gT 1 1 2 1
           , .div gT 1 1 2 0, .minOp gT 1 1 2 0, .minOp gT 1 1 2 1, .maxOp gT 1 1 2 0, .maxOp gT 1 1 2 1, .adc gT 1 1 1 0 0, .adc gT 1 1 2 1 31
           , .sbb gT 1 0 1 0 1 ] = true
    ∧ c.s 3 = 0 ∧ c.s 2 ≠ 0 ∧ (c.s 2).toNat < (c.s 1).toNat ∧ (c.s 1).toInt < (c.s 2).toInt := by decide

/-- The counts of leading zeros 0, 63 and 64; a SEL of each side. -/
theorem wit_ScalarShiftsBitsAndConstants :
    let s := at_ 1 (regs [(.s 1, 2 ^ 63), (.s 2, 1), (.p 1, 1)])
    let c := s.hereCore
    runs s [ .shl gT 1 1 2, .shlImm gT 1 1 63, .shr gT 1 1 1, .shrImm gT 1 1 64, .sar gT 1 1 2, .sarImm gT 1 1 (2 ^ 32 - 1), .clz gT 1 1
           , .clz gT 1 2, .clz gT 1 3, .popc gT 1 1, .li gT 0 (2 ^ 31), .lih gT 1 (2 ^ 32 - 1), .sel gT 1 1 2 1, .sel gT 1 1 2 0, .sel gT 1 1 2 31 ] = true
    ∧ 2 ^ 63 ≤ (c.s 1).toNat ∧ (c.s 1).toNat < 2 ^ 64 ∧ 2 ^ 0 ≤ (c.s 2).toNat ∧ (c.s 2).toNat < 2 ^ 1 ∧ (c.s 3).toNat = 0
    ∧ c.p 1 = true ∧ c.p 0 = true ∧ c.p 31 = false := by decide

/-- Each condition true and false, of a register and of an immediate. -/
theorem wit_PredicatesWritten :
    let s := at_ 1 (regs [(.s 1, 2 ^ 64 - 1), (.s 2, 1), (.p 1, 1)])
    let c := s.hereCore
    let v := at_ 2 (regs [(.v 5, 2 ^ 2047)])
    let w := at_ 3 (regs [(.w 5, 1)])
    ([0, 1, 2, 3, 4, 5].all fun n => runs s [.cmp gT 1 1 2 0 n 0 0, .cmp gT 1 1 2 1 n 0 0, .cmp gT 31 1 0 0 n 1 (2 ^ 24 - 1), .cmp gT 0 1 0 1 n 1 0]) = true
    ∧ (c.s 1).toInt < (c.s 2).toInt ∧ (c.s 2).toNat < (c.s 1).toNat ∧ c.s 1 = (BitVec.ofNat 24 (2 ^ 24 - 1)).signExtend 64
    ∧ runs s [.plog gT 2 1 1 8, .plog gT 2 1 2 8, .plog gT 0 0 0 15] = true ∧ Nat.testBit 8 3 = true ∧ Nat.testBit 8 2 = false
    ∧ runs v [.vany gT 1 5, .vany gT 1 4] = true ∧ runs w [.vany gT 1 5] = true ∧ v.hereCore.vr 2 5 ≠ 0 ∧ v.hereCore.vr 2 4 = 0 := by
  decide +kernel

theorem wit_ScalarLoadAndStoreIssue : runs (at_ 1 (regs [(.s 2, 2 ^ 20 - 1)]))
    [ .lds gT 0 2 0 0 0, .lds gT 1 2 1 3 1, .lds gT 1 2 0 1 (2 ^ 20 - 1), .sts gT 63 2 0 0, .sts gT 0 2 3 (2 ^ 19) ] = true := by decide

/-- Every route of XCP. -/
theorem wit_CrossCopiesIssue : runs (at_ 0 id) [.xcpK gT 1 0 15 0] = true
    ∧ runs (at_ 1 id) [.xcpS gT 0 15 1 0, .xcpS gT 2 31 1 0, .xcpS gT 3 31 63 0, .xcpS gT 7 7 1 0, .xcpS gT 7 0 1 1, .xcpS gT 7 0 1 2] = true
    ∧ runs (at_ 2 id) [.xcpV gT 3 0 31 0, .xcpV gT 4 7 0 0, .xcpVLane gT 1 63 0 0 31] = true ∧ runs (at_ 3 id) [.xcpV gT 2 0 0 0] = true
    ∧ runs (at_ 4 id) [.xcpM gT 2 0 7 0, .xcpM gT 3 31 0 0] = true
    ∧ runs (at_ 5 id) [.xcpC gT 1 0 15 7, .xcpC gT 6 15 0 0] = true ∧ runs (at_ 6 id) [.xcpC gT 5 0 0 0] = true := by decide

/-- Domains in each state: d0 OFF, d1 WAKING, d2 RETAINED, d3 ON. -/
theorem wit_ControlResultsIssue :
    let s := at_ 0 fun c => { c with domains := [(1, .waking 2000 true), (2, .retained), (3, .on)] }
    runs s [ .nop gT, .wstat gT 0 0, .wstat gT 11 1, .wstat gT 0 2, .wstat gT 12 3, .hinv gT 15, .setfmt gT 15, .setfmtLong gT (2 ^ 32 - 1)
           , .tabr gT 11 0, .tabr gT 0 1, .kli gT 0 (2 ^ 31), .kcp gT 1 15, .trap gT (2 ^ 19 - 1), .phase gT ] = true
    ∧ s.hereCore.dom 0 = .off ∧ s.hereCore.dom 1 = .waking 2000 true ∧ s.hereCore.dom 2 = .retained ∧ s.hereCore.dom 3 = .on := by decide

theorem wit_VectorArithmeticIssue :
    let l : List Instr := [ .vadd gT 0 1 2 0, .vaddLong gT 0 1 2 10 1 1 1 1 3 7 3 1, .vsub gT 0 1 2 7, .vsubLong gT 0 1 2 8 0 0 0 0 0 0 0 0
      , .vmul gT 31 1 2 10, .vmulLong gT 0 1 2 3 0 0 0 0 1 0 0 0, .vmin gT 0 1 2 4, .vminLong gT 0 1 2 9 0 1 0 0 0 0 0 0, .vmax gT 0 1 2 6
      , .vmaxLong gT 0 31 2 0 1 0 0 0 1 0 0 0, .vfma gT 0 1 2 10 31 1 0 0 0 0 1 0 15 2 1 ]
    runs (at_ 2 id) l = true ∧ runs (at_ 3 id) l = true := by decide +kernel

/-- The highest value of an integer or natural type in its last lane: one more wraps to the lowest and clamps; so do the other operations. -/
theorem wit_VectorArithmeticIssue_lanes : ([0, 3, 6].all fun t =>
      let w := laneBits t
      let i := lanes t - 1
      let hi := if t < 4 then 2 ^ (w - 1) - 1 else 2 ^ w - 1
      let lo := if t < 4 then 2 ^ (w - 1) else 0
      let v (n : Nat) := vec w (List.replicate i 0 ++ [n])
      let m (clp : Nat) : Mods := ⟨0, 0, 0, 0, 0, 0, clp, 0, 0, 0⟩
      let at_ (x : Nat) := lane w x i
      decide (t < 8 ∧ i < lanes t ∧ at_ (vArith .add t (m 0) 0 (v hi) (v 1)) = lo ∧ at_ (vArith .add t (m 1) 0 (v hi) (v 1)) = hi
        ∧ at_ (vArith .sub t (m 0) 0 (v lo) (v 1)) = hi ∧ at_ (vArith .sub t (m 1) 0 (v lo) (v 1)) = lo
        ∧ at_ (vArith .mul t (m 1) 0 (v hi) (v 2)) = hi ∧ at_ (vArith .mul t (m 0) 0 (v 3) (v 2)) = 6
        ∧ at_ (vArith .min t (m 0) 0 (v lo) (v hi)) = lo ∧ at_ (vArith .max t (m 0) 0 (v lo) (v hi)) = hi
        ∧ at_ (vFma t (m 1) 0 (v 3) (v 2) (v hi)) = hi)) = true := by decide +kernel

/-- The last lane of a floating type: 1 + 1; ∞ − ∞ and 0 × ∞; the largest value doubled in each mode, and clamped; −0 below +0; a subnormal
halved, a tie to even; a fused sum that cancels is −0 in mode 2; a NaN. -/
theorem wit_VectorArithmeticIssue_floats : ([8, 9, 10].all fun t =>
      let f := floatFormat t
      let w := laneBits t
      let i := lanes t - 1
      let v (n : Nat) := vec w (List.replicate i 0 ++ [n])
      let m (clp mode : Nat) : Mods := ⟨0, 0, 0, 0, 0, 0, clp, 0, mode, 1⟩
      let op (o : Arith) (clp mode a b : Nat) := lane w (vArith o t (m clp mode) 0 (v a) (v b)) i
      let big := f.top - 1
      let two := f.one + 2 ^ f.frac
      decide (8 ≤ t ∧ t ≤ 10 ∧ i < lanes t ∧ op .add 0 0 f.one f.one = two ∧ op .sub 0 0 f.top f.top = f.nan ∧ op .mul 0 0 0 f.top = f.nan
        ∧ op .add 0 0 big big = f.top ∧ op .add 0 1 big big = big ∧ op .add 0 2 big big = big ∧ op .add 0 3 big big = f.top
        ∧ op .add 1 0 big big = big ∧ op .add 2 0 f.one f.one = f.one ∧ op .sub 3 0 0 two = f.sign + f.one
        ∧ op .min 0 0 0 f.sign = f.sign ∧ op .max 0 0 f.sign 0 = 0 ∧ op .mul 0 0 3 (f.one - 2 ^ f.frac) = 2 ∧ op .mul 0 0 1 (f.one - 2 ^ f.frac) = 0
        ∧ lane w (vFma t ⟨0, 0, 0, 0, 1, 0, 0, 0, 2, 1⟩ 0 (v f.one) (v two) (v two)) i = f.sign ∧ op .add 0 0 (f.top + 1) f.one = f.nan)) = true := by
  decide +kernel

/-- The last lane of a type: each comparison true and false, each side of a selection, counts and constants. -/
theorem wit_VectorBitsAndLanesIssue_lanes : ([1, 2, 7].all fun t =>
      let w := laneBits t
      let i := lanes t - 1
      let top := 2 ^ w - 1
      let v (n : Nat) := vec w (List.replicate i 0 ++ [n])
      let at_ (x : Nat) := lane w x i
      let cmp (n a b : Nat) := at_ (vCmp t n (Mods.two 0 0 0 0 0 0 0 0) (v a) (v b))
      decide (i < lanes t ∧ cmp 0 5 5 = top ∧ cmp 0 5 6 = 0 ∧ cmp 1 5 6 = top ∧ cmp 1 5 5 = 0 ∧ cmp 3 5 5 = top ∧ cmp 3 6 5 = 0 ∧ cmp 5 5 5 = top
        ∧ cmp 5 5 6 = 0 ∧ cmp 2 top 1 = (if t < 4 then top else 0) ∧ cmp 4 top 1 = (if t < 4 then 0 else top)
        ∧ at_ (vSel t (v 3) (v 4) (v 1)) = 3 ∧ at_ (vSel t (v 3) (v 4) (v 0)) = 4 ∧ at_ (vPerm t (v 3) (v i)) = 3 ∧ at_ (vBcast t i (v 7)) = 7
        ∧ at_ (vIota t) = i % 2 ^ w ∧ at_ (vLi t (2 ^ 32 - 1)) = (if t = 7 then 2 ^ 32 - 1 else top) ∧ at_ (vPopc t (v top)) = w)) = true := by
  decide +kernel

/-- The last lane of a floating type: −0 and +0 are equal, a NaN meets NE and UN alone, and the order of negative numbers, of an absolute value
and of infinities; VIOTA's lanes (06_numbers R90; 23_ref_v_y R364, R368). -/
theorem wit_VectorBitsAndLanesIssue_floats : ([8, 9, 10].all fun t =>
      let f := floatFormat t
      let w := laneBits t
      let i := lanes t - 1
      let v (n : Nat) := vec w (List.replicate i 0 ++ [n])
      let cmp (aa x y : Nat) := (List.range 7).map fun n => decide (lane w (vCmp t n (Mods.two 0 aa 0 0 0 0 0 0) (v x) (v y)) i ≠ 0)
      let whole (x y : Nat) : Bool := (List.range 7).all fun n => let c := lane w (vCmp t n Mods.none (v x) (v y)) i; c == 0 || c == 2 ^ w - 1
      let equal := [true, false, false, true, false, true, false]
      let less := [false, true, true, true, false, false, false]
      let more := [false, true, false, false, true, true, false]
      let unordered := [false, true, false, false, false, false, true]
      decide (i < lanes t ∧ cmp 0 f.sign 0 = equal ∧ cmp 0 f.one f.one = equal ∧ cmp 0 (f.sign + f.one) f.one = less ∧ cmp 1 (f.sign + f.one) f.one = equal
        ∧ cmp 0 (f.sign + f.top) (f.sign + f.one) = less ∧ cmp 0 f.top f.one = more ∧ cmp 0 (f.sign + f.one) (f.sign + f.top - 1) = more
        ∧ cmp 0 1 f.sign = more ∧ cmp 0 f.nan f.one = unordered ∧ cmp 0 f.one (f.top + 1) = unordered ∧ cmp 0 f.nan f.nan = unordered
        ∧ whole f.nan f.one ∧ whole f.sign 0 ∧ floatLane f (lane w (vIota t) i) 0 0 = .num false (i * 2 ^ f.unit))) = true := by decide +kernel

theorem wit_VectorBitsAndLanesIssue :
    let l : List Instr := [ .vand gT 0 1 2 7, .vor gT 0 1 2 0, .vxor gT 31 1 2 3, .vshl gT 0 1 2 0, .vshr gT 0 1 2 7, .vsar gT 0 1 2 3
      , .vcmp gT 0 1 2 10 1 1 0 0 6, .vsel gT 0 1 2 10 31, .vperm gT 0 1 2 10, .vbcast gT 0 1 0, .vbcastLong gT 0 1 10 63, .viota gT 0 10
      , .vli gT 0 10 (2 ^ 32 - 1), .vrng gT 0 1 2 7, .vpopc gT 0 1 7 ]
    runs (at_ 2 id) l = true ∧ runs (at_ 3 id) l = true := by decide +kernel

/-- A conversion of each kind: to a lane type, to a block, and to a block of an Inf. -/
theorem wit_VectorFunctionsAndReductionsIssue :
    let l : List Instr := [ .vcvt gT 0 1 10 0 0 0 0 0 0 0, .vcvt gT 0 1 10 1 1 0 0 0 0 16, .vcvt gT 0 2 9 0 0 0 0 0 0 22, .vrcp gT 0 1 8, .vrcpLong gT 0 1 10 1 1 3 15 3 1
      , .vrsq gT 0 1 9, .vrsqLong gT 0 1 10 0 0 0 0 0 0, .vexp gT 0 1 10, .vexpLong gT 0 1 8 0 0 0 8 0 0, .vlog gT 0 1 10
      , .vlogLong gT 0 1 10 0 0 0 0 0 0, .vsum gT 0 1 10, .vsumLong gT 0 1 2 0 0 1 0 0 0, .vrmax gT 0 1 2, .vrmaxLong gT 0 1 10 1 1 ]
    let f := regs [(.v 2, 0x7F80), (.w 2, 0x7F80)]
    runs (at_ 2 f) l = true ∧ runs (at_ 3 f) l = true
    ∧ toBlock 2 (blockSource 10 (Mods.one 1 1 0 0 0 0) 0) = some 0 ∧ toBlock 8 (blockSource 9 (Mods.one 0 0 0 0 0 0) 0x7F80) = none := by
  decide +kernel

/-- Sums that wrap and that clamp; the greatest lane; conversions to a narrower and to a wider type, whose lanes past the last are zero. -/
theorem wit_VectorFunctionsAndReductionsIssue_lanes :
    let m (clp : Nat) : Mods := ⟨0, 0, 0, 0, 0, 0, clp, 0, 0, 0⟩
    vSum 0 (m 0) 0 (vec 8 [100, 100]) = 200 ∧ vSum 0 (m 1) 0 (vec 8 [100, 100]) = 127 ∧ vSum 4 (m 1) 0 (vec 8 [200, 100]) = 255
    ∧ vSum 7 (m 0) 0 (vec 64 [2 ^ 64 - 1, 2]) = 1 ∧ vRmax 0 (m 0) (vec 8 [0x80, 5, 0xFF]) = 5 ∧ vRmax 4 (m 0) (vec 8 [0x80, 5, 0xFF]) = 0xFF
    ∧ low 8 2 (vCvt 1 0 (m 1) 0 (vec 16 [300, 0xFFFF])) = [127, 0xFF] ∧ low 8 2 (vCvt 1 0 (m 0) 0 (vec 16 [300, 0xFFFF])) = [44, 0xFF]
    ∧ low 8 2 (vCvt 1 4 (m 1) 0 (vec 16 [300, 0xFFFF])) = [255, 0] ∧ lane 8 (vCvt 1 0 (m 0) 0 (2 ^ 2048 - 1)) 127 = 0xFF
    ∧ lane 8 (vCvt 1 0 (m 0) 0 (2 ^ 2048 - 1)) 128 = 0 ∧ low 16 1 (vCvt 0 1 (m 0) 0 0x80) = [0xFF80] := by decide +kernel

/-- Functions at zeros, infinities, whole and other exponents, and powers of two and numbers between; in f16 too (06_numbers R93). -/
theorem wit_VectorFunctionsAndReductionsIssue_functions :
    let m (mode : Nat) : Mods := ⟨0, 0, 0, 0, 0, 0, 0, 0, mode, 1⟩
    let f (fn : Func) (mode x : Nat) := lane 32 (vFunc fn 10 (m mode) 0 x) 0
    let h (fn : Func) (x : Nat) := lane 16 (vFunc fn 8 (m 0) 0 x) 0
    let up (x lo hi : Nat) : Bool := decide (lo ≤ x ∧ x ≤ hi)
    f .rcp 0 0x40400000 = 0x3EAAAAAB ∧ f .rcp 1 0x40400000 = 0x3EAAAAAA ∧ f .rcp 0 0 = 0x7F800000 ∧ f .rcp 0 0xFF800000 = 0x80000000
    ∧ f .rsq 0 0x40800000 = 0x3F000000 ∧ f .rsq 0 0x80000000 = 0xFF800000 ∧ f .rsq 0 0x7F800000 = 0 ∧ f .rsq 0 0xFF800000 = 0x7FC00000
    ∧ f .exp 0 0xFF800000 = 0 ∧ f .exp 0 0x7F800000 = 0x7F800000 ∧ f .exp 0 0x80000000 = 0x3F800000 ∧ up (f .exp 0 0x3F000000) 0x3F800000 0x40000000
    ∧ up (f .exp 0 0xBF000000) 0x3F000000 0x3F800000 ∧ f .log 0 0x41000000 = 0x40400000 ∧ f .log 0 0x3F000000 = 0xBF800000 ∧ f .log 0 0 = 0xFF800000
    ∧ f .log 0 0xBF800000 = 0x7FC00000 ∧ up (f .log 0 0x40400000) 0x3F800000 0x40000000 ∧ up (f .log 0 0x3EC00000) 0xBF800000 0xC0000000
    ∧ f .log 0 0x7FC00001 = 0x7FC00000 ∧ h .rcp 0x4200 = 0x3555 ∧ h .rsq 0x4400 = 0x3800 ∧ h .exp 0x4C00 = 0x7C00 ∧ h .log 0xFC00 = 0x7E00 := by decide +kernel

/-- Conversions to and from floating types, in each mode; sums and maxima of floating lanes, scaled and clamped; what the relations of the
statement hold of (06_numbers R89, R91, R94). -/
theorem wit_VectorFunctionsAndReductionsIssue_floats :
    let m (clp sc mode : Nat) : Mods := ⟨0, 0, 0, 0, 0, 0, clp, sc, mode, 1⟩
    let cvt (t dc w mode x : Nat) := low w 1 (vCvt t dc (m 0 0 mode) 0 x)
    let ones (n : Nat) := vec 32 (List.replicate n 0x3F800000)
    (cvt 2 10 32 0 16777217 = [0x4B800000] ∧ cvt 2 10 32 3 16777217 = [0x4B800001] ∧ cvt 2 10 32 2 (2 ^ 32 - 16777217) = [0xCB800001]
      ∧ cvt 7 8 16 0 65520 = [0x7C00] ∧ cvt 7 8 16 1 65520 = [0x7BFF] ∧ cvt 10 8 16 0 0x7FC00001 = [0x7E00] ∧ cvt 10 0 8 0 0x7F800000 = [127]
      ∧ cvt 10 0 8 0 0xFF800000 = [0x80] ∧ cvt 10 7 64 0 0xFF800000 = [0] ∧ cvt 10 3 64 0 0x7FC00000 = [0] ∧ cvt 10 1 16 1 0xBFC00000 = [0xFFFF])
    ∧ (vSum 10 (m 0 1 0) 0 (ones 64) = 0x43000000 ∧ vSum 10 (m 2 0 0) 0 (ones 64) = 0x3F800000 ∧ vSum 8 (m 0 0 0) 0 0x7C00FC00 = 0x7E00
      ∧ vRmax 10 (m 0 0 0) (vec 32 (List.replicate 63 0x80000000 ++ [0])) = 0 ∧ vRmax 9 (m 0 0 0) (vec 16 [0x3F80, 0x7F81]) = 0x7FC0)
    ∧ (Rounds (floatFormat 10) 0 (-149) (.num false 5) 5 ∧ Rounds (floatFormat 10) 0 (-150) (.num true 3) 0x80000002
      ∧ Rounds (floatFormat 8) 1 0 (.num false 70000) 0x7BFF ∧ RoundsWhole 0 false 5 (-1) 2 ∧ RoundsWhole 3 false 5 (-1) 3
      ∧ Reduced 0 1 (signedMag true 128) 0x80 ∧ RoundsTo (floatFormat 10) 0 false (fun q => 2 ^ 299 < q * 2 ^ 150) (fun q => q * 2 ^ 150 < 2 ^ 299) 0x3F000000) := by
  refine ⟨?_, ?_, ?_⟩
  · decide +kernel
  · decide +kernel
  · refine ⟨?_, ?_, ?_, ?_, ?_, ?_, ?_⟩
    iterate 3 unfold Rounds; dsimp only; decide +kernel
    iterate 2 unfold RoundsWhole; decide +kernel
    · unfold Reduced; decide +kernel
    · unfold RoundsTo; decide +kernel

/-- The block of R96's example, its exponent byte 127 and mantissas 0, −2, 2 and 7; zeros; a mantissa that clamps; the exponent byte at 0; and an
Inf or a NaN at lane 31, and at lane 32, which is no part of the block. -/
theorem wit_VectorFunctionsAndReductionsIssue_block :
    let b (mb t : Nat) (l : List Nat) := toBlock mb (blockSource t Mods.none (vec (laneBits t) l))
    let fill (n x : Nat) := List.replicate n 0x3F800000 ++ [x]
    b 4 10 [0x3E99999A, 0xBFD9999A, 0x40200000, 0x40F33333] = some (0x7F + 256 * 0xE0 + 65536 * 0x72) ∧ b 8 10 [] = some 0
    ∧ b 8 10 (List.replicate 32 0x80000000) = some 0 ∧ b 2 10 [0x3FFFFFFF] = some (0x7F + 256 * 1) ∧ b 4 10 [0x00000001] = some 0
    ∧ b 4 9 [0x3F80] = some (0x7D + 256 * 4) ∧ b 4 10 (fill 31 0x7F800000) = none ∧ b 4 10 (fill 31 0xFFC00000) = none ∧ (b 4 10 (fill 32 0x7F800000)).isSome = true
    ∧ floatLane (floatFormat 10) 0x3F800000 0 0 = .num false (2 ^ (floatFormat 10).unit) := by decide +kernel

/-- The first and the last line, with steps of both signs. -/
theorem wit_LineLoadsAndStoresIssue :
    let l : List Instr := [ .vld gT 0 0 0, .vld gT 31 7 1023, .vldLong gT 1 0 1024 2048, .vldLong gT 1 0 2047 2047, .vst gT 31 0 0
      , .vstLong gT 1 7 1023 4095 ]
    let f := regs [(.ia 0, 2 ^ 20 - 1), (.ib 7, 2 ^ 20 - 1)]
    runs (at_ 2 f) l = true ∧ runs (at_ 3 f) l = true := by decide +kernel

/-- MGREQ's smallest and largest bounds; packs at the ends of their ranges. -/
theorem wit_PackingIssue : runs (at_ 4 id)
    [ .mgw gT 6, .mgw gT 63, .mgreq gT 1 1 1, .mgreq gT 15 15 2047, .mpack gT 7 3 4096 1 1 31 511 1024, .mpack gT 0 0 0 340 0 0 0 0
    , .mldb gT 0 0 0, .mldb gT 3 511 3, .mldbLong gT 3 511 0 4095 256 255 ] = true
    ∧ 0 < 2 ^ (1 - 1) * 2 ^ (1 - 1) * 1 := by decide +kernel

/-- Two mantissas of four bits, 1 and 2, at exponent 127, kept reversed at a stride of three; and a line that meets each check. -/
theorem wit_PackingIssue_operand :
    let z := packValue 9 4 2 0 3 true 0x217F
    let code (g m n start stride x : Nat) : Option (Nat × Nat) := (packFault g m n start stride x 0 0).map fun f => (f.code, f.detail)
    code 9 4 2 0 3 0x217F = none ∧ (z.image.toNat, z.exp.toInt, z.count, z.bound) = (2 + 2 ^ 27, 0, 2, 2)
    ∧ code 9 1 2 0 1 0x217F = some (0x42, 1) ∧ code 9 9 2 0 1 0x217F = some (0x42, 1) ∧ code 9 8 225 0 1 0x217F = some (0x42, 2)
    ∧ code 9 4 2 0 1 0x21FF = some (0x42, 3) ∧ code 63 4 2 31 1 0x217F = some (0x42, 4) ∧ code 63 4 2 30 1 0x217F = none
    ∧ ((code 6 8 1 0 1 0x207F).map (·.1)) = some 0x40 ∧ code 6 8 1 0 1 0x1F7F = none ∧ code 6 8 1 0 1 0xE07F = none
    ∧ (packValue 9 4 2 0 1 false 0x0050).exp.toInt = 0 ∧ mldbCount 9 4 = 227 := by decide +kernel

/-- A notice of 100 cycles; accumulators 0, 1 and −2^4223. -/
theorem wit_MultipliesIssue :
    let s := at_ 4 fun c => { c with
      notices := [(0, 924), (3, 924)]
      qregs := [(1, ⟨1, 0, 1⟩), (2, ⟨BitVec.ofInt 4224 (-(2 ^ 4223)), 0, 1⟩)] }
    let c := s.hereCore
    runs s [ .mmul gT 0 0 0, .mmul gT 3 7 511, .mmac gT 0 7 511, .mclr gT 3, .mneg gT 1, .mneg gT 2, .mshr gT 0 1, .mshr gT 1 511 ] = true
    ∧ (c.q 1).q.toInt ≠ -(2 ^ 4223) ∧ (c.q 2).q.toInt = -(2 ^ 4223) ∧ (c.q 0).q.toInt % 2 ^ (c.gw * 1) = 0
    ∧ (c.q 1).q.toInt % 2 ^ (c.gw * 511) ≠ 0 := by decide +kernel

/-- Accumulator 0 has zero fields; accumulator 1 has 2^40, which no i32 holds, and then zeros. -/
theorem wit_ExtractionIssue :
    let s := at_ 4 fun c => { regs [(.g, 63), (.im 3, 2 ^ 20 - 1)] c with qregs := [(1, ⟨2 ^ 40, 0, 1⟩)] }
    runs s [ .mext gT 0 0 0 67 0 0, .mext gT 1 3 0 1 0 8191, .mext gT 1 0 0 1 1 4096, .mcvt gT 1 3 0 67 4095, .mldq gT 3 3, .mldqLong gT 0 0 4096
           , .mstq gT 1 3, .mstqLong gT 3 0 4095 ] = true
    ∧ s.hereCore.gw = 63 ∧ (s.hereCore.q 0).q.toInt = 0 ∧ (s.hereCore.q 1).q.toInt = 2 ^ 40 ∧ ¬ (2 ^ 40 : Int) < 2 ^ 31 := by decide +kernel

/-- Their carries and coefficients. -/
theorem wit_ExtractionIssue_coefficients (q : Nat) (hq : q = 0 ∨ q = 2 ^ 40) :
    let v : Nat → Int := fun f => if f = 0 then (q : Int) else 0
    v 0 = q ∧ ∀ f, v f = (BitVec.ofInt 63 (v f)).toInt ∧ v f = v f + 2 ^ 63 * v (f + 1) := by
  refine ⟨rfl, fun f => ?_⟩
  rcases hq with rfl | rfl <;> cases f with
  | zero => decide
  | succ n => simp

theorem wit_CopiesAndRecordsIssue :
    runs (at_ 5 id) [ .cpy gT 64 63 0 512 0, .cpy gT 0 0 4095 512 9, .cpyx gT 0 16 15 4095 0 0, .rld gT 15 4095 7, .rld gT 0 0 0, .rset gT 15 0 0 ] = true
    ∧ runs (at_ 6 id) [ .cpy gT 0 0 0 512 1, .cpyx gT 0 0 0 0 0 9, .rld gT 0 4095 7, .rset gT 0 8 7 ] = true := by decide +kernel

/-- An op executes and answers the state that `f` makes of its core, as `Changes` says. -/
def changes (s : State) (i : Instr) (f : Core → Core) : Bool :=
  executes s gT i && decide (after (exec i s) = s.issued i id f) && goesOn (exec i s)

/-- An instruction answers a given state. -/
def answers (i : Instr) (s t : State) : Bool := goesOn (exec i s) && decide (after (exec i s) = t)

/-- The partition of `lone`, changed. -/
def alone (g : Part → Part) (f : Core → Core) : Part := g (lone f)

theorem wit_TransfersOfControl :
    let a := at_ 0 fun c => { c with cur := 100, next := 102, rstack := [7, 8], store := [(102, 0x81), (103, 0x80000000), (105, 0)] }
    let on := base 0 (alone (fun p => { p with clampOn := true }) fun c => { c with next := 5 })
    let rec_ := at_ 0 fun c => { c with cur := 3, next := 5, clamp := some ⟨9, 1, 2, 3, 4⟩ }
    let j := at_ 0 fun c => { c with pending := some (40, 0) }
    changes a (.br gT 0x7FFFF) (fun u => { u with pending := some (99, 2) })
    ∧ changes a (.call gT 0x3FFFF) (fun u => { u with pending := some (100 + 0x3FFFF, 2), rstack := [106, 7, 8] })
    ∧ changes a (.ret gT) (fun u => { u with pending := some (7, 2), rstack := [8] })
    ∧ answers (.transferTakesEffect 0 0) j (j.onCore 0 0 fun u => { u with next := 40, pending := none })
    ∧ changes on (.yieldOp gT) (fun u => { u with leaving := some .parked, parkAt := 5 })
    ∧ changes rec_ (.yieldOp gT) (fun u => { u with leaving := some .parked, parkAt := 5 })
    ∧ changes a (.yieldOp gT) id ∧ changes a (.endOp gT) (fun u => { u with leaving := some .ended })
    ∧ changes rec_ (.endOp gT) (fun u => { u with leaving := some .parked, parkAt := 3 }) := by decide +kernel

/-- KN 4 and KI 1: with two stages the bound is 2 and the loop is entered, with four it is skipped. -/
theorem wit_LoopsEnteredAndRepeated :
    let f : Core → Core := fun c => { regs [(.k 1, 4), (.k 2, 1)] c with cur := 10, next := 12, store := [(12, 0), (13, 0)] }
    let s := at_ 0 f
    let on := base 0 (alone (fun p => { p with clampOn := true }) f)
    let l (cl : Bool) (stages : Nat) : Loop := ⟨12, 14, 2, stages, 1, 2, cl, 9, 2⟩
    let e (cl : Bool) (stages : Nat) := base 0 (alone (fun p => { p with clampOn := cl }) fun c => { f c with loop := some (l cl stages) })
    let bump (w : Core) : Core := w.sched ⟨1025, 1024, 7, 10, .reg (.k 2) 2⟩
    changes s (.loop gT 1 2 2 2 0 0) (fun w => { w with loop := some ⟨12, 14, 2, 2, 1, 2, false, 10, 0⟩ })
    ∧ changes s (.loop gT 1 2 2 4 1 0x7FFFFFFF) (fun w => { w with next := 14 })
    ∧ changes on (.loop gT 1 2 2 4 1 0x7FFFFFFF) (fun w => { w with next := 14 })
    ∧ changes on (.loop gT 1 2 2 2 1 0x7FFFFFFF)
        (fun w => { w.put (.k 1) 2 with clamp := some ⟨9, 2, 4, 2, 1⟩, next := 14 })
    ∧ answers (.loopPassEnd 0 0) (e false 2) ((e false 2).onCore 0 0 fun w => { bump w with next := 12, loop := some { l false 2 with done := 0 } })
    ∧ answers (.loopPassEnd 0 0) (e false 3) ((e false 3).onCore 0 0 fun w => { bump w with next := 14, loop := none })
    ∧ answers (.loopPassEnd 0 0) (e true 2) ((e true 2).onCore 0 0 fun w =>
        { (bump w).sched ⟨1025, 1024, 7, 10, .reg (.k 1) 3⟩ with clamp := some ⟨9, 3, 4, 2, 1⟩, next := 14, loop := none }) := by
  decide +kernel

/-- A core with a record: a LOOP.cl parks, a LOOP goes on. A pass that has not ended, and no loop; k[KI] or k[KN] with an uncorrectable error. -/
theorem wit_LoopsEnteredAndRepeated_more :
    let f : Core → Core := fun c => { regs [(.k 1, 4), (.k 2, 1)] c with cur := 10, next := 12, store := [(12, 0), (13, 0)] }
    let rec_ := at_ 0 fun c => { f c with clamp := some ⟨9, 2, 4, 2, 1⟩ }
    let e (done : Nat) (bad : List (Nat × Nat)) := at_ 0 fun c => { f c with loop := some ⟨12, 14, 2, 2, 1, 2, false, 9, done⟩, bad := bad }
    let ends (r : Nat) (s : State) : Bool := answers (.loopPassEnd 0 0) s (s.onCore 0 0 fun w => { w.sched ⟨1025, 1024, 0, 10, .readError 4 r⟩ with loop := none })
    changes rec_ (.loop gT 1 2 2 2 1 0x7FFFFFFF) (fun w => { w with leaving := some .parked, parkAt := 10 })
    ∧ changes rec_ (.loop gT 1 2 2 2 0 0) (fun w => { w with loop := some ⟨12, 14, 2, 2, 1, 2, false, 10, 0⟩ })
    ∧ answers (.loopPassEnd 0 0) (e 1 []) (e 1 []) ∧ answers (.loopPassEnd 0 0) (at_ 0 f) (at_ 0 f)
    ∧ ends 2 (e 2 [(4, 66)]) ∧ ends 1 (e 2 [(4, 65)]) := by
  decide +kernel

/-- A BRK and a header's BRK bit, armed and not. -/
theorem wit_DebugBreaksStop :
    let d (h : Word) := alone (fun p => { p with debug := true, features := 32, breakMask := BitVec.allOnes 64 }) fun c => { c with store := [(9, h)], cur := 5, next := 9 }
    let s := base 0 (d 0x4000)
    let rec_ (slot : Nat) : FRec := ⟨0x72, 0, slot, 0, false, 9, 1024, 1024, 0⟩
    brkArmed s.here s.hereCore 3 = true ∧ executes s gT (.brk gT 3) = true
    ∧ (after (exec (.brk gT 3) s)).here.stops = [.fault] ∧ (after (exec (.brk gT 3) s)).here.frec = rec_ 0
    ∧ (after (exec (.brk gT 3) s)).hereCore.broke = true
    ∧ brkArmed (at_ 0 id).here (at_ 0 id).hereCore 3 = false ∧ changes (at_ 0 id) (.brk gT 3) id
    ∧ headerBreaks s.here s.hereCore = true ∧ (after (exec (.headerBreak 0 0) s)).here.frec = rec_ 7
    ∧ headerBreaks (at_ 0 id).here (at_ 0 id).hereCore = false ∧ answers (.headerBreak 0 0) (at_ 0 id) (at_ 0 id) := by decide +kernel

/-- A k register with an uncorrectable error, read by an enabled BRK, and not by one that is not. -/
theorem wit_DebugBreaksStop_error :
    let s (n : Nat) := base 0 (alone (fun p => { p with debug := true, features := n }) fun c => { c with bad := [(4, 67)] })
    executes (s 0) gT (.brk gT 3) = true ∧ changes (s 0) (.brk gT 3) id ∧ (s 32).here.features / 2 ^ 5 % 2 = 1 ∧ (4, 67) ∈ (s 32).hereCore.bad
    ∧ passes (s 32) gT (.brk gT 3) = true ∧ (after (exec (.brk gT 3) (s 32))).hereCore.pend = [⟨1025, 1024, 0, 0, .readError 4 3⟩] := by
  decide +kernel

/-- The plan of a bundle with BRK under p5: it breaks where p5 is true and sound; where p5 holds an uncorrectable error it does not, and the
bundle issues with the read error in flight (16_faults R241). -/
theorem wit_DebugBreaksStop_predicate :
    let p (v : Nat) (bad : List (Nat × Nat)) : Part := alone (fun p => { p with debug := true, features := 32, breakMask := BitVec.allOnes 64 })
      fun c => { regs [(.p 5, v)] c with store := [(0, 1), (1, 0x04518000)], limit := 2, bad := bad }
    let brk (p : Part) := (planOf p 0).breakOp p
    let bad := p 1 [(4, 64 * 12 + 5)]
    let t := after (step (base 0 bad))
    brk (p 1 []) = some (.brk ⟨5, 0⟩ 3) ∧ brk (p 0 []) = none ∧ brk bad = none ∧ breaksOf bad 0 [planOf bad 0] [] = [] ∧ t.here.stops = []
    ∧ ((t.core 0 0).pend.map fun e => (e.due, e.eff)) = [(1025, .readError 4 5)] := by decide +kernel

/-- d0 OFF, d1 RETAINED, d2 ON, d3 WAKING; two wakes of one half each at PT 1020 leave no room before their windows end. -/
theorem wit_WakesAndSleeps :
    let s := at_ 0 fun c => { c with domains := [(1, .retained), (2, .on), (3, .waking 1024 false), (9, .waking 1024 true), (10, .on)] }
    let t := at_ 0 fun c => { c with domains := [(0, .waking 1024 false), (2, .on)], vregs := [(3, 1)], sregs := [(1, 5)] }
    let woken (n : Nat) (d : Nat) (ret : Bool) (u : Core) : Core := { u with
      domains := tput u.domains d (.waking (n + wakeLatency d ret) ret), wakes := u.wakes ++ [(n, wakeWeight d, d)]
      pend := u.pend ++ [⟨n, 1024, 0, 0, .wakeStart d⟩] }
    let delivers (i : Instr) (es : List (Nat × Eff)) : Bool := executes s gT i && decide (after (exec i s) = s.inFlight i id es)
    changes s (.wake gT 0 0) (woken 1024 0 false) ∧ changes s (.wake gT 1 0) (woken 1024 1 true)
    ∧ changes s (.wake gT 2 0) id ∧ changes s (.wake gT 3 0) id ∧ delivers (.sleep gT 0 0) [] ∧ delivers (.sleep gT 0 1) []
    ∧ delivers (.sleep gT 2 0) [(1, .dom 2 .retained)] ∧ delivers (.sleep gT 2 1) [(1, .dom 2 .off)]
    ∧ delivers (.sleep gT 3 0) [(1, .dom 3 .off)] ∧ delivers (.sleep gT 9 0) [(1, .dom 9 .retained)] ∧ delivers (.sleep gT 9 1) [(1, .dom 9 .off)]
    ∧ delivers (.sleep gT 1 0) [] ∧ delivers (.sleep gT 1 1) [(1, .dom 1 .off)]
    ∧ (t.core 0 0).dom 0 = .waking 1024 false ∧ ((after (exec (.domainReady 0 0 0) t)).core 0 0).dom 0 = .on
    ∧ ((after (exec (.domainReady 0 0 0) t)).core 0 0).v 3 = 0 ∧ ((after (exec (.domainReady 0 0 0) t)).core 0 0).s 1 = 5
    ∧ ((after (exec (.domainReady 0 0 0) t)).core 0 0).dom 2 = .on ∧ goesOn (exec (.wakeStart 0 0 0) t) = true := by decide +kernel

/-- A WAKE's start, where starts of the last 32 cycles leave room for it: a quarter of a core's lanes weighs two and another domain one. Each kind of
domain takes its time to be ready, from RETAINED and from OFF (12_power R182, R183). -/
theorem wit_WakesAndSleeps_windows :
    let start (d : Nat) (l : List (Nat × Nat × Nat)) := ((after (exec (.wake gT d 0) (at_ 0 fun c => { c with domains := [], wakes := l }))).hereCore.wakes.drop l.length)
    let takes (ret : Bool) := [0, 1, 2, 5, 6, 7, 8, 23, 24, 27, 28].map fun d => match (after (exec (.wake gT d 0) (at_ 0 fun c => { c with domains := if ret then [(d, .retained)] else [] }))).hereCore.dom d with
      | .waking r _ => r - 1024
      | _ => 0
    start 0 [(993, 1, 3), (993, 1, 4)] = [(1025, 1, 0)] ∧ start 0 [(992, 1, 3), (992, 1, 4)] = [(1024, 1, 0)] ∧ start 0 [(993, 1, 3)] = [(1024, 1, 0)]
    ∧ start 2 [(993, 1, 3)] = [(1025, 2, 2)] ∧ start 5 [] = [(1024, 2, 5)] ∧ start 6 [(1024, 2, 2)] = [(1056, 1, 6)] ∧ start 6 [(1030, 1, 0)] = [(1030, 1, 6)]
    ∧ takes true = [6, 6, 12, 12, 4, 4, 8, 8, 10, 10, 4] ∧ takes false = [24, 24, 96, 96, 16, 16, 48, 48, 64, 64, 20] := by decide +kernel

/-- A core with something in every domain. -/
def filled (c : Core) : Core :=
  { c with vregs := [(3, 5)], wregs := [(3, 5)], qregs := [(1, ⟨1, 0, 1⟩)], xregs := [(3, 5)], yregs := [(3, 5)], scratch := [(131072, 7)]
           bstore := [(517, ⟨5, 1, 2, 3⟩)], zregs := [(2, ⟨5, 1, 2, 3⟩)], bad := [(0, 512), (0, 768)] }

/-- What `filled` left in a domain is gone. -/
def emptied (d : Nat) (c : Core) : Bool :=
  match d with
  | 0 => decide (c.v 3 = 0)
  | 1 => decide (c.w 3 = 0)
  | 3 => decide (c.q 1 = Acc.zero ∧ c.laneIdle 1 1024 = true)
  | 6 => decide (c.x 3 = 0)
  | 7 => decide (c.y 3 = 0)
  | 10 => decide (memGet c.scratch 131072 = 0 ∧ c.bad = [(0, 768)])
  | 25 => decide (c.entryOf 1 5 = Packed.zero)
  | 28 => decide (c.z 2 = Packed.zero)
  | _ => false

/-- Every kind of domain woken from OFF, and from RETAINED; a wake's start drops the starts whose windows have passed. -/
theorem wit_WakesAndSleeps_contents :
    let ready (d : Nat) (fr : Bool) := (after (exec (.domainReady 0 0 d) (at_ 0 fun c => { filled c with domains := [(d, .waking 1024 fr)] }))).core 0 0
    let w (l : List Pend) := (after (exec (.wakeStart 0 0 0) (at_ 0 fun c => { c with wakes := [(992, 1, 3), (993, 1, 4)], pend := l }))).core 0 0
    ([0, 1, 3, 6, 7, 10, 25, 28].all fun d => emptied d (ready d false) && !emptied d (ready d true)) = true
    ∧ (w [⟨1024, 1024, 0, 0, .wakeStart 0⟩]).wakes = [(993, 1, 4)] ∧ (w []).wakes = [(992, 1, 3), (993, 1, 4)] := by decide +kernel

theorem wit_LeaveNoticesAndTheirLapse :
    let s := base 0 (alone (fun p => { p with leaves := [(1000, 2), (900, 4)] }) fun c => { c with notices := [(1, 1024 - 1000)] })
    let late := base 0 (alone (fun p => { p with pt := 5000 }) fun c => { c with notices := [(1, 5000 - 4096), (2, 5000 - 4097)] })
    let t := after (exec (.leave gT 5) s)
    executes s gT (.leave gT 5) = true ∧ t.hereCore.notices = [(1, 24), (0, 1024), (2, 1024)] ∧ s.here.announced 1024 = 2
    ∧ t.here.announced 1024 = 4 ∧ (executes s gT (.leave gT 7)) = false
    ∧ ((after (exec (.noticeLapse 0 0) late)).core 0 0).notices = [(1, 904)] := by decide +kernel

/-- A LEAVE in a partition of several devices, which tells them; and one reported by another device, of 64 cycles ago and of 63 (11_products R178). -/
theorem wit_LeaveNoticesAndTheirLapse_devices :
    let s := base 0 (alone (fun p => { p with cls := 1, coreTable := [(0, 0)], mates := [(2, 4, 1, 1)] }) id)
    (after (exec (.leave gT 5) s)).outbox = [.leave 0 0 1024 2] ∧ (s.here.announce 960 7).announced 1024 = 0 ∧ (s.here.announce 961 7).announced 1024 = 7
    ∧ ((after (exec (.leave gT 5) s)).here.announce 961 7).announced 1024 = 9 := by decide +kernel

/-- Reports of lanes left at later PTs count in the windows that hold them: 8 lanes of the past and 9 of PT 1088 stand in no one window of 64
cycles, and those of PT 1087 in the window that ends there. -/
theorem wit_LeaveNoticesAndTheirLapse_windows :
    let p (n : Nat) := (((at_ 0 id).here.announce 961 8).announce n 9)
    (p 1088).leftIn 1024 = 8 ∧ (p 1088).leftIn 1025 = 0 ∧ (p 1088).leftIn 1088 = 9 ∧ (p 1087).leftIn 1024 = 8 ∧ (p 1024).leftIn 1024 = 17
    ∧ (p 1087).leftIn 1087 = 9 ∧ (p 1088).leftIn 1151 = 9 ∧ (p 1088).leftIn 1152 = 0 := by decide +kernel

/-- Addresses past the last channel of the task, without a page, and in a page that a cache holds. -/
theorem wit_TranslationIssueAndResult :
    let pg : Page := ⟨0x40, 1, 0, true, false, true, 0x1C0⟩
    let s := { at_ 0 (regs [(.k 1, 2 ^ 39), (.k 2, 2 ^ 39 - 1), (.k 3, 0x403000)]) with towerTlb := [(0, [(0, pg)])] }
    let small := base 0 (alone (fun p => { p with task := p.task.map fun t => { t with vchannels := 1 } }) (regs [(.k 2, 2 ^ 32)]))
    let sends (s : State) (k a : Nat) (h : Handle) (f : Core → Core) : Bool :=
      changes s (.xlt gT 5 k) fun w => (f w).issue 1024 0 [(40, .xlt 5 a h)]
    let h : Handle := ⟨.valid, true, false, 1, 0, 0, 0x40, 0x1C0⟩
    let e : Pend := ⟨1024, 984, 0, 0, .xlt 5 0x403000 h⟩
    let r := at_ 0 fun c => { c with pend := [e] }
    sends s 1 (2 ^ 39) Handle.invalid id ∧ sends small 2 (2 ^ 32) Handle.invalid id
    ∧ translate s 0 0 ((2 ^ 39 - 1) / 65536) = none ∧ sends s 2 (2 ^ 39 - 1) ⟨.miss, false, false, 0, 0, 127, 65535, 0⟩ id
    ∧ translate s 0 0 0x40 = some pg ∧ sends s 3 0x403000 h (fun w => w.install pg)
    ∧ firstPend ((r.core 0 0).dueOf 1024 Eff.isXlt) = some e ∧ ((after (exec (.xltResult 0 0) r)).core 0 0).h 5 = h
    ∧ ((after (exec (.xltResult 0 0) r)).core 0 0).h 4 = Handle.invalid ∧ ((after (exec (.xltResult 0 0) r)).core 0 0).pend = [] := by
  decide +kernel

/-- A page found in each of the three stages, in their order, and one that the tower caches hold for another partition (10_translation R148, R149). -/
theorem wit_TranslationIssueAndResult_stages :
    let pg (row : Nat) : Page := ⟨0x40, 1, 0, true, false, true, row⟩
    let s (own ring : List Page) (tower : List (Nat × Page)) := { base 0 (alone (fun p => { p.onCore 1 (fun c => { c with tlb := ring }) with
      coreTable := [(0, 0), (1, 1)] }) fun c => { c with tlb := own }) with towerTlb := [(0, tower)] }
    translate (s [pg 1] [pg 2] [(0, pg 3)]) 0 0 0x7F = some (pg 1) ∧ translate (s [] [pg 2] [(0, pg 3)]) 0 0 0x40 = some (pg 2)
    ∧ translate (s [] [] [(0, pg 3)]) 0 0 0x40 = some (pg 3) ∧ translate (s [] [] [(1, pg 3)]) 0 0 0x40 = none
    ∧ translate (s [pg 1] [pg 2] [(0, pg 3)]) 0 0 0x80 = none ∧ translate (s [pg 1] [] []) 0 0 0x3F = none := by decide +kernel

/-- Queue 63 is the partition's own; queue 39 stands in its tenant's table; queues 0 and 40 do not. -/
theorem wit_FencesAndLaunchesIssue :
    let s := { at_ 0 (regs [(.k 1, 63), (.k 2, 39), (.k 3, 40)]) with tenants := [(0, ⟨1, [(39, 7)]⟩)] }
    changes s (.fence gT 3 2) (fun u => { u with fences := u.fences ++ [(0, 2, 3)] })
    ∧ executes s gT (.launch gT 1 0) = true ∧ launchQueue s 0 63 = some 0 ∧ executes s gT (.launch gT 2 0) = true ∧ launchQueue s 0 39 = some 7
    ∧ launchQueue s 0 40 = none ∧ goesOn (exec (.launch gT 2 0) s) = true := by decide

/-- A VALID handle whose page starts at row 0x1C0; a bank that is open, one that is IDLE. -/
theorem wit_DramCommandsIssue :
    let h : Handle := ⟨.valid, true, true, 1, 0, 0, 0x40, 0x1C0⟩
    let f : Core → Core := fun c => { c with hregs := [(1, h)] }
    let open_ : Bank := ⟨.active 0x1C3 true, some 900, none, none, some 800⟩
    let p := alone (fun p => { p with pt := 1000, banks := [(3, open_), (4, open_)], service := [(0, 0x8000)] }) f
    let s := { base 5 p with dram := [(3 * 2 ^ 28 + 0x1C3 * 2 ^ 12 + 512, 7)] }
    let act := after (exec (.dact gT 0 5 1 63) s)
    let rd := after (exec (.drd gT 0 3 2 40 1) s)
    let wr := after (exec (.dwr gT 0 3 15 4095 63) s)
    let pre := after (exec (.dpre gT 0 0 1) s)
    let ref := after (exec (.dref gT 0 5) s)
    executes s gT (.dact gT 0 5 1 63) = true ∧ (act.here.bank 0 5).st = .active (0x1C0 + 63) true ∧ (act.here.bank 0 5).act = some 1000
    ∧ (act.here.chan 0).last = some (1000, 0) ∧ act.hereCore.pend = []
    ∧ executes s gT (.drd gT 0 3 2 40 1) = true ∧ rd.hereCore.pend = [⟨1040, 1000, 5, 0, .drd 40 7 none⟩]
    ∧ executes s gT (.dwr gT 0 3 15 4095 63) = true
    ∧ wr.hereCore.pend = [⟨1002, 1000, 5, 0, .dwrRead 4095 (3 * 2 ^ 28 + 0x1C3 * 2 ^ 12 + 15 * 256)⟩] ∧ (wr.here.bank 0 3).wr = some 1000
    ∧ executes s gT (.dpre gT 0 3 0) = true ∧ executes s gT (.dpre gT 0 0 1) = true ∧ (pre.here.bank 0 3).st = .idle ∧ (pre.here.bank 0 4).pre = some 1000
    ∧ executes s gT (.dref gT 0 5) = true ∧ (ref.here.bank 0 5).st = .refreshing 1108 := by decide +kernel

/-- A buffer record of i8 elements: base, extent, count of the inner pattern, check, space; consecutive elements. -/
def rec_ (base extent n check space : Nat) : Rec :=
  BitVec.ofNat 256 (base + extent * 2 ^ 64 + 2 ^ 96 + n * 2 ^ 160 + 2 ^ 176 + check * 2 ^ 200 + space * 2 ^ 204)

/-- Records over the scratchpad and over T2; a start PT at its limit, and one cycle below it. -/
theorem wit_EngineCommandsAccepted :
    let f : Core → Core := fun c =>
      { c with xregs := [(1, rec_ 256 512 300 2 0), (2, rec_ 0x10000 512 300 2 3)], yregs := [(1, rec_ 8 8 8 0 3), (2, rec_ 0 8 8 0 0)] }
    let s := at_ 5 f
    let y := at_ 6 f
    let one (t : State) : Option Cmd := t.hereCore.cmds.head?
    let enq := after (exec (.enq gT 1 2 1 0 1 0 1032) s)
    let mem := after (exec (.enq gT 2 1 1 1 0 0 1032) s)
    let late := after (exec (.enq gT 1 2 1 0 0 0 1031) s)
    let aop := after (exec (.aop gT 2 0 1 3 1 1 4095 0 128) s)
    let fput := after (exec (.fput gT 1 2 2 1 4095) s)
    runs s [.enq gT 1 2 1 0 1 0 1032, .enq gT 2 1 1 1 0 0 1032, .enq gT 1 2 1 0 0 0 1031, .aop gT 2 0 1 3 1 1 4095 0 128, .fput gT 1 2 2 1 4095] = true
    ∧ runs y [.enq gT 2 1 1 0 1 3 2000, .aop gT 1 6 0 1 0 0 0 4095 127, .fput gT 2 1 1 0 0] = true
    ∧ (let b := at_ 5 fun c => { f c with pend := [⟨1032, 1020, 5, 0, .enqRead 7 1 0⟩] }
       let t := after (exec (.enq gT 1 2 1 0 1 0 1032) b)
       t.hereCore.cmds = [] ∧ t.hereCore.pend = b.hereCore.pend ++ [⟨1032, 1024, 5, 0, .enqFault 0 1⟩])
    ∧ (one enq).map (·.pieces) = some (piecesOf 0 (rec_ 256 512 300 2 0) (rec_ 0x10000 512 300 2 3)) ∧ (one enq).map (·.phase) = some [0, 1]
    ∧ enq.hereCore.pend = [⟨1032, 1024, 5, 0, .enqRead 0 1 0⟩, ⟨1033, 1024, 5, 0, .enqRead 0 2 1⟩] ∧ enq.hereCore.cmdCount = 1
    ∧ (one mem).map (·.phase) = some [] ∧ (one mem).map (·.acq) = some true ∧ mem.hereCore.pend = []
    ∧ late.hereCore.cmds = [] ∧ late.hereCore.pend = [⟨1032, 1024, 5, 0, .enqFault 0 0⟩]
    ∧ (one aop).map (·.flagl) = some 3968 ∧ aop.hereCore.pend = [⟨1025, 1024, 5, 0, .aopRead 0 4095 1⟩]
    ∧ (one fput).map (·.rel) = some true ∧ (one fput).map (·.flagl) = some 4095 ∧ fput.hereCore.pend = [] := by decide +kernel

/-- Two lines through a port that is free, and through one whose last landing is later. -/
theorem wit_FabricSendIssue :
    let dev (l : Table Nat) := base 5 (alone (fun p => { p with
      cls := 1, coreTable := [(0, 0)], portMask := [3], portLand := l, task := p.task.map fun t => { t with cores := 4 } })
      fun c => { c with xregs := [(6, BitVec.ofNat 256 (3 * 2 ^ 20 + 256 * 4095))] })
    let t (l : Table Nat) := after (exec (.fsend gT 6 4095 1 3) (dev l))
    let e (k line dst land : Nat) : Pend := ⟨1025 + k, 1024, 5, 0, .fsendRead 3 3 line dst land⟩
    executes (dev []) gT (.fsend gT 6 4095 1 3) = true ∧ (dev []).here.delay = 600
    ∧ (t []).hereCore.pend = [e 0 4095 4095 1624, e 1 0 0 1626] ∧ tfind (t []).here.portLand 3 = some 1626
    ∧ executes (dev [(3, 1623)]) gT (.fsend gT 6 4095 1 3) = true
    ∧ (t [(3, 1623)]).hereCore.pend = [e 0 4095 4095 1625, e 1 0 0 1627] ∧ tfind (t [(3, 1623)]).here.portLand 3 = some 1627 := by decide +kernel

/-- A task of two cores; barrier 1 of its own, barrier 2 with a remote member. -/
def two (g : Part → Part) : Part :=
  g (alone (fun p => { p with remotes := [(2, 7)], task := p.task.map fun t => { t with cores := 2 } }) id)

theorem wit_BarrierArrivalsAndWaits :
    let s := base 0 (two id)
    let k (w : List Wait) (a : List Nat) : Barrier := ⟨a, [(1, 1024)], w, [], 5, [], 0⟩
    let j (w : List Wait) (a : List Nat) (b : Nat) := base 0 (two fun p => { p with stops := [.barrier], barriers := [(b, k w a)] })
    let w : Wait := ⟨0, 1000, 9, 0⟩
    let t (b : Nat) (i : Instr) := (after (exec i s)).here.barrier b
    executes s gT (.bara gT 1) = true ∧ (t 1 (.bara gT 1)).arrived = [0] ∧ s.here.remoteBarrier 1 = false
    ∧ executes s gT (.bara gT 2) = true ∧ s.here.remoteBarrier 2 = true ∧ (t 2 (.bara gT 2)).arrived = [] ∧ (t 2 (.bara gT 2)).inFlight = [(0, 64)]
    ∧ (after (exec (.bara gT 2) s)).outbox = [.arrival 0 2 0]
    ∧ executes s gT (.barw gT 1) = true ∧ (t 1 (.barw gT 1)).waits = [⟨0, 1024, 0, 0⟩]
    ∧ executes s gT (.barwTimeout gT 15 (2 ^ 32 - 1)) = true ∧ (t 15 (.barwTimeout gT 15 7)).waits = [⟨0, 1024, 0, 7168⟩]
    ∧ ((after (exec (.barrierArrival 0 1 1) (j [] [0] 1))).here.barrier 1) = ⟨[0, 1], [], [], [], 5, [], 0⟩
    ∧ (519 ∈ (two id).barrierMembers 2) ∧ ((after (exec (.barrierArrival 0 2 1) (j [w] [0] 2))).here.barrier 2) = ⟨[0, 1], [], [w], [], 5, [], 0⟩
    ∧ (∀ x ∈ (two id).barrierMembers 1, x = 1 ∨ x ∈ [0]) ∧ ((after (exec (.barrierArrival 0 1 1) (j [w] [0] 1))).here.barrier 1) = ⟨[], [], [], [], 0, [], 1⟩
    ∧ (after (exec (.barrierArrival 0 1 1) (j [w] [0] 1))).here.stops = [.waitOver 1] := by decide +kernel

/-- A second arrival, counted or on its way, changes nothing; an arrival at a switched-out partition counts and completes nothing. -/
theorem wit_BarrierArrivalsAndWaits_again :
    let s := base 0 (two fun p => { p with barriers := [(1, ⟨[0], [], [], [], 0, [], 0⟩), (2, ⟨[], [(0, 64)], [], [], 0, [], 0⟩)] })
    let away := base 0 (two fun p => { p with resid := .switchedOut, stops := [.barrier], barriers := [(1, ⟨[0], [], [⟨0, 1000, 9, 0⟩], [], 5, [], 0⟩)] })
    let t (b : Nat) := after (exec (.bara gT b) s)
    let u := after (exec (.barrierArrival 0 1 1) away)
    executes s gT (.bara gT 1) = true ∧ (t 1).here.barrier 1 = s.here.barrier 1 ∧ (t 2).here.barrier 2 = s.here.barrier 2 ∧ (t 2).outbox = []
    ∧ away.here.isBound = false ∧ (u.here.barrier 1).arrived = [0, 1] ∧ (u.here.barrier 1).waits = [⟨0, 1000, 9, 0⟩] ∧ u.here.stops = [.barrier] := by
  decide +kernel

/-- The phase moves when the barrier completes, once at a PT, and 127 is followed by 0; a barrier that only another device waits at puts the move
in flight when it completes; over two devices the wait is told, with its generation and the next PT. The other device waits at this PT, waits at
another, or has told of no wait. -/
theorem wit_BarrierArrivalsAndWaits_phase :
    let w : Wait := ⟨0, 1000, 9, 0⟩
    let s (waits : List Wait) (abroad : Table Nat) (g : Part → Part) := base 0 (two fun p => g { (p.onCore 0 fun c => { c with shadow := [(9, 1, 5)] }) with
      stops := if waits.isEmpty then [] else [.barrier], phase := 5, barriers := [(1, ⟨[0], [], waits, abroad, 5, [], 3⟩)]
      task := p.task.map fun t => { t with snare := true, cores := 2 } })
    let pair (peers : List (Nat × Nat)) : Part → Part := fun p => { p with cls := 1, coreTable := [(0, 0)], mates := [(9, 4, 1, 1)], peers := peers }
    let e (x : Eff) : Pend := ⟨1025, 1024, 0, 0, x⟩
    let t (s : State) := after (exec (.barrierArrival 0 1 1) s)
    let ends (abroad : Table Nat) (peers : List (Nat × Nat)) (st : List Stop) := let u := t (s [w] abroad fun p => { pair peers p with stops := st }); (u.here.stops, u.here.excused, u.outbox)
    let phase (n : Nat) (moved : Option Nat) := let u := t (s [w] [] fun p => { p with phase := n, phasedAt := moved }); (u.here.phase, (u.core 0 0).shadow)
    ((s [w] [] id).here.settleBarriers = (s [w] [] id).here ∧ (t (s [w] [] id)).here.phase = 6 ∧ ((t (s [w] [] id)).core 0 0).pend = []
      ∧ ((t (s [w] [] id)).here.barrier 1).gen = 4)
    ∧ (phase 126 none = (127, [(9, 1, 5)]) ∧ phase 127 none = (0, []) ∧ phase 127 (some 1024) = (127, [(9, 1, 5)]) ∧ phase 127 (some 1023) = (0, []))
    ∧ (((s [] [(9, 1024)] id).here.barrier 1).abroad ≠ [] ∧ ((t (s [] [(9, 1024)] id)).core 0 0).pend = [e .phase] ∧ (t (s [] [(9, 1024)] id)).here.stops = []
      ∧ ((t (s [] [(9, 1024)] id)).here.barrier 1).arrived = [] ∧ (t (s [] [(9, 1024)] id)).here.phase = 5)
    ∧ ((after (exec (.barw gT 1) (s [] [] (pair [(9, 0)])))).outbox = [.barrierWait 0 1 0 3 1025]
    ∧ ends [(9, 1024)] [] [.barrier] = ([.waitOver 1], [(9, 1024)], []) ∧ ends [(9, 1024)] [(9, 1024)] [.barrier] = ([.waitOver 1], [], [])
    ∧ ends [(9, 1023)] [] [.barrier] = ([.waitOver 1, .align], [], []) ∧ ends [(9, 1025)] [] [] = ([.waitOver 1, .align], [], [.stopNotice 0 1024])
    ∧ ends [] [] [.barrier] = ([.waitOver 1, .align], [], []) ∧ ends [(9, 1024)] [] [.barrier, .fail] = ([.fail], [], [.stopNotice 0 1024])
    ∧ ends [(9, 1025)] [] [.barrier, .fail] = ([.fail], [], [])) := by
  refine ⟨?_, ?_, ?_, ?_, ?_, ?_, ?_, ?_, ?_, ?_, ?_⟩ <;> decide +kernel

/-- Every arrival counted when the cycle of the BARW ends: the barrier completes and nothing stops; the stop before the bundles of the next PT;
and a device that fails beside its wait. -/
theorem wit_BarrierArrivalsAndWaits_cycle :
    let w : Wait := ⟨0, 1000, 9, 0⟩
    let s (arrived : List Nat) (g : Part → Part) := base 0 (two fun p => g { p with barriers := [(1, ⟨arrived, [], [w], [], 5, [], 3⟩)] })
    let q (arrived : List Nat) := (s arrived id).here.settleBarriers
    let lim := s [0] fun p => { p with stage := .limits 6 }
    let u := match cycleMove lim 0 with
      | .quiet t => t.here.stops
      | _ => []
    let own := after (exec (.barrierArrival 0 1 1) (s [0] fun p => { p with stops := [.barrier, .fail] }))
    ((q [0, 1]).barrier 1 = ⟨[], [], [], [], 0, [], 4⟩ ∧ ((q [0, 1]).core 0).pend = [⟨1025, 1024, 0, 0, .phase⟩] ∧ (q [0, 1]).stops = [])
    ∧ ((q [0]).barrier 1).waits = [w] ∧ q [0] = (s [0] id).here ∧ (two id).settleBarriers = two id
    ∧ (two id).waiting = false ∧ limitMove (base 0 (two id)) 0 6 = none ∧ u = [.barrier]
    ∧ own.here.stops = [.fail] := by decide +kernel

/-- A barrier that completes while a core still waits at another. -/
theorem wit_BarrierArrivalsAndWaits_both :
    let w : Wait := ⟨0, 1000, 9, 0⟩
    let s := base 0 (two fun p => { p with stops := [.barrier], barriers := [(1, ⟨[0], [], [w], [], 5, [], 0⟩), (2, ⟨[], [], [w], [], 5, [], 0⟩)] })
    let t := after (exec (.barrierArrival 0 1 1) s)
    t.here.waiting = true ∧ t.here.stops = [.barrier] ∧ (t.here.barrier 1).waits = [] ∧ (t.here.barrier 2).waits = [w] := by decide +kernel

/-- A device of several whose wait is not over stops and tells the others. -/
theorem wit_BarrierArrivalsAndWaits_told :
    let w : Wait := ⟨0, 1000, 9, 0⟩
    let s (g : Part → Part) := base 0 (two fun p => g { p with cls := 1, coreTable := [(0, 0)], mates := [(9, 4, 1, 1)], barriers := [(1, ⟨[0], [], [w], [], 5, [], 3⟩)] })
    let u := match cycleMove (s fun p => { p with stage := .limits 6 }) 0 with
      | .quiet t => (t.here.stops, t.outbox)
      | _ => ([], [])
    u = ([.barrier], [.stopNotice 0 1024]) := by decide +kernel

/-- Core 1 has ended, runs, or is parked; a timeout that has run out at its last cycle, with and without a token. -/
theorem wit_BarrierFailuresAndTokens :
    let w : Wait := ⟨0, 1000, 9, 1024⟩
    let s (f : Cond) (cls elapsed : Nat) (tk : List Nat) := base 0 (two fun p =>
      { p.onCore 1 (fun c => { c with cond := f }) with cls := cls, coreTable := [(0, 0), (1, 1)], stops := [.barrier], barriers := [(1, ⟨[0], [], [w], [], elapsed, tk, 0⟩)] })
    let r (s : State) := (after (exec (.barrierTimeout 0 1) s)).here
    let f (reason : Nat) : FRec := ⟨0x51, 0, 0, 2, false, 9, 1000, 1024, 1 + 16 * reason + 256⟩
    ((r (s .ended 1 0 [])).frec = f 2 ∧ (r (s .ended 1 0 [])).stops = [.barrier, .fault] ∧ ((r (s .ended 1 0 [])).barrier 1).waits = [])
    ∧ (r (s .running 0 0 [])).frec = f 1 ∧ (r (s .parked 0 1024 [])).frec = f 0 ∧ (r (s .parked 0 1023 [])).stops = [.barrier]
    ∧ (r (s .parked 0 1024 [1])).stops = [.barrier] ∧ (s .ended 1 0 []).here.isLocal 1 = true
    ∧ ((after (exec (.absenceToken 0 1 1) (s .running 0 0 []))).here.barrier 1).tokens = [1]
    ∧ ((after (exec (.absenceToken 0 1 0) (s .running 0 0 []))).here.barrier 1).tokens = []
    ∧ ((after (exec (.absenceTokenWithdrawn 0 1 1) (s .running 0 0 [1, 2]))).here.barrier 1).tokens = [2] := by decide +kernel

/-- Over two devices, of which the other has stopped, at whatever PT, or has not: core 0 of this device, or core 1 of the other, runs. -/
theorem wit_BarrierFailuresAndTokens_devices :
    let s (peers : List (Nat × Nat)) (table arrived : List Nat) (tabor : Nat) := { base 0 (two fun p => { p.onCore 1 (fun c => { c with cond := .running }) with
      cls := 1, coreTable := table.map fun v => (v, v), mates := [(9, 4, 1, 1)], peers := peers, noticeAt := 100, stops := [.barrier]
      barriers := [(1, ⟨arrived, [], [⟨0, 1000, 9, 0⟩], [], 5, [], 0⟩)] }) with tabor := tabor }
    let r (s : State) := (after (exec (.barrierTimeout 0 1) s)).here
    (s [(9, 1023)] [0, 1] [0] 0).here.othersStopped = true ∧ (s [] [0, 1] [0] 0).here.othersStopped = false
    ∧ (r (s [(9, 1023)] [0, 1] [0] 0)).frec.detail = 1 + 16 * 1 + 256 ∧ (r (s [] [0, 1] [0] 0)).stops = [.barrier]
    ∧ (s [(9, 1024)] [0] [0] 700).here.isLocal 1 = false ∧ (r (s [(9, 1024)] [0] [0] 700)).frec.detail = 1 + 16 * 1 + 256
    ∧ (r (s [(9, 1024)] [0] [0] 699)).stops = [.barrier] := by decide +kernel

/-- A wait that fails: marks of the next phase are of the present one, and the access that waited meets its race. -/
theorem wit_BarrierFailuresAndTokens_race :
    let w : Wait := ⟨0, 1000, 9, 0⟩
    let s := base 0 (two fun p => { (p.onCore 1 fun c => { c with cond := .running }).onCore 0 fun c => { c with
      shadow := [(1, 1, 4), (2, 1, 5), (3, 1, 3)], pend := [⟨1024, 1000, 4, 7, .storeBytes 32 [1]⟩] } with
        stops := [.barrier], phase := 4, barriers := [(1, ⟨[0], [], [w], [], 5, [], 0⟩)], task := p.task.map fun t => { t with snare := true, cores := 2 } })
    let t := after (exec (.barrierTimeout 0 1) s)
    let u := after (exec (.scratchpadTouch 0 0) t)
    (s.here.phasedAt ≠ some s.here.pt ∧ s.here.doubtful (s.here.core 0) 0 32 1 true = true ∧ answers (.scratchpadTouch 0 0) s s)
    ∧ t.here.stops = [.barrier, .fault] ∧ t.here.phase = 4 ∧ (t.core 0 0).shadow = [(1, 1, 4), (2, 1, 4), (3, 1, 3)] ∧ (t.here.barrier 1).waits = []
    ∧ u.here.frec.code = 0x50 ∧ u.here.frec.more = true ∧ (u.core 0 0).scratch = [] ∧ (u.core 0 0).pend = [] := by decide +kernel

/-- Core 0 with one effect in flight, due at PT 1024. -/
def pending (e : Eff) (f : Core → Core) : State := at_ 0 fun c => { f c with pend := [⟨1024, 1000, 4, 7, e⟩] }

/-- That effect is the first due one of its kind. -/
def isDue (kind : Eff → Bool) (e : Eff) (f : Core → Core) : Bool :=
  decide (firstPend (((pending e f).part 0).dueOf 0 kind) = some ⟨1024, 1000, 4, 7, e⟩)

/-- Core 0, and the record of a stop, after an event. -/
def got (i : Instr) (s : State) : Core := (after (exec i s)).core 0 0
def record (i : Instr) (s : State) : List Stop × FRec := ((after (exec i s)).here.stops, (after (exec i s)).here.frec)

/-- The stop with a completion-time fault of the effect that `pending` makes. -/
def failed (code detail : Nat) : List Stop × FRec := ([.fault], ⟨code, 0, 4, 1, false, 7, 1000, 1024, detail⟩)

/-- s1 is written and s0 is not; v5 in a domain that is ON, and in one that is OFF. -/
theorem wit_RegisterResultsWritten :
    let r (d : Dst) (n : Nat) (f : Core → Core) := got (.registerResult 0 0) (pending (.reg d n) f)
    let off : Core → Core := fun c => { c with domains := [] }
    isDue Eff.isRegister (.reg (.s 1) (2 ^ 64 + 5)) id ∧ (r (.s 1) (2 ^ 64 + 5) id).read (.s 1) = 5 ∧ (Dst.s 1).wired = false
    ∧ (r (.s 0) 7 id).read (.s 0) = 0 ∧ (Dst.s 0).wired = true ∧ (r (.k 12) 7 id).read (.k 12) = 0 ∧ (r (.k 11) 7 id).read (.k 11) = 7
    ∧ (r (.p 0) 0 id).read (.p 0) = 1 ∧ (r (.v 5) 9 id).read (.v 5) = 9 ∧ (r (.v 5) 9 off).read (.v 5) = 0
    ∧ (r (.im 3) (2 ^ 20 + 1) id).read (.im 3) = 1 ∧ (r (.s 1) 5 id).read (.k 13) = 1 ∧ (r (.s 1) 5 id).pend = []
    ∧ ((pending (.reg (.v 5) 9) off).core 0 0).dom 0 = .off := by decide +kernel

theorem wit_OtherResultsPerformed :
    let h : Handle := ⟨.valid, true, false, 2, 0, 1, 2, 3⟩
    let y : Packed := ⟨5, 1, 2, 3⟩
    let off : Core → Core := fun c => { c with domains := [] }
    let snare (n : Nat) (e : Eff) := base 0 (alone (fun p => { p with phase := n, task := p.task.map fun t => { t with snare := true } })
      fun c => { c with shadow := [(9, 1, 2)], pend := [⟨1024, 1000, 4, 7, e⟩] })
    let i := Instr.registerResult 0 0
    let x : Core → Core := fun c => { c with xregs := [(3, rec_ 1 2 3 0 0)], yregs := [(3, rec_ 1 2 3 0 0)] }
    isDue Eff.isRegister (.handle 15 h) id ∧ (got i (pending (.handle 15 h) id)).h 15 = h
    ∧ isDue Eff.isRegister (.zres 7 y) id ∧ (got i (pending (.zres 7 y) id)).z 7 = y ∧ (got i (pending (.zres 7 y) off)).z 7 = Packed.zero
    ∧ isDue Eff.isRegister .phase id ∧ (after (exec i (snare 127 .phase))).here.phase = 0 ∧ (got i (snare 127 .phase)).shadow = []
    ∧ (after (exec i (snare 5 .phase))).here.phase = 6 ∧ (after (exec i (pending .phase id))).here.phase = 0
    ∧ isDue Eff.isRegister (.dom 0 .off) id ∧ (got i (pending (.dom 0 .off) (regs [(.v 3, 5)]))).v 3 = 0
    ∧ (got i (pending (.dom 0 .retained) (regs [(.v 3, 5)]))).v 3 = 5 ∧ (got i (pending (.dom 6 .off) x)).x 3 = 0
    ∧ isDue Eff.isRegister (.rset false 3 8 7) id
    ∧ (got i (pending (.rset false 3 8 7) x)).pend = [⟨1002, 1000, 4, 7, .reg (.x 3) (setField (rec_ 1 2 3 0 0) 8 7).toNat⟩]
    ∧ (got i (pending (.rset true 3 0 7) x)).pend = [⟨1002, 1000, 4, 7, .reg (.y 3) (rec_ 7 2 3 0 0).toNat⟩]
    ∧ isDue Eff.isRegister (.trap 5) id ∧ record i (pending (.trap 5) id) = ([.fault], ⟨0x70, 0, 4, 3, false, 7, 1000, 1024, 5⟩)
    ∧ isDue Eff.isRegister (.readError 1 9) id ∧ record i (pending (.readError 1 9) id) = failed 0x60 (1 + 9 * 2 ^ 16) := by decide +kernel

/-- Every kind of domain put into OFF, and a record with an uncorrectable error. -/
theorem wit_OtherResultsPerformed_off :
    let i := Instr.registerResult 0 0
    ([0, 1, 3, 6, 7, 10, 25, 28].all fun d => emptied d (got i (pending (.dom d .off) filled)) && !emptied d (got i (pending (.dom d .retained) filled)))
    ∧ isDue Eff.isRegister (.rset false 3 8 7) (fun c => { c with bad := [(4, 451)] })
    ∧ record i (pending (.rset false 3 8 7) fun c => { c with bad := [(4, 451)] }) = failed 0x60 (4 + 3 * 2 ^ 16) := by decide +kernel

/-- A phase advances once at a PT. -/
theorem wit_OtherResultsPerformed_phase :
    let s (n : Nat) (moved : Option Nat) := base 0 (alone (fun p => { p with phase := n, phasedAt := moved, task := p.task.map fun t => { t with snare := true } })
      fun c => { c with shadow := [(8, 1, 0), (9, 1, 127)], pend := [⟨1024, 1000, 4, 7, .phase⟩] })
    let t (n : Nat) (moved : Option Nat) := let u := after (exec (.registerResult 0 0) (s n moved)); (u.here.phase, (u.core 0 0).shadow)
    t 5 none = (6, [(8, 1, 0), (9, 1, 127)]) ∧ t 127 (some 1023) = (0, []) ∧ t 127 (some 1024) = (127, [(8, 1, 0), (9, 1, 127)]) := by decide +kernel

/-- Bounds below and at the threshold of G; sums at the ends of their range. -/
theorem wit_ProductResultsPerformed :
    let y : Packed := ⟨5, 1, 2, 3⟩
    let f : Flt := ⟨0x42, 1⟩
    let m := Instr.multiplyResult 0 0
    let a := Instr.accumulatorResult 0 0
    let d := Instr.mldqResult 0 0
    let b := Instr.vcvtBlockResult 0 0
    let image (bq : Nat) : Core → Core := fun c => { c with mldqBuf := [(mldqKey 1000 2 2, BitVec.ofNat 2048 (bq * 2 ^ 192))] }
    (isDue Eff.isMpack (.mpack 7 y none) id ∧ (got (.mpackResult 0 0) (pending (.mpack 7 y none) id)).z 7 = y
      ∧ isDue Eff.isMpack (.mpack 7 y (some f)) id ∧ record (.mpackResult 0 0) (pending (.mpack 7 y (some f)) id) = failed 0x42 1)
    ∧ (isDue Eff.isMldb (.mldb 3 511 y none) id ∧ (got (.mldbEntryWrite 0 0) (pending (.mldb 3 511 y none) id)).entryOf 3 511 = y
      ∧ record (.mldbEntryWrite 0 0) (pending (.mldb 3 511 y (some f)) id) = failed 0x42 1)
    ∧ (isDue Eff.isMultiply (.mulRead 1 9 true 7 0 4) id
      ∧ (got m (pending (.mulRead 1 9 true 7 0 4) fun c => { c with qregs := [(1, ⟨5, 0, 3⟩)] })).pend = [⟨1016, 1000, 4, 7, .mulRes 1 9 12 0 7⟩]
      ∧ record m (pending (.mulRead 1 9 true 7 0 4) fun c => { c with bad := [(4, 641)] }) = failed 0x60 (4 + 2 ^ 16))
    ∧ (isDue Eff.isMultiply (.mulRes 1 9 (-(2 ^ 4223)) (-32768) 255) id
      ∧ ((got m (pending (.mulRes 1 9 (-(2 ^ 4223)) (-32768) 255) id)).q 1).q.toInt = -(2 ^ 4223)
      ∧ ((got m (pending (.mulRes 1 9 (2 ^ 4223 - 1) 32767 255) id)).q 1).qe.toInt = 32767
      ∧ (record m (pending (.mulRes 1 9 0 0 256) id)).2.code = 0x40 ∧ record m (pending (.mulRes 1 9 (2 ^ 4223) 0 0) id) = failed 0x41 1
      ∧ record m (pending (.mulRes 1 9 0 32768 0) id) = failed 0x41 1)
    ∧ (isDue Eff.isAccumulator (.acc 3 ⟨1, 2, 3⟩) id ∧ (got a (pending (.acc 3 ⟨1, 2, 3⟩) id)).q 3 = ⟨1, 2, 3⟩
      ∧ (got a (pending (.accChecked 3 ⟨1, 2, 3⟩ none) id)).q 3 = ⟨1, 2, 3⟩
      ∧ record a (pending (.accChecked 3 ⟨1, 2, 3⟩ (some f)) id) = failed 0x42 1)
    ∧ (isDue Eff.isMldq (.mldq 2 6) (image 31) ∧ (got d (pending (.mldq 2 6) (image 31))).q 2 = ⟨0, 0, 31⟩
      ∧ (record d (pending (.mldq 2 6) (image 32))).2.code = 0x40)
    ∧ (isDue Eff.isBlock (.vcvtBlock true 5 9 none) id ∧ (got b (pending (.vcvtBlock true 5 9 none) id)).read (.w 5) = 9
      ∧ record b (pending (.vcvtBlock false 5 9 (some ⟨0x42, 0⟩)) id) = failed 0x42 0) := by decide +kernel

/-- The three cases of R166's sum: an empty accumulator, a product of the same or a higher exponent, one of a lower (11_products R166). -/
theorem wit_ProductResultsPerformed_sums :
    let q (n : Int) (e : Int) (b : Nat) : Acc := ⟨BitVec.ofInt 4224 n, BitVec.ofInt 16 e, b⟩
    mulCombine false (q 5 2 3) 7 9 4 = (7, 9, 4) ∧ mulCombine true (q 0 2 0) 7 9 4 = (7, 9, 4) ∧ mulCombine true (q 0 2 1) 7 3 4 = (14, 2, 9)
    ∧ mulCombine true (q (-5) 2 3) 7 2 4 = (2, 2, 7) ∧ mulCombine true (q (-5) 2 3) 7 4 4 = (23, 2, 19) ∧ mulCombine true (q (-5) 2 3) 7 (-1) 4 = (-33, -1, 28) := by
  decide +kernel

/-- A line that is clean, one that is poisoned, one that another core has written in this phase. -/
theorem wit_TimedReadsAndWrites :
    let i := Instr.scratchpadTouch 0 0
    let mem : Core → Core := fun c => { c with scratch := [(0x10000, 0xFF), (0xFFFFF, 0x80)] }
    let bad : Core → Core := fun c => { c with poison := [4095] }
    let race (e : Eff) := base 0 (alone (fun p => { p with phase := 3, task := p.task.map fun t => { t with snare := true } })
      fun c => { c with shadow := [(2048, 1, 3)], pend := [⟨1024, 1000, 4, 7, e⟩] })
    let raced (write : Nat) := failed 0x50 (2048 + 2 ^ 15 + 3 * 2 ^ 33 + write * 2 ^ 40)
    let cmd : Cmd := ⟨4, 5, 900, 7, .enq 0, 1, false, false, 0, 0, 1024, [0, 1], [], none, [], 0, 0, 0, 0, 0, [], 0, [], false, false, none, false, none⟩
    let s := pending (.lds 1 0xFFFFF 0 true) mem
    (isDue Eff.isTouch (.lds 1 0xFFFFF 0 true) mem ∧ readFault (s.part 0) (s.core 0 0) 0 0xFFFFF 1 = none
      ∧ (got i s).pend = [⟨1004, 1000, 4, 7, .reg (.s 1) 0x80⟩]
      ∧ (got i (pending (.lds 1 0xFFFFF 0 false) mem)).pend = [⟨1004, 1000, 4, 7, .reg (.s 1) (2 ^ 64 - 128)⟩]
      ∧ (got i (pending (.vld true 3 256) mem)).pend = [⟨1005, 1000, 4, 7, .reg (.w 3) 0xFF⟩]
      ∧ (got i (pending (.cpyRead 256 9) mem)).pend = [⟨1027, 1000, 4, 7, .storeLine 9 0xFF⟩]
      ∧ (after (exec i (pending (.dwrRead 256 512) mem))).dram = [(512, 0xFF)])
    ∧ (isDue Eff.isTouch (.storeLine 4095 5) mem ∧ memGet (got i (pending (.storeLine 4095 5) mem)).scratch 0xFFF00 = 5
      ∧ memGet (got i (pending (.storeLine 4095 5) mem)).scratch 0xFFFFF = 0 ∧ memGet (got i (pending (.storeLine 4095 5) mem)).scratch 0x10000 = 0xFF
      ∧ (got i (pending (.storeBytes 0x10000 [1, 0, 2]) mem)).scratch = [(0x10000, 1), (0x10002, 2), (0xFFFFF, 0x80)])
    ∧ (record i (pending (.lds 1 0xFFFFF 0 true) bad) = failed 0x53 4095 ∧ record i (pending (.vld false 1 4095) bad) = failed 0x53 4095
      ∧ record i (race (.storeBytes 0x10000 [1])) = raced 1 ∧ record i (race (.lds 1 0x10000 0 true)) = raced 0)
    ∧ (isDue Eff.isMext (.mext 0x10000 [7]) mem ∧ memGet (got (.mextWrite 0 0) (pending (.mext 0x10000 [7]) mem)).scratch 0x10000 = 7
      ∧ isDue Eff.isMext (.mextFault 5) mem ∧ record (.mextWrite 0 0) (pending (.mextFault 5) mem) = failed 0x42 5)
    ∧ (isDue Eff.isEnqRead (.enqRead 4 256 1) mem
      ∧ ((got (.enqReadPhase 0 0) (pending (.enqRead 4 256 1) fun c => { mem c with cmds := [cmd] })).cmds.map fun k => (k.phase, k.copies)) = [([0], [(1, 0xFF)])]
      ∧ isDue Eff.isEnqFault (.enqFault 4 1) mem ∧ record (.enqStartCheck 0 0) (pending (.enqFault 4 1) mem) = failed 0x61 1) := by decide +kernel

/-- The other reads: a record, lines to send, lines to pack, a line of an accumulator's image, the operands of an AOP. -/
theorem wit_TimedReadsAndWrites_reads :
    let i := Instr.scratchpadTouch 0 0
    let mem : Core → Core := fun c => { c with scratch := [(0x10000, 0x7F), (0x10001, 0x21), (0x10020, 9), (0x10040, 7)] }
    let s (e : Eff) := pending e mem
    let line := 0x217F + 9 * 2 ^ 256 + 7 * 2 ^ 512
    let k : Cmd := ⟨4, 5, 900, 7, .aop 0 0, 1, false, false, 0, 0, 0, [], [], none, [], 0, 0, 0, 0, 0, [], 0, [], false, false, none, false, none⟩
    let a := got i (pending (.aopRead 4 256 0) fun c => { mem c with cmds := [k] })
    readFault ((s (.rld true 3 256 1)).part 0) ((s (.rld true 3 256 1)).core 0 0) 0 0x10020 32 = none
    ∧ isDue Eff.isTouch (.rld true 3 256 1) mem ∧ (got i (s (.rld true 3 256 1))).pend = [⟨1004, 1000, 4, 7, .reg (.y 3) 9⟩]
    ∧ (got i (s (.rld false 3 256 0))).pend = [⟨1004, 1000, 4, 7, .reg (.x 3) 0x217F⟩]
    ∧ (got i (s (.cpyxRead 1 256 9))).pend = [⟨1071, 1000, 4, 7, .transit 1 9 (BitVec.ofNat 2048 line)⟩]
    ∧ (got i (s (.fsendRead 3 5 256 9 1700))).pend = [⟨1700, 1000, 4, 7, .sent 3 5 9 1700 (BitVec.ofNat 2048 line)⟩]
    ∧ (after (exec i (s (.fsendRead 3 5 256 9 1700)))).outbox = [.timedFlit 0 3 5 9 1700 0 (0x217F + 9 * 2 ^ 256), .timedFlit 0 3 5 9 1700 1 7
        , .timedFlit 0 3 5 9 1700 2 0, .timedFlit 0 3 5 9 1700 3 0]
    ∧ (got i (s (.mpackRead 2 256 9 4 2 1 0 false))).pend = [⟨1006, 1000, 4, 7, .mpack 2 ⟨1 + 2 ^ 10, 0, 2, 2⟩ none⟩]
    ∧ ((got i (s (.mldbRead 1 9 256 9 4))).pend.map fun e => (e.due, decide (e.eff = .mldb 1 9 (packValue 9 4 227 0 1 false line) (packFault 9 4 227 0 1 line 1 1)))) = [(1008, true)]
    ∧ (got i (s (.mldqRead 1 2 256))).pend = [] ∧ (got i (s (.mldqRead 1 2 256))).mldqBuf = [((4 * 1000 + 1) * 3 + 2, BitVec.ofNat 2048 line)]
    ∧ a.pend = [] ∧ a.cmds = [{ k with operand := some (0x217F, 0) }] := by decide +kernel

/-- What a write marks, at its first and last granule; what a read meets of a race, poison and an error, in their order; and while a
barrier wait is not over: a race of the present phase waits, and what is written is of the next phase (14_determinism R216, R217). -/
theorem wit_TimedReadsAndWrites_marks :
    let i := Instr.scratchpadTouch 0 0
    let s (ph : Nat) (open_ : Bool) (f : Core → Core) (e : Eff) := base 0 (alone (fun p => { p with
        phase := ph, barriers := if open_ then [(15, ⟨[0], [], [⟨0, 1000, 9, 0⟩], [], 5, [], 0⟩)] else [], task := p.task.map fun t => { t with snare := true } })
      fun c => { f c with pend := [⟨1024, 1000, 4, 7, e⟩] })
    let lds := Eff.lds 1 0x1001F 1 true
    let mark (w ph : Nat) : Core → Core := fun c => { c with shadow := [(2049, w, ph)], poison := [256], bad := [(0, 256)] }
    let fault (f : Core → Core) := let p := (s 3 false f lds).here; readFault p (p.core 0) 0 0x1001F 2
    let held (ph w m : Nat) : Bool := (s ph true (mark w m) (.storeBytes 0x1001F [1, 2])).here.dueOf 0 (fun _ => true) == []
    let race (f : Core → Core) : Prop := (raceFault (s 3 false f lds).here ((s 3 false f lds).here.core 0) 0 0x1001F 2 true).isSome = true
    (got i (s 3 false id (.storeBytes 0x1001F [1, 2]))).shadow = [(2048, 0, 3), (2049, 0, 3)]
    ∧ ((got i (s 3 false id (.storeLine 256 5))).shadow.map fun x => x.1) = [2048, 2049, 2050, 2051, 2052, 2053, 2054, 2055]
    ∧ (got i (s 3 false (fun c => { c with poison := [256, 257] }) (.storeLine 256 5))).poison = [257]
    ∧ (got i (s 3 false (fun c => { c with poison := [256] }) (.storeBytes 0x1001F [1]))).poison = [256]
    ∧ race (mark 1 3) ∧ ¬ race (mark 0 3) ∧ ¬ race (mark 1 2)
    ∧ fault (mark 1 3) = some ⟨0x50, 2049 + 2 ^ 15 + 3 * 2 ^ 33⟩ ∧ fault (mark 0 3) = some ⟨0x53, 256⟩
    ∧ fault (fun c => { c with bad := [(0, 256)] }) = some ⟨0x60, 256 * 2 ^ 16⟩ ∧ fault (fun c => { c with bad := [(0, 257)] }) = none
    ∧ held 3 1 3 = true ∧ held 3 1 2 = false ∧ held 3 0 3 = false ∧ held 127 1 2 = true ∧ held 126 1 2 = false
    ∧ (got i (s 126 true id (.storeBytes 0x1001F [1, 2]))).shadow = [(2048, 0, 127), (2049, 0, 127)]
    ∧ (got i (s 3 true id (.storeBytes 0x1001F [1, 2]))).shadow = [(2048, 0, 4), (2049, 0, 4)]
    ∧ (got i (s 3 true id (.storeBytes 0x1001F [1, 2]))).scratch = [(0x1001F, 1), (0x10020, 2)] := by decide +kernel

/-- While a barrier wait leaves the phase open, a racing access of each kind is not due; at phase 127 one that does not race is not either. -/
theorem wit_TimedReadsAndWrites_open :
    let p (ph : Nat) (open_ : Bool) (e : Eff) : Part := alone (fun p => { p with
        phase := ph, barriers := if open_ then [(15, ⟨[0], [], [⟨0, 1000, 9, 0⟩], [], 5, [], 0⟩)] else [], task := p.task.map fun t => { t with snare := true } })
      fun c => { c with shadow := [(2049, 1, 3)], pend := [⟨1024, 1000, 4, 7, e⟩] }
    let held (ph : Nat) (o : Bool) (e : Eff) : Bool := (p ph o e).dueOf 0 (fun _ => true) == []
    let all (ph : Nat) (o : Bool) (a : Nat) : List Bool := [ held ph o (.lds 1 (256 * a + 32) 0 true), held ph o (.vld true 3 a), held ph o (.dwrRead a 77)
      , held ph o (.storeLine a 5), held ph o (.storeBytes (256 * a + 63) [1]), held ph o (.mext (256 * a + 60) [1, 2, 3, 4]) ]
    all 3 true 256 = List.replicate 6 true ∧ all 3 true 257 = List.replicate 6 false ∧ all 3 false 256 = List.replicate 6 false
    ∧ all 127 true 257 = List.replicate 6 true ∧ all 127 false 257 = List.replicate 6 false := by decide +kernel

/-- A landing of each kind alone, with a touch of its bank, in a bank that is OFF. -/
theorem wit_LandingsWriteOrConflict :
    let s (e : Eff) (f : Core → Core) := pending e f
    let touch : Core → Core := fun c => { c with touches := [⟨1024, 15, 4095⟩] }
    let off : Core → Core := fun c => { c with domains := [] }
    let l (via : Via) (p : Bool) : Landing := ⟨via, 0, 1000, 4, 7, 4095, 5, none, p⟩
    let inl : InLine := ⟨1024, 0, 4095, 5, 3, 0, 4, 7, 1000, true, 0⟩
    let fs := base 0 (alone (fun p => { p with inbound := [inl] }) id)
    let wrote (c : Core) : Bool := decide (memGet c.scratch 0xFFF00 = 5 ∧ c.pend = [])
    ((s (.drd 4095 5 none) id).part 0).landings 0 = [l .drd false] ∧ wrote (got (.drdLanding 0 0) (s (.drd 4095 5 none) id))
    ∧ ((s (.transit 0 4095 5) id).part 0).landings 0 = [l .cpyx false] ∧ wrote (got (.cpyxArrival 0 0) (s (.transit 0 4095 5) id))
    ∧ (fs.part 0).landings 0 = [l .fsend true] ∧ wrote (got (.fsendLanding 0 0) fs) ∧ (got (.fsendLanding 0 0) fs).poison = [4095]
    ∧ record (.drdLanding 0 0) (s (.drd 4095 5 none) touch) = failed 0x30 4095 ∧ (got (.drdLanding 0 0) (s (.drd 4095 5 none) touch)).scratch = []
    ∧ record (.cpyxArrival 0 0) (s (.transit 0 4095 5) off) = failed 0x10 (4 * 23) := by decide +kernel

/-- A landing that races, one whose row was read with an error, and one that marks its granules as its sender's. -/
theorem wit_LandingsWriteOrConflict_faults :
    let s (sh : List (Nat × Nat × Nat)) (bad : Option Nat) := base 0 (alone (fun p => { p with phase := 3, task := p.task.map fun t => { t with snare := true } })
      fun c => { c with shadow := sh, pend := [⟨1024, 1000, 4, 7, .drd 4095 5 bad⟩] })
    let i := Instr.drdLanding 0 0
    record i (s [(4095 * 8 + 7, 1, 3)] none) = failed 0x50 (4095 * 8 + 7 + 2 ^ 15 + 3 * 2 ^ 33 + 2 ^ 40) ∧ record i (s [] (some 9)) = failed 0x60 (2 + 9 * 2 ^ 16)
    ∧ (got i (s [] (some 9))).scratch = [] ∧ (got i (s [(4095 * 8 + 7, 1, 2)] none)).shadow.length = 8
    ∧ tfind (got i (s [(4095 * 8 + 7, 1, 2)] none)).shadow (4095 * 8 + 7) = some (0, 3) := by decide +kernel

/-- A landing while a barrier wait leaves the phase open: one that races waits, at phase 127 any one waits, and another is marked with the next
phase; one that meets another access or a sleeping bank does not wait. -/
theorem wit_LandingsWriteOrConflict_open :
    let s (ph other : Nat) (f : Core → Core) := base 0 (alone (fun p => { p with
        phase := ph, barriers := [(0, ⟨[0], [], [⟨0, 1000, 9, 0⟩], [], 5, [], 0⟩)], task := p.task.map fun t => { t with snare := true } })
      fun c => f { c with shadow := [(4095 * 8 + 7, other, 3)], pend := [⟨1024, 1000, 4, 7, .drd 4095 5 none⟩] })
    let i := Instr.drdLanding 0 0
    let touch : Core → Core := fun c => { c with touches := [⟨1024, 15, 9⟩] }
    ((s 3 1 id).here.snare = true ∧ (s 3 1 id).here.phasedAt = none ∧ ((s 3 1 id).here.barrier 0).waits ≠ []) ∧ ((s 3 1 id).part 0).landings 0 ≠ [] ∧ answers i (s 3 1 id) (s 3 1 id) ∧ answers i (s 127 0 id) (s 127 0 id)
    ∧ tfind (got i (s 3 0 id)).shadow (4095 * 8) = some (0, 4) ∧ tfind (got i (s 126 1 id)).shadow (4095 * 8) = some (0, 127)
    ∧ memGet (got i (s 3 0 id)).scratch 0xFFF00 = 5 ∧ record i (s 3 1 touch) = failed 0x30 4095
    ∧ record i (s 127 1 fun c => { c with domains := [] }) = failed 0x10 (4 * 23) := by decide +kernel

theorem wit_DeadlineFaultsStop :
    let s (g : Part → Part) := base 0 (alone g id)
    let wd (n : Nat) := s fun p => { p with task := p.task.map fun t => { t with watchdog := n } }
    let stop (s : State) (i : Instr) : Nat × Nat × Nat := let f := (after (exec i s)).here.frec; (f.code, f.cls, f.detail)
    let ref (t : Nat) := s fun p => { p with
      pt := t, service := (List.range 128).map fun n => (n, 0xFFFE), banks := (List.range 128).map fun n => (16 * n, ⟨.idle, none, none, none, some (if n = 127 then 1024 else 3000)⟩) }
    let l (late : Nat) : InLine := ⟨1000, 0, 9, 5, 31, 0, 4, 7, 900, false, late⟩
    let line (ls : List InLine) (d : List (Nat × Nat)) := s fun p => { p with inbound := ls, debts := d }
    stop (wd 1024) (.watchdog 0) = (0x71, 2, 1024) ∧ answers (.watchdog 0) (wd 1025) (wd 1025) ∧ answers (.watchdog 0) (wd 0) (wd 0)
    ∧ stop (ref 3073) (.refreshDeadline 0) = (0x33, 2, 127) ∧ answers (.refreshDeadline 0) (ref 3072) (ref 3072)
    ∧ ((line [l 70000] []).part 0).lateLines 0 = [l 70000] ∧ stop (line [l 70000] []) (.linkTimingFault 0 0) = (0x52, 2, 31 + 65535 * 2 ^ 16)
    ∧ ((line [] [(1025, 49)]).part 0).owed = 49 ∧ stop (line [] [(1025, 49)]) (.linkTimingFault 0 0) = (0x52, 2, 49 * 2 ^ 16)
    ∧ ((line [l 0] [(1025, 48)]).part 0).lateLines 0 = [] ∧ ((line [l 0] [(1025, 48)]).part 0).owed ≤ 48
    ∧ (after (exec (.linkTimingFault 0 0) (line [l 0] [(1025, 48)]))).here.stops = []
    ∧ (after (exec (.linkTimingFault 0 0) (line [l 0, l 9] []))).here.inbound = [l 0] := by decide +kernel

/-! ### Witnesses: engines, clocks, faults and pages -/

/-- An ENQ of kind 0 in its engine. -/
def move (src dst : Rec) (pieces : List Piece) (g : Table Got) : Cmd :=
  ⟨4, 5, 900, 7, .enq 0, 1, false, true, src, dst, 1000, [], [], none, pieces, 0, 0, 3, 0, 0, [], 0, g, false, false, none, false, none⟩

/-- An AOP in its engine, its operands read. -/
def atomic (fn size : Nat) (dst : Rec) (a b : Nat) : Cmd :=
  { move 0 dst [] [] with kind := .aop fn size, operand := some (a, b), resl := 4095, flagl := 9 }

/-- The package with one command in core 0, pages, and what its tower's cache holds. -/
def engine (k : Cmd) (pages cached : List Page) (f : Core → Core) : State :=
  { base 5 (alone (fun p => { p with pages := pages }) fun c => { f c with cmds := [k] }) with towerTlb := [(0, cached.map fun g => (0, g))] }

/-- The command next does an act. -/
def nextIs (s : State) (a : Act) : Bool := decide (((s.core 0 0).cmd 4).bind (nextAct s 0 0) = some a)

/-- The command after an event. -/
def cmdAfter (i : Instr) (s : State) : Option Cmd := (got i s).cmd 4

def hostPage : Page := ⟨1, 0, 2, true, true, true, 5⟩

theorem wit_EngineAccessesAndFlags :
    let p0 (n : Nat) : Page := ⟨1, 0, n, true, true, true, 5⟩
    let sp := rec_ 256 512 2 0 0
    let mem := rec_ 65536 16 2 0 2
    let pc (a d : Nat) : Piece := ⟨[(some a, d), (some (a + 1), d + 1)]⟩
    let data : Core → Core := fun c => { c with scratch := [(256, 7), (257, 8)] }
    let bad : Core → Core := fun c => { data c with poison := [1] }
    let wr := engine (move mem sp [pc 65536 256] [(65536, .byte 1), (65537, .byte 2)]) [] [] data
    let rd (f : Core → Core) := engine { move sp mem [pc 256 65536] [] with kind := .fput } [] [] f
    let w (n : Nat) := engine (move mem mem [pc 65536 65600] [(65536, .byte 1), (65537, .byte 2)]) [] [p0 n] id
    let none_ := engine { move mem mem [pc 65536 65600] [(65536, .byte 1), (65537, .byte 2)] with unmapped := true } [] [] id
    let i := Instr.untimedScratchAccess 0 0 4
    let e := Instr.enginePiece 0 0 4
    (nextIs wr .scratchWrite ∧ (got i wr).scratch = [(256, 1), (257, 2)] ∧ (cmdAfter i wr).map (·.bytes) = some 5)
    ∧ (nextIs (rd data) .scratchRead ∧ (cmdAfter i (rd data)).map (·.got) = some [(256, .byte 7), (257, .byte 8)]
       ∧ nextIs (rd bad) .scratchRead ∧ (cmdAfter i (rd bad)).map (·.got) = some [(256, .bad 0x80000004), (257, .bad 0x80000004)])
    ∧ (nextIs (w 2) .memWrite ∧ (after (exec e (w 2))).host = [(5 * 65536 + 64, 1), (5 * 65536 + 65, 2)]
       ∧ nextIs (w 1) .memWrite ∧ (cmdAfter e (w 1)).map (·.queued) = some true ∧ (after (exec e (w 1))).here.t1Queue = [(0, .cmd 0 4)]
       ∧ nextIs (w 0) .memWrite ∧ (cmdAfter e (w 0)).map (·.status) = some 0x80000001
       ∧ nextIs none_ .memWrite ∧ (cmdAfter e none_).map (·.status) = some 0x80000002) := by decide +kernel

/-- A piece whose second byte could not be read, into the scratchpad; one of which no byte could, to memory. -/
theorem wit_EngineAccessesAndFlags_bad :
    let pc : Piece := ⟨[(some 65536, 256), (some 65537, 257)]⟩
    let half := engine (move (rec_ 65536 16 2 0 2) (rec_ 256 512 2 0 0) [pc] [(65536, .byte 1), (65537, .bad 0x80000004)]) [] [] id
    let none_ := engine (move (rec_ 65536 16 2 0 2) (rec_ 131072 512 2 0 2) [pc] [(65536, .bad 0x80000001), (65537, .bad 0x80000004)]) [] [] id
    let i := Instr.untimedScratchAccess 0 0 4
    let e := Instr.enginePiece 0 0 4
    let seen (k : Option Cmd) : Option (Nat × Nat × List Piece) := k.map fun k => (k.bytes, k.status, k.pieces)
    nextIs half .scratchWrite ∧ (got i half).scratch = [(256, 1)] ∧ seen (cmdAfter i half) = some (4, 0x80000004, [])
    ∧ nextIs none_ .memWrite ∧ ((none_.core 0 0).cmd 4).map (·.cells pc) = some []
    ∧ seen (cmdAfter e none_) = some (3, 0x80000001, []) ∧ (after (exec e none_)).host = [] := by decide +kernel

/-- The reads of memory, the walks and the flags of the same statement. -/
theorem wit_EngineAccessesAndFlags_more :
    let p0 (n : Nat) : Page := ⟨1, 0, n, true, true, true, 5⟩
    let sp := rec_ 256 512 2 0 0
    let mem := rec_ 65536 16 2 0 2
    let pc (a d : Nat) : Piece := ⟨[(some a, d), (some (a + 1), d + 1)]⟩
    let r := { engine (move mem sp [pc 65536 256] []) [] [p0 2] id with host := [(5 * 65536 + 1, 9)] }
    let rt (n : Nat) := engine (move mem sp [pc 65536 256] []) [] [p0 n] id
    let nowhere := engine { move mem sp [pc 65536 256] [] with unmapped := true } [] [] id
    let walk (l : List Page) := engine (move mem mem [pc 65536 65600] []) l [] id
    let f0 := engine (move mem sp [] []) [] [] fun c => { c with scratch := [(256, 7)] }
    let f (n : Nat) := engine (move sp mem [] []) [] [p0 n] id
    let e := Instr.enginePiece 0 0 4
    let fl := Instr.flagWordWrite 0 0 4
    (nextIs r .memRead ∧ (cmdAfter e r).map (·.got) = some [(65536, .byte 0), (65537, .byte 9)]
       ∧ nextIs (rt 1) .memRead ∧ (after (exec e (rt 1))).here.t1Queue = [(0, .cmd 0 4)] ∧ (cmdAfter e (rt 1)).map (·.queued) = some true
       ∧ nextIs (rt 0) .memRead ∧ (cmdAfter e (rt 0)).map (·.got) = some [(65536, .bad 0x80000001), (65537, .bad 0x80000001)]
       ∧ nextIs nowhere .memRead ∧ (cmdAfter e nowhere).map (·.got) = some [(65536, .bad 0x80000002), (65537, .bad 0x80000002)])
    ∧ (nextIs (walk [p0 2]) .walk ∧ (after (exec (.engineWalk 0 0 4) (walk [p0 2]))).towerTlb = [(0, [(0, p0 2)])]
       ∧ nextIs (walk []) .walk ∧ (cmdAfter (.engineWalk 0 0 4) (walk [])).map (·.unmapped) = some true)
    ∧ (nextIs f0 .flag ∧ (got fl f0).cmds = [] ∧ memGet (got fl f0).scratch 768 = 1 ∧ memGet (got fl f0).scratch 772 = 3
       ∧ nextIs (f 2) .flag ∧ (after (exec fl (f 2))).host = [(5 * 65536 + 16, 1), (5 * 65536 + 20, 3)]
       ∧ nextIs (f 0) .flag ∧ (after (exec fl (f 0))).here.stops = [.fail] ∧ (after (exec fl (f 0))).here.failing.isSome = true) := by
  decide +kernel

/-- A page of device 9, behind a plane that reaches it or none: a piece, a read and a flag. A page of T1: a flag. -/
theorem wit_EngineAccessesAndFlags_remote :
    let g (n : Nat) : Page := ⟨1, 0, n, true, true, true, 5⟩
    let sp := rec_ 256 512 2 0 0
    let mem := rec_ 65536 16 2 0 2
    let far : Rec := rec_ 65536 16 2 0 4 ||| (BitVec.ofNat 256 9 <<< 208)
    let pc (a d : Nat) : Piece := ⟨[(some a, d), (some (a + 1), d + 1)]⟩
    let up (s : State) : State := { s with ports := [(9, ⟨true, 2, 600⟩)], remote := [(9 * 2 ^ 64 + 5 * 65536, 6)] }
    let wr := engine (move mem far [pc 65536 65600] [(65536, .byte 1), (65537, .byte 2)]) [] [g 3] id
    let rd := engine (move far sp [pc 65536 256] []) [] [g 3] id
    let fl (n : Nat) := engine (move sp far [] []) [] [g n] id
    let e := Instr.enginePiece 0 0 4
    let f := Instr.flagWordWrite 0 0 4
    let port (s : State) : Option Nat := s.portFor (s.here.phys 0) 9 1
    recDevice far = 9 ∧ recSpace far = 4 ∧ port (up wr) = some 9 ∧ port wr = none
    ∧ nextIs (up wr) .memWrite ∧ (after (exec e (up wr))).outbox = [.untimed 0 9 1 0 9 (.write [(5 * 65536 + 64, 1), (5 * 65536 + 65, 2)])]
    ∧ ((cmdAfter e (up wr)).map fun k => (k.pieces, k.bytes, k.since)) = some ([], 3, none)
    ∧ nextIs wr .memWrite ∧ (cmdAfter e wr).map (·.since) = some (some 0) ∧ (after (exec e wr)).outbox = []
    ∧ nextIs (up rd) .memRead ∧ (cmdAfter e (up rd)).map (·.got) = some [(65536, .byte 6), (65537, .byte 0)] ∧ (up rd).livePort 9 = some 9
    ∧ nextIs rd .memRead ∧ (cmdAfter e rd).map (·.since) = some (some 0) ∧ rd.livePort 9 = none
    ∧ nextIs (up (fl 3)) .flag ∧ ((after (exec f (up (fl 3)))).outbox.map fun o => decide (o = .untimed 0 9 1 0 9 (.write (numCells (5 * 65536 + 16) 8 (1 + 3 * 2 ^ 32))))) = [true]
    ∧ (cmdAfter f (up (fl 3))).map (·.resultDone) = some true ∧ nextIs (fl 3) .flag ∧ (cmdAfter f (fl 3)).map (·.since) = some (some 0)
    ∧ nextIs (fl 1) .flag ∧ (cmdAfter f (fl 1)).map (·.queued) = some true ∧ (after (exec f (fl 1))).here.t1Queue = [(0, .cmd 0 4)] := by decide +kernel

/-- A walk to a page that is not resident, with a frame and with none; a failure below and above the one noted before. -/
theorem wit_EngineAccessesAndFlags_walks :
    let g : Page := ⟨1, 0, 0, true, true, false, 0⟩
    let mem := rec_ 65536 16 2 0 2
    let pc (a d : Nat) : Piece := ⟨[(some a, d), (some (a + 1), d + 1)]⟩
    let walk (frames : List (Nat × Nat)) := (engine (move mem mem [pc 65536 65600] []) [g] [] id).onPart 0 fun p => { p with freeFrames := frames }
    let t (l : List (Nat × Nat)) := after (exec (.engineWalk 0 0 4) (walk l))
    let half (at_ : Nat) := engine { move (rec_ 65536 16 2 0 2) (rec_ 256 512 2 0 0) [⟨[(some 65536, 256), (some 65537, 257)]⟩]
      [(65536, .byte 1), (65537, .bad 0x80000004)] with status := 5, statusAt := at_ } [] [] id
    let noted (n : Nat) := (cmdAfter (.untimedScratchAccess 0 0 4) (half n)).map fun k => (k.status, k.statusAt)
    nextIs (walk [(7, 0)]) .walk ∧ (walk [(7, 0)]).here.frameFor 0 0 = some (7, 0) ∧ (t [(7, 0)]).here.pageAt 1 = some { g with phys := 7, resident := true }
    ∧ (t [(7, 0)]).towerTlb = [(0, [(0, { g with phys := 7, resident := true })])]
    ∧ nextIs (walk []) .walk ∧ ((walk []).here.joined 0 0).frameFor 0 0 = none ∧ (walk []).here.victims g = [] ∧ (walk []).here.failing = none
    ∧ nextIs (half 258) .scratchWrite ∧ noted 258 = some (0x80000004, 257) ∧ noted 257 = some (5, 257) := by decide +kernel

/-- A piece of T2 memory waits while a flit of its command is not acknowledged, and not for a flit of another (09_memory R141). -/
theorem wit_EngineAccessesAndFlags_order :
    let mem := rec_ 65536 16 2 0 2
    let s (id : Nat) := { engine (move mem mem [⟨[(some 65536, 65600)]⟩] [(65536, .byte 1)]) [] [⟨1, 0, 2, true, true, true, 5⟩] (fun c => c) with
      streams := [⟨0, 0, 0, 9, 1, false, 1, [⟨0, id, 65540, .write []⟩], 9⟩] }
    nextIs (s 4) .memWrite = false ∧ nextIs (s 5) .memWrite = true ∧ recSpace mem ≠ 0 := by decide +kernel

/-- Every operation of AOP on 32 bits, and a 64-bit add; a port that is served; an unreachable device; a drain of 1 ms. -/
theorem wit_AtomicsPortsAndDrains :
    let p0 (n : Nat) : Page := ⟨1, 0, n, true, true, true, 5⟩
    let k (fn size a b : Nat) := atomic fn size (rec_ (65536 + 8) 8 1 0 3) a b
    let s (fn size a b : Nat) := { engine (k fn size a b) [] [p0 2] id with host := [(5 * 65536 + 8, 250)] }
    let i := Instr.aopPerform 0 0 4
    let new (fn a b : Nat) : Mem := (after (exec i (s fn 0 a b))).host
    let t0 := engine (k 0 0 1 0) [] [p0 0] id
    let nowhere := engine { k 0 0 1 0 with unmapped := true } [] [] id
    let port (tab : Nat) := base 5 (alone (fun p => { p with pt := 7, t1Queue := [(3, .cmd 0 9), (2, .cmd 0 9)], served := [(3, tab)] }) id)
    let lost := { engine { move 0 (rec_ 65536 8 1 0 4) [⟨[(none, 65536)]⟩] [] with since := some 0, bytes := 1 } [] [⟨1, 0, 3, true, true, true, 5⟩] id with tabor := 20000000 }
    let drain (tab : Nat) := { engine (move 0 (rec_ 0 8 1 0 0) [⟨[(none, 0)]⟩] []) [] [] id with tabor := tab }.onPart 0 fun p => { p with failing := some (5, 0) }
    (nextIs (s 0 0 10 0) .perform ∧ new 0 10 0 = [(5 * 65536 + 8, 4), (5 * 65536 + 9, 1)] ∧ new 1 (2 ^ 32 - 1) 0 = (List.range 4).map fun n => (5 * 65536 + 8 + n, 255))
    ∧ new 2 (2 ^ 32 - 1) 0 = [(5 * 65536 + 8, 250)] ∧ new 3 9 0 = [(5 * 65536 + 8, 9)] ∧ new 4 250 7 = [(5 * 65536 + 8, 7)] ∧ new 4 251 7 = [(5 * 65536 + 8, 250)]
    ∧ new 5 0x0F 0 = [(5 * 65536 + 8, 10)] ∧ new 6 0x05 0 = [(5 * 65536 + 8, 255)]
    ∧ ((cmdAfter i (s 6 1 5 0)).map fun k => (k.old, k.bytes)) = some (some 250, 8)
    ∧ nextIs t0 .perform ∧ (cmdAfter i t0).map (·.status) = some 0x80000001 ∧ nextIs nowhere .perform ∧ (cmdAfter i nowhere).map (·.status) = some 0x80000002
    ∧ ((port 0).part 0).portOpen 0 3 = true ∧ (after (exec (.serviceWindow 0 3) (port 0))).here.t1Queue = [(2, .cmd 0 9)]
    ∧ ((port 1).part 0).portOpen 0 3 = false ∧ answers (.serviceWindow 0 3) (port 1) (port 1) ∧ answers (.serviceWindow 0 4) (port 0) (port 0)
    ∧ nextIs lost .giveUp ∧ ((cmdAfter (.destinationUnreachable 0 0 4) lost).map fun k => (k.pieces, k.bytes, k.status)) = some ([], 1, 0x80000005)
    ∧ ((drain 2000000).part 0).drainOver 2000000 = true
    ∧ ((got (.drainTimeout 0) (drain 2000000)).cmds.map fun k => (k.id, k.status, k.pieces)) = [(4, 0x80000003, [])]
    ∧ ((drain 5).part 0).drainOver 5 = false ∧ answers (.drainTimeout 0) (drain 5) (drain 5) := by decide +kernel

/-- The oldest request of a port served: a write, an AOP, and an AOP whose row has an uncorrectable error. -/
theorem wit_AtomicsPortsAndDrains_served :
    let g : Page := ⟨1, 0, 1, true, true, true, 5⟩
    let pc : Piece := ⟨[(some 256, 65536), (some 257, 65537)]⟩
    let s (k : Cmd) (bad : List Nat) := { engine { k with queued := true } [g] [g] id with dramBad := bad }.onPart 0 fun p => { p with
      pt := 1031, t1Queue := [(0, .cmd 0 4), (0, .cmd 1 4)] }
    let w := s { move (rec_ 256 512 2 0 0) (rec_ 65536 512 2 0 3) [pc] [(256, .byte 7), (257, .byte 8)] with kind := .fput } []
    let a (bad : List Nat) := { s (atomic 0 0 (rec_ (65536 + 8) 8 1 0 3) 10 0) bad with t1 := [(g.t1Place (lone id) (65536 + 8), 250)] }
    let i := Instr.serviceWindow 0 0
    let row := 2 ^ 40 + g.t1Place (lone id) (65536 + 8) / 4096
    let seen (s : State) : Option (Nat × Nat × Bool × Option Nat × Bool) :=
      (cmdAfter i s).map fun k => (k.bytes, k.status, k.queued, k.old, k.resultDone)
    (w.here.t1Queue.filter fun r => decide (r.1 = 0)) = [(0, .cmd 0 4), (0, .cmd 1 4)] ∧ w.here.portOpen 0 0 = true ∧ w.here.pageAt 1 = some g
    ∧ (after (exec i w)).t1 = [(g.t1Place (lone id) 65536, 7), (g.t1Place (lone id) 65537, 8)] ∧ seen w = some (5, 0, false, none, false)
    ∧ (after (exec i w)).here.t1Queue = [(0, .cmd 1 4)] ∧ tget 0 (after (exec i w)).here.served 0 = 1
    ∧ (after (exec i (a []))).t1 = [(g.t1Place (lone id) (65536 + 8), 4), (g.t1Place (lone id) (65536 + 9), 1)]
    ∧ ((cmdAfter i (a [])).map fun k => (k.bytes, k.old)) = some (4, some 250)
    ∧ (after (exec i (a [row]))).t1 = (a []).t1 ∧ ((cmdAfter i (a [row])).map fun k => (k.status, k.resultDone)) = some (0x80000004, true) := by
  decide +kernel

/-- A port in a droop stretch, in which PT stands at 1031, and at other PTs; while PT stands for a stop it is open in every cycle (09_memory R142). -/
theorem wit_AtomicsPortsAndDrains_windows :
    let s (pt until_ : Nat) (st : List Stop) (done : List (Nat × Nat)) : State := { at_ 5 id with tabor := 50, stretchUntil := until_ }.onPart 0 fun p => { p with
      pt := pt, stops := st, served := done, t1Queue := [(0, .cmd 0 4)] }
    let i := Instr.serviceWindow 0 0
    let open_ (s : State) : Bool := decide ((after (exec i s)).here.t1Queue = [])
    open_ (s 1031 50 [] []) = true ∧ answers i (s 1031 51 [] []) (s 1031 51 [] []) ∧ open_ (s 1030 0 [] []) = false ∧ open_ (s 1032 0 [] []) = false
    ∧ open_ (s 1032 51 [.fault] []) = true ∧ open_ (s 1031 0 [] [(0, 50)]) = true ∧ open_ (s 1031 0 [] [(0, 51)]) = false := by decide +kernel

/-- An AOP at a T1 page joins its port, at a T3 page enters its stream; a flit on its way when its device is lost, and a flag that only that
device could hold. -/
theorem wit_AtomicsPortsAndDrains_remote :
    let g (n : Nat) : Page := ⟨1, 0, n, true, true, true, 5⟩
    let far : Rec := rec_ (65536 + 8) 8 1 0 4 ||| (BitVec.ofNat 256 9 <<< 208)
    let up (s : State) : State := { s with ports := [(9, ⟨true, 2, 600⟩)] }
    let aop (n : Nat) := up (engine (atomic 0 0 far 10 0) [] [g n] id)
    let i := Instr.aopPerform 0 0 4
    let sent : Stream := ⟨0, 0, 0, 9, 1, false, 1, [⟨0, 4, 65540, .write [(1, 1)]⟩], 9⟩
    let lost (pieces : List Piece) (st at_ : Nat) (l : List Stream) := { engine { move 0 far pieces [] with since := some 0, status := st, statusAt := at_ } [] [g 3] id with
      tabor := 20000000, streams := l }
    let one : List Piece := [⟨[(none, 65536)]⟩]
    let two_ : List Piece := [⟨[(none, 65552)]⟩]
    let seen (s : State) : Option (Nat × Nat) := (cmdAfter (.destinationUnreachable 0 0 4) s).map fun k => (k.status, k.statusAt)
    nextIs (aop 1) .perform ∧ (after (exec i (aop 1))).here.t1Queue = [(0, .cmd 0 4)] ∧ (cmdAfter i (aop 1)).map (·.queued) = some true
    ∧ nextIs (aop 3) .perform ∧ (after (exec i (aop 3))).outbox = [.untimed 0 9 1 0 9 (.aop (5 * 65536 + 8) 0 4 10 0)]
    ∧ nextIs (lost one 7 65540 []) .giveUp ∧ seen (lost one 7 65540 []) = some (0x80000005, 65536) ∧ seen (lost one 7 65536 []) = some (7, 65536)
    ∧ nextIs (lost two_ 0 0 [sent]) .giveUp ∧ seen (lost two_ 0 0 [sent]) = some (0x80000005, 65540)
    ∧ nextIs (lost [] 0 0 []) .giveUp ∧ (cmdAfter (.destinationUnreachable 0 0 4) (lost [] 0 0 [])) = none := by decide +kernel

/-- A destination that is lost: its flits of the command go, those of other commands and of a live device stay; the lowest lost address is the error's. -/
theorem wit_AtomicsPortsAndDrains_lost :
    let far (dev : Nat) : Rec := rec_ (65536 + 8) 8 1 0 4 ||| (BitVec.ofNat 256 dev <<< 208)
    let live : Stream := ⟨0, 0, 0, 7, 1, false, 1, [⟨0, 4, 65536, .write []⟩], 2⟩
    let dead (l : List Sent) : Stream := ⟨0, 0, 0, 9, 1, false, 3, l, 9⟩
    let y (seq cmd addr : Nat) : Sent := ⟨seq, cmd, addr, .write []⟩
    let s (pieces : List Piece) (l : List Sent) := { engine { move 0 (far 9) pieces [] with since := some 0 } [] [⟨1, 0, 3, true, true, true, 5⟩] id with
      tabor := 20000000, ports := [(2, ⟨true, 7, 600⟩)], unreached := [(9, 2)], streams := [live, dead l] }
    let i := Instr.destinationUnreachable 0 0 4
    let t := after (exec i (s [] [y 0 4 65550, y 1 5 65537, y 2 4 65545]))
    nextIs (s [] [y 0 4 65550]) .giveUp ∧ live ∈ t.streams ∧ ((t.streams.filter fun r => decide (r.dev = 9)).map fun r => r.unacked) = [[y 1 5 65537]]
    ∧ (cmdAfter i (s [] [y 0 4 65550, y 1 5 65537, y 2 4 65545])).map (·.statusAt) = some 65545
    ∧ (cmdAfter i (s [⟨[(none, 65540)]⟩] [y 0 4 65550])).map (·.statusAt) = some 65540 := by decide +kernel

/-- The oldest request of a port: a read of a column, a flag, a completion word, a node for this queue, a LAUNCH of a tenant that has gone, a line
of the argument block, a flit that an earlier one of its stream holds back. -/
theorem wit_AtomicsPortsAndDrains_requests :
    let g : Page := ⟨1, 0, 1, true, true, true, 5⟩
    let s (k : List Cmd) (q : List T1Req) (f : Part → Part) := ({ (at_ 5 fun c => { c with cmds := k }) with images := [(1, ⟨1, 1, 0, 4, 0, none, false, 0, [], [], []⟩)], imageTenant := [(1, 0)] }).onPart 0 fun p => f { p with
      pt := 1031, pages := [g], t1Queue := q.map fun r => (0, r) }
    let at0 (a : Nat) : Nat := g.t1Place (lone id) a
    let i := Instr.serviceWindow 0 0
    let n : Node := ⟨7, 1, 0, 0, [], 65544⟩
    let rd := { s [{ move (rec_ 65536 512 2 0 3) (rec_ 256 512 2 0 0) [⟨[(some 65536, 256), (some 65537, 257)]⟩] [] with queued := true }] [.cmd 0 4] id with
      t1 := [(at0 65537, 9)] }
    let row := 2 ^ 40 + at0 65536 / 4096
    let fl := s [{ move (rec_ 256 512 2 0 0) (rec_ 65536 16 2 0 3) [] [] with queued := true }] [.cmd 0 4] id
    let word := s [] [.word n 1 0 .plain] id
    let node := { s [] [.launch 0 65536] id with t1 := loadBytes [] ((numCells (at0 65536) 64 (7 + 2 ^ 32 + 65544 * 2 ^ 384)).filter fun e => decide (e.2 ≠ 0)) }
    let dead := s [] [.launch 5 65536] id
    let arg := { s [] [.arg 15] fun p => { p with loading := some ({ n with argAddr := 65536 - 3840, argLines := 16 }, 9) } with t1 := [(at0 65541, 9)] }
    let f (seq : Nat) : T1Req := .flit 3 9 3 seq (.write [(1, 1)])
    let held := s [] [f 6, f 5] id
    (((got i rd).cmd 4).map (·.got)) = some [(65536, .byte 0), (65537, .byte 9)]
    ∧ (((got i { rd with dramBad := [row] }).cmd 4).map (·.got)) = some [(65536, .bad 0x80000004), (65537, .bad 0x80000004)]
    ∧ (after (exec i fl)).t1 = [(at0 65552, 1), (at0 65556, 3)] ∧ (got i fl).cmds = []
    ∧ (after (exec i word)).t1 = [(at0 65544, 1)] ∧ (after (exec i word)).here.t1Queue = []
    ∧ node.refusesNode 0 (virtualRead node 0 65536 64) = false ∧ (after (exec i node)).here.queue = [n]
    ∧ (dead.part 5).live = false ∧ ((after (exec i dead)).part 5).queue = [] ∧ (after (exec i dead)).here.t1Queue = []
    ∧ memGet (got i arg).scratch (3840 + 5) = 9
    ∧ held.inTurn (f 6) = false ∧ held.inTurn (f 5) = true ∧ answers i held held := by
  decide +kernel

/-- A later command that REL or ACQ holds back while an earlier one is in flight. -/
theorem wit_AtomicsPortsAndDrains_order :
    let sp := rec_ 256 512 2 0 0
    let k : Cmd := { move (rec_ 65536 8 1 0 3) sp [⟨[(some 65536, 256)]⟩] [] with acq := true }
    let j : Cmd := { k with id := 2 }
    let s := { engine k [] [hostPage] id with parts := [(0, lone fun c => { c with cmds := [j, k] })] }
    j ∈ (s.core 0 0).cmds ∧ j.id < k.id ∧ k.rel = true ∧ k.acq = true ∧ nextAct s 0 0 { k with acq := false } = some .memRead ∧ nextAct s 0 0 k = none := by
  decide +kernel

theorem wit_UntimedStreamsOncePerFlit :
    let st : Stream := ⟨3, 0, 0, 9, 3, true, 5, [], 0⟩
    let s (f : List Flit) := { base 5 { Part.fresh with chanTable := [(0, 2)], service := [(0, 0x8000)] } with flits := f, streams := [st] }
    let i := Instr.untimedFlitReceived 9 3 3
    let one := [Flit.write [(2 ^ 33, 1), (2 ^ 33 + 1, 2)]]
    let add := [Flit.aop (2 ^ 33) 0 4 255 0]
    let out : Stream := ⟨0, 0, 0, 9, 3, false, 7, [⟨5, 1, 0, .write []⟩, ⟨6, 1, 1, .write [(1, 1)]⟩], 4⟩
    let sent := { at_ 5 id with streams := [out], ports := [(4, ⟨true, 2, 1⟩)], adopted := [1, 2] }
    ((s one).flitPort (.write [(2 ^ 33, 1)])) = none ∧ (after (exec (i 5) (s one))).t1 = [(2 ^ 33, 1), (2 ^ 33 + 1, 2)] ∧ (after (exec (i 5) (s one))).outbox = [.ack 3 9 3 5 0]
    ∧ (after (exec (i 5) (s one))).streams = [{ st with seq := 6 }]
    ∧ (after (exec (i 5) { s add with t1 := [(2 ^ 33, 3)] })).t1 = [(2 ^ 33, 2), (2 ^ 33 + 1, 1)] ∧ (after (exec (i 5) { s add with t1 := [(2 ^ 33, 3)] })).outbox = [.ack 3 9 3 5 3]
    ∧ answers (i 6) (s one) { s one with flits := [] } ∧ answers (i 5) (s []) (s [])
    ∧ (sent.stream (sent.here.phys 0) 9 3) = some out ∧ (after (exec (.streamReplay 0 0 9 3 6) sent)).outbox = [.untimed 0 9 3 6 4 (.write [(1, 1)])]
    ∧ (s []).stream ((s []).here.phys 0) 9 2 = none ∧ answers (.streamReplay 0 0 9 2 0) (s []) (s [])
    ∧ (after (exec (.portDown 4) sent)).ports = [(4, ⟨false, 2, 1⟩)] ∧ (after (exec (.portTraining 36 1 3) sent)).ports = [(4, ⟨true, 1, 3⟩)]
    ∧ (after (exec (.portTraining 36 1 3) sent)).adopted = [2] ∧ (∀ e ∈ sent.ports, ¬ (e.2.up = true ∧ e.2.dom = 1)) := by decide +kernel

/-- A flit at the channel of a bound partition waits at its service port, and is performed and acknowledged in a window; the other ports of a
domain take its class. -/
theorem wit_UntimedStreamsOncePerFlit_ports :
    let st : Stream := ⟨3, 0, 0, 9, 3, true, 5, [], 0⟩
    let s (f : Flit) := { base 5 (alone (fun p => { p with chanTable := [(0, 0)], service := [(0, 0x8000)] }) id) with
      flits := [f], streams := [st], t1 := [(300, 3)] }
    let wr : Flit := .write [(300, 1), (301, 2)]
    let aop : Flit := .aop 300 0 4 255 0
    let i := Instr.untimedFlitReceived 9 3 3 5
    let q (f : Flit) : State := { s f with flits := [] }.onPart 0 fun p => { p with pt := 1031, t1Queue := [(0, .flit 3 9 3 5 f), (0, .flit 3 9 3 6 wr)] }
    let t (f : Flit) := after (exec (.serviceWindow 0 0) (q f))
    let two_ := { at_ 5 id with ports := [(1, ⟨true, 7, 600⟩), (2, ⟨true, 8, 600⟩)] }
    (s wr).flitPort wr = some (0, 0) ∧ (after (exec i (s wr))).t1 = [(300, 3)] ∧ (after (exec i (s wr))).outbox = []
    ∧ (after (exec i (s wr))).here.t1Queue = [(0, .flit 3 9 3 5 wr)]
    ∧ (q wr).isNear 300 = true ∧ (q wr).inTurn (.flit 3 9 3 5 wr) = true ∧ (t wr).t1 = [(300, 1), (301, 2)] ∧ (t wr).outbox = [.ack 3 9 3 5 0]
    ∧ (t wr).here.t1Queue = [(0, .flit 3 9 3 6 wr)] ∧ (t aop).t1 = [(300, 2), (301, 1)] ∧ (t aop).outbox = [.ack 3 9 3 5 3]
    ∧ (after (exec (.portTraining 4 7 1800) two_)).ports = [(1, ⟨true, 7, 1800⟩), (2, ⟨true, 8, 600⟩), (4, ⟨true, 7, 1800⟩)] := by decide +kernel

/-- Flits at the last bytes of a channel's service banks, and beyond them: one bank of 65,536 rows of 4 KiB, channel 127 the last. -/
theorem wit_UntimedStreamsOncePerFlit_beyond :
    let at_ (n m : Nat) (f : Flit) : State := { base 5 { Part.fresh with chanTable := [(0, n)], service := [(0, m)] } with
      flits := [f], streams := [⟨3, 0, 0, 9, 3, true, 5, [], 0⟩] }
    let s := at_ 127 0x8000
    let t (f : Flit) := let u := after (exec (.untimedFlitReceived 9 3 3 5) (s f)); (u.t1, u.outbox, u.streams.map fun z => z.seq)
    let top : Nat := 127 * 2 ^ 32 + 2 ^ 28
    let near (n m a : Nat) : Bool := (at_ n m (.write [])).isNear a
    t (.write [(top - 1, 7), (top, 8)]) = ([(top - 1, 7)], [.ack 3 9 3 5 0], [6]) ∧ t (.write [(top, 7)]) = ([], [.ack 3 9 3 5 0], [6])
    ∧ t (.aop (top - 4) 0 4 255 0) = ([(top - 4, 255)], [.ack 3 9 3 5 0], [6]) ∧ (t (.aop (top - 3) 0 4 255 0)).1 = [] ∧ (t (.aop (top - 3) 0 4 255 0)).2.2 = [6]
    ∧ near 127 0xC000 (top + 2 ^ 28 - 1) = true ∧ near 127 0xC000 (top + 2 ^ 28) = false ∧ near 127 0 (127 * 2 ^ 32) = false ∧ near 126 0x8000 (127 * 2 ^ 32) = false
    ∧ near 128 0x8000 (128 * 2 ^ 32) = false := by decide +kernel

/-- A write on both sides of the end of the service banks, in a window: the near part alone is written. -/
theorem wit_UntimedStreamsOncePerFlit_straddle :
    let wr : Flit := .write [(2 ^ 28 - 1, 1), (2 ^ 28, 2)]
    let aop (n : Nat) : Flit := .aop (2 ^ 28 - n) 0 4 255 0
    let q (f : Flit) : State := base 5 (alone (fun p => { p with chanTable := [(0, 0)], service := [(0, 0x8000)], pt := 1031, t1Queue := [(0, .flit 3 9 3 5 f)] }) id)
    let t (f : Flit) := after (exec (.serviceWindow 0 0) (q f))
    (t wr).t1 = [(2 ^ 28 - 1, 1)] ∧ (t wr).outbox = [.ack 3 9 3 5 0] ∧ (t (aop 4)).t1 = [(2 ^ 28 - 4, 255)] ∧ (t (aop 3)).t1 = [] ∧ (t (aop 3)).outbox.length = 1
    ∧ (t wr).here.t1Queue = [] := by decide +kernel

theorem wit_RefreshesEndAndKeepersKeep :
    let k (t : Nat) : Bank := ⟨.refreshing t, none, none, none, some 900⟩
    let s (t : Nat) := base 0 (alone (fun p => { p with banks := [(15, k t), (16, k 9999)] }) id)
    let idle := (s 0).onPart 0 fun p => { p with task := none }
    let b (t : State) (n : Nat) : Bank := t.here.bank 0 n
    b (after (exec (.refreshDone 0 0 15) (s 1024))) 15 = { k 1024 with st := .idle } ∧ b (after (exec (.refreshDone 0 0 15) (s 1024))) 16 = k 9999
    ∧ answers (.refreshDone 0 0 15) (s 1025) (s 1025) ∧ b (after (exec (.refreshKeeper 0) idle)) 16 = Bank.fresh
    ∧ answers (.refreshKeeper 0) (s 0) (s 0) ∧ answers (.maintenanceCycle 0) (s 0) (s 0) := by decide +kernel

/-- PT 1024 and D 64: the beat boundary 2048; PT 960 would name 1024 itself. -/
theorem wit_HoldsArmedRunAndEnd :
    let s (g : Part → Part) := { base 0 (alone g id) with tabor := 500 }
    let p (i : Instr) (g : Part → Part) : Part := (after (exec i (s g))).here
    let at960 : Part → Part := fun p => { p with pt := 960 }
    let held : Part → Part := fun p => { p with stops := [.hold 500, .fault] }
    let pend (b : Nat) : Part → Part := fun p => { p with hold := some (b, 256) }
    (p (.holdRequest 0 4096) id).hold = some (2048, 256 * 4096) ∧ (p (.holdRequest 0 1) at960).hold = some (1024, 256)
    ∧ (p (.holdRequest 0 1) held).holdNext = some 1 ∧ answers (.holdRequest 0 0) (s id) (s id) ∧ answers (.holdRequest 0 4097) (s id) (s id)
    ∧ (p (.holdStart 0) (pend 1024)).stops = [.hold 756] ∧ (p (.holdStart 0) (pend 1025)).stops = [] ∧ (p (.holdStart 0) id).stops = []
    ∧ (s held).here.ahead = false ∧ (p (.holdEnd 0) fun p => { p with stops := [.hold 500], holdNext := some 1 }).hold = some (2048, 256)
    ∧ answers (.holdRequest 0 1) { s id with fatal := 1 } { s id with fatal := 1 }
    ∧ (p (.holdEnd 0) held).stops = [.fault] ∧ answers (.holdEnd 0) (s fun p => { p with stops := [.hold 501] }) (s fun p => { p with stops := [.hold 501] }) := by
  decide +kernel

theorem wit_DevicesAlignAndDroop :
    let s (g : Part → Part) := { base 0 (alone (fun p => g { p with cls := 1, coreTable := [(0, 0)] }) id) with tabor := 2000 }
    let p (i : Instr) (g : Part → Part) : Part := (after (exec i (s g))).here
    let peers (l : List (Nat × Nat)) : Part → Part := fun p => { p with peers := l }
    let sync (r : Nat) (ad : List Nat) := { s id with skew := r + 2 ^ 64 - 2000, adopted := ad, ports := [(1, ⟨true, 7, 1⟩)] }
    (p (.stopNotice 0 2 1448) id).alignAt = some 2048 ∧ (p (.stopNotice 0 2 1449) id).alignAt = some 3072 ∧ (p (.stopNotice 0 2 1449) id).peers = [(2, 1449)]
    ∧ (p (.stopNotice 0 2 1449) fun p => { p with stops := [.fault] }).alignAt = none
    ∧ (p (.stopNotice 0 2 1448) fun p => { p with alignAt := some 3072 }).alignAt = some 2048
    ∧ (p (.stopNotice 0 2 1449) fun p => { p with alignAt := some 2048 }).alignAt = some 2048
    ∧ (after (exec (.stopNotice 0 2 1449) (at_ 0 id))).here.alignAt = none ∧ (s fun p => { p with stops := [.pause 2000] }).here.ahead = false
    ∧ (after (exec (.alignmentPause 0) (s fun p => { p with pauses := [(1024, 4)] }))).outbox = []
    ∧ (after (exec (.alignmentFlitSend 0) (s (peers [(1, 1700), (2, 1624)])))).outbox = [.alignFlit 0 1624]
    ∧ answers (.alignmentFlitSend 0) (s (peers [(1, 1625)])) (s (peers [(1, 1625)])) ∧ answers (.alignmentFlitSend 0) (s id) (s id)
    ∧ (let f (g : Part → Part) : List (Nat × Nat) × Option Nat × List Stop := let q := p (.alignmentFlitSend 0) g; (q.peers, q.flitTo, q.stops)
      f (peers [(1, 1700), (2, 1624)]) = ([(1, 1700)], some 1624, []) ∧ f (peers [(2, 1524)]) = ([], some 1524, [.pause 2100])
      ∧ (f fun p => { peers [(2, 1524)] p with flitTo := some 1024 }).2.1 = some 1524
      ∧ (f fun p => { peers [(2, 1524)] p with flitTo := some 1025 }).2.1 = some 1025 ∧ (f fun p => { peers [(2, 1524)] p with stops := [.hold 9] }).2.1 = none)
    ∧ (let f (pt : Nat) := (p (.stopNotice 0 2 pt) fun p => { p with stops := [.align], peers := [(2, 300)] }).alignAt
      f 424 = none ∧ f 425 = some 2048 ∧ f 1023 = some 2048 ∧ f 1024 = none)
    ∧ (p (.alignmentFlitArrival 0) fun p => { p with stops := [.align, .fault] }).stops = [.fault]
    ∧ (p (.stretchNotice 0 4) id).pauses = [(2048, 4)] ∧ (p (.alignmentPause 0) fun p => { p with pauses := [(1024, 4)] }).stops = [.pause 2004]
    ∧ (p (.alignmentPause 0) fun p => { p with pauses := [(1025, 4)] }).stops = [] ∧ (p (.alignmentPauseEnd 0) fun p => { p with stops := [.pause 2000] }).stops = []
    ∧ (s id).mayDroop = true ∧ (after (exec (.droopStretch 8 4) (s id))).stretchUntil = 2004 ∧ (after (exec (.droopStretch 8 4) (s id))).here.stops = []
    ∧ answers (.droopStretch 8 4) { s id with lastDroop := some 977 } { s id with lastDroop := some 977 }
    ∧ (after (exec (.syncFlit 7 (2 ^ 64 - 1)) (sync 5 []))).reading = 2 ^ 64 - 1 ∧ (after (exec (.syncFlit 7 9) (sync 5 []))).adopted = [7]
    ∧ (after (exec (.syncFlit 7 100) (sync 103 [7]))).reading = 103 ∧ (after (exec (.syncFlit 7 100) (sync 102 [7]))).reading = 102
    ∧ (after (exec (.syncFlit 7 100) (sync 98 [7]))).reading = 98 ∧ (after (exec (.syncFlit 7 100) (sync 97 [7]))).reading = 98 := by decide +kernel

/-- A notice that ends the alignment stop of a device whose turn has come, and of one whose turn has not; a notice in a hold, which tells the
others; a flit to a device that stays stopped; a sync flit of a domain that no port is up in. -/
theorem wit_DevicesAlignAndDroop_turns :
    let s (g : Part → Part) := base 0 (alone (fun p => g { p with cls := 1, coreTable := [(0, 0)], mates := [(2, 4, 1, 1), (3, 4, 1, 1)] }) id)
    let st (l : List Stop) (peers : List (Nat × Nat)) := s fun p => { p with stops := l, peers := peers }
    let t (pt : Nat) (u : State) : List Stop × List Out := let v := after (exec (.stopNotice 0 2 pt) u); (v.here.stops, v.outbox)
    let f (l : List Stop) : List Stop × List Out := let v := after (exec (.alignmentFlitArrival 0) (st l [])); (v.here.stops, v.outbox)
    let later : List (Nat × Nat) := [(3, 1025)]
    t 1025 (st [.align] later) = ([], []) ∧ t 1024 (st [.align] later) = ([.align], []) ∧ t 1023 (st [.align] later) = ([.align], [])
    ∧ t 1025 (st [.align] [(3, 1024)]) = ([.align], []) ∧ t 1025 (st [.align] []) = ([.align], []) ∧ t 1025 (st [.fault] later) = ([.fault], [])
    ∧ t 1025 (st [.hold 50] later) = ([.hold 50], [.stopNotice 0 1024]) ∧ t 1024 (st [.hold 50] later) = ([.hold 50, .align], [.stopNotice 0 1024])
    ∧ Stop.announced (.hold 50) = false ∧ Stop.announced .align = true ∧ Stop.announced .fault = true
    ∧ f [.align] = ([], []) ∧ f [.align, .fault] = ([.fault], [.stopNotice 0 1024])
    ∧ (let u := { s id with ports := [(1, ⟨false, 7, 1⟩)], adopted := [7] }; answers (.syncFlit 7 9) u u) := by decide +kernel

/-- An excused notice, of this PT and of another; a device that tells that it is ready, and one that goes with those at its PT (02_time R28). -/
theorem wit_DevicesAlignAndDroop_ready :
    let s (g : Part → Part) := base 0 (alone (fun p => g { p with cls := 1, coreTable := [(0, 0)], mates := [(2, 4, 1, 1), (3, 4, 1, 1)], stops := [.align] }) id)
    let ex (pt : Nat) := (after (exec (.stopNotice 0 2 pt) (s fun p => { p with excused := [(2, 1000)], peers := [(3, 1024)] }))).here
    let at_ (peers : List (Nat × Nat)) (ready : Option Nat) (l : List Nat) := s fun p => { p with peers := peers, readyAt := ready, readies := l }
    let level : List (Nat × Nat) := [(2, 1024), (3, 1030)]
    let t (u : State) : List Stop × Option Nat × List Out := ((tellMove u 0).map fun v => (v.here.stops, v.here.readyAt, v.outbox)).getD ([.fail], none, [])
    (ex 1000).excused = [] ∧ (ex 1000).peers = [(3, 1024)] ∧ (ex 1001).peers = [(2, 1001), (3, 1024)] ∧ (ex 1001).stops = [.align]
    ∧ (at_ level none []).here.isBound = true ∧ (at_ level none []).here.untold = false ∧ (at_ level none []).here.loaded 0 = false
    ∧ t (at_ level none []) = ([.align], some 600, [.ready 0]) ∧ t (at_ [(2, 1024)] none []) = ([.fail], none, [])
    ∧ t (at_ level (some 0) [2]) = ([], none, []) ∧ (t (at_ level (some 1) [2])).1 ≠ [] ∧ (t (at_ level (some 0) [3])).1 ≠ []
    ∧ t (at_ [(2, 1025), (3, 1030)] none []) = ([], none, []) ∧ (t (at_ [(2, 1023), (3, 1030)] (some 0) [2])).1 ≠ []
    ∧ (at_ [(2, 1025), (3, 1030)] none []).here.alone = true ∧ (at_ level none []).here.alone = false := by decide +kernel

/-- A flit sent up to a hold or a pause, and not past it; the pauses and debts of a device whose others have all stopped; an alignment stop; what a
stretch costs (02_time R28, R30). -/
theorem wit_DevicesAlignAndDroop_clear :
    let s (g : Part → Part) := { base 0 (alone (fun p => g { p with cls := 1, coreTable := [(0, 0)], mates := [(2, 4, 1, 1), (3, 4, 1, 1)], peers := [(2, 1624)] }) id) with tabor := 2000 }
    let all : Part → Part := fun p => { p with peers := [(2, 1624), (3, 1700)] }
    let i := Instr.alignmentFlitSend 0
    let t (g : Part → Part) := after (exec i (s g))
    let hold (n : Nat) : Part → Part := fun p => { p with hold := some (n, 1) }
    let pause (n : Nat) : Part → Part := fun p => { p with pauses := [(n, 4)], debts := [(2048, 3)] }
    let u := beginAlign 0 (s fun p => { pause 1024 p with alignAt := some 1024 })
    let lose (g : Part → Part) : Nat := (s g).here.lose.losing
    (t (hold 1624)).outbox = [.alignFlit 0 1624] ∧ answers i (s (hold 1623)) (s (hold 1623)) ∧ (t (pause 1624)).outbox = [.alignFlit 0 1624]
    ∧ answers i (s (pause 1623)) (s (pause 1623)) ∧ (t (pause 1624)).here.debts = [(2048, 3)] ∧ (t (pause 1624)).here.pauses = [(1624, 4)]
    ∧ (t fun p => all (pause 1624 p)).here.pauses = [] ∧ (t fun p => all (pause 1624 p)).here.debts = []
    ∧ u.here.stops = [.align] ∧ u.here.pauses = [] ∧ u.here.debts = [(2048, 3)] ∧ u.here.alignAt = none ∧ u.outbox = [.stopNotice 0 1024]
    ∧ lose id = 1 ∧ lose all = 0 ∧ (lose fun p => { p with stops := [.align] }) = 0 ∧ (lose fun p => { p with cls := 0 }) = 0 := by decide +kernel

/-- A fault of each kind with its handler due; a failing task whose commands are drained, and one whose are not. -/
theorem wit_FaultsHandled :
    let h : Handle := ⟨.miss, false, false, 1, 0, 0, 0x40, 0⟩
    let g : Page := ⟨0x40, 1, 0, true, true, true, 0x1C0⟩
    let f (code detail : Nat) : FRec := { FRec.none with code := code, detail := detail, stoppt := 1024 }
    let s (code : Nat) := base 0 (alone (fun p => { p with pages := [g], stops := [.fault, .rail], handlerAt := some 1, frec := f code 5 })
      fun c => { c with hregs := [(5, h)] })
    let i := Instr.faultHandler 0
    let doneAt : Part → Part := fun p => { p with
      pages := [hostPage], stops := [.fault], failing := some (0x40, 9), qfrozen := true
      task := p.task.map fun t => { t with node := { t.node with done := 65544 } } }
    let fin (f : Core → Core) := base 0 (alone doneAt f)
    let busy : Core → Core := fun c => { c with cmds := [move 0 0 [] []] }
    (s 0x21).here.handlerAt ≠ none ∧ (got i (s 0x21)).h 5 = g.handle ∧ (after (exec i (s 0x21))).here.stops = [.rail]
    ∧ (s 0x21).here.ahead = false ∧ (after (exec i ((s 0x72).onPart 0 fun p => { p with features := 6 }))).outbox = [.msixVf 0, .msixPf 0 1]
    ∧ (after (exec i (s 0x72))).outbox = [.msixPf 0 1] ∧ (after (exec i (s 0x72))).here.stops = [.fault, .rail] ∧ (after (exec i (s 0x72))).here.handlerAt = none
    ∧ (after (exec i (s 0x40))).here.failing = some (0x40, 0) ∧ (after (exec i (s 0x40))).here.qfrozen = true
    ∧ (fin id).here.drained = true ∧ (after (exec i (fin id))).host = [(5 * 65536 + 8, 0x10), (5 * 65536 + 11, 0x80), (5 * 65536 + 12, 0x40)]
    ∧ (after (exec i (fin id))).here.task = none ∧ (got i (fin id)).dom 0 = .off ∧ (after (exec i (fin id))).here.stops = []
    ∧ (fin busy).here.drained = false ∧ answers i (fin busy) (fin busy) ∧ answers i { s 0x40 with fatal := 2 } { s 0x40 with fatal := 2 }
    ∧ (after (exec .railError (s 0x40))).fatal = 1 ∧ (after (exec .railError (s 0x40))).here.stops = [.fault, .rail, .rail]
    ∧ (after (exec .belfryPanic (s 0x40))).fatal = 2 ∧ (after (exec .belfryPanic (s 0x40))).here.handlerAt = none := by decide +kernel

/-- A miss resolved on a device whose turn has not come; a failing task whose completion word lies behind a T1 page. -/
theorem wit_FaultsHandled_devices :
    let g : Page := ⟨0x40, 1, 0, true, true, true, 0x1C0⟩
    let t1 : Page := ⟨1, 0, 1, true, true, true, 5⟩
    let s (peers : List (Nat × Nat)) := base 0 (alone (fun p => { p with
      cls := 1, coreTable := [(0, 0)], mates := [(2, 4, 1, 1)], peers := peers, pages := [g], stops := [.fault], handlerAt := some 1
      frec := { FRec.none with code := 0x21, detail := 5, stoppt := 1024 } }) fun c => { c with hregs := [(5, ⟨.miss, false, false, 1, 0, 0, 0x40, 0⟩)] })
    let stops (l : List (Nat × Nat)) : List Stop := (after (exec (.faultHandler 0) (s l))).here.stops
    let fin := base 0 (alone (fun p => { p with pages := [t1], stops := [.fault], failing := some (0x40, 9), qfrozen := true
                                                task := p.task.map fun t => { t with node := { t.node with done := 65544 } } }) id)
    let u := after (exec (.faultHandler 0) fin)
    (s [(2, 1025)]).here.alone = true ∧ stops [(2, 1025)] = [] ∧ stops [(2, 1024)] = [.align] ∧ (s []).here.turn = false ∧ stops [] = [.align] ∧ stops [(2, 1023)] = [.align]
    ∧ fin.here.drained = true ∧ fin.here.isBound = true ∧ u.here.task = none ∧ u.here.qfrozen = true ∧ u.host = []
    ∧ (u.here.t1Queue.map fun r => (r.1, (T1Req.pending r).map (·.done))) = [(0, some 65544)] := by decide +kernel

/-- A dependent of a task that has stopped with a fault, loaded and at its start; one that depends on it through another; another node; and one whose
partition's stop is a miss that may be resolved (15_tasks R237). -/
theorem wit_FaultsHandled_dependents :
    let node (n : Nat) (deps : List Nat) : Node := ⟨n, 1, 0, 0, deps, 0⟩
    let failing (code : Nat) : Part := alone (fun p => { p with stops := [.fault], frec := { FRec.none with code := code }, queue := [node 5 [1]] }) id
    let loading (deps : List Nat) : Part := { lonePart [] 3 with pt := 0, task := none, loading := some (node 9 deps, 0) }
    let s (code : Nat) (deps : List Nat) : State := { at_ 0 id with parts := [(0, failing code), (1, loading deps)] }
    let may (code : Nat) (deps : List Nat) : Bool := (s code deps).mayStart 1
    (s 0x40 []).here.live = true ∧ (s 0x40 []).here.task.isSome = true ∧ may 0x40 [] = true ∧ may 0x40 [1] = false ∧ may 0x40 [5] = false ∧ may 0x40 [7] = true
    ∧ may 0x21 [1] = true ∧ may 0x72 [1] = true := by decide +kernel

theorem wit_PagesMoveAndUnmap :
    let g : Page := ⟨0x40, 0, 0, true, false, true, 0x1C0⟩
    let s (b : List (Nat × Bank)) := { base 0 (alone (fun p => { p with pages := [g], freeFrames := [(65535, 0)], banks := b })
      fun c => { c with tlb := [g], hregs := [(5, g.handle), (6, ⟨.valid, true, true, 0, 0, 0, 0x41, 9⟩)] }) with
        dram := [(3 * 2 ^ 28 + 0x1C0 * 2 ^ 12 + 5, 9)], towerTlb := [(0, [(0, g)])] }
    let t := after (exec (.pageMove 0 0x40 0 65535) (s []))
    let u := after (exec (.pageMove 0 0x40 1 0) (s []))
    let b : List (Nat × Bank) := [(3, ⟨.active 0x1C0 true, none, none, none, none⟩)]
    ((s []).here.pages.filter fun x => decide (x.va = 0x40)) = [g] ∧ (s []).here.pinned g = false ∧ g.row + pageUnits g.size ≤ 65536
    ∧ t.here.pages = [{ g with phys := 65535 }] ∧ t.dram = [(3 * 2 ^ 28 + 65535 * 2 ^ 12 + 5, 9)] ∧ t.here.freeFrames = [(0x1C0, 0)]
    ∧ (t.core 0 0).h 5 = ⟨.miss, false, false, 0, 0, 0, 0x40, 0⟩ ∧ (t.core 0 0).h 6 = ⟨.valid, true, true, 0, 0, 0, 0x41, 9⟩ ∧ (t.core 0 0).tlb = []
    ∧ u.here.pages = [] ∧ (u.core 0 0).tlb = [] ∧ u.towerTlb = [(0, [])]
    ∧ (s b).here.pinned g = true ∧ answers (.pageMove 0 0x40 0 65535) (s b) (s b)
    ∧ (after (exec (.pageMove 0 0x40 1 0) (s b))).here.pages = [] ∧ (after (exec (.pageMove 0 0x40 1 0) (s b))).here.banks = b := by decide +kernel

/-- A page of host memory moves with its bytes; its handle becomes MISS. -/
theorem wit_PagesMoveAndUnmap_tiers :
    let s := { base 0 (alone (fun p => { p with pages := [hostPage] }) fun c => { c with hregs := [(5, hostPage.handle)] }) with
      host := [(5 * 65536 + 3, 7)] }
    let t := after (exec (.pageMove 0 1 0 9) s)
    pageLegal s.here.channels { hostPage with phys := 9 } = true ∧ t.here.pages = [{ hostPage with phys := 9 }] ∧ memGet t.host (9 * 65536 + 3) = 7
    ∧ (t.core 0 0).h 5 = ⟨.miss, false, false, 0, 0, 0, 1, 0⟩ := by decide +kernel

/-- A T1 page moves within the service banks of its channel, here one bank of 4,096 units for a page of 64, and not beyond them. -/
theorem wit_PagesMoveAndUnmap_room :
    let g : Page := ⟨0, 1, 1, true, true, true, 0⟩
    let s (m : Nat) := base 0 (alone (fun p => { p with pages := [g], service := [(0, m)] }) id)
    let t (m n : Nat) := (after (exec (.pageMove 0 0 0 n) (s m))).here.pages
    (s 0).here.task.isSome = true ∧ t 0x8000 4032 = [{ g with phys := 4032 }] ∧ t 0xC000 8128 = [{ g with phys := 8128 }]
    ∧ answers (.pageMove 0 0 0 4096) (s 0x8000) (s 0x8000) ∧ answers (.pageMove 0 0 0 64) (s 0) (s 0) := by decide +kernel

/-! ### Witnesses: tasks, contexts, the host's registers -/

/-- An image of one core without code, or of `n` cores. -/
def image (n : Nat) : Image := ⟨n, 1, 0, 4, 0, none, false, 0, [⟨0, n - 1, [], 0, 0, []⟩], [], []⟩

/-- A live, bound, idle partition with features in force, and what `g` adds. -/
def idlePart (g : Part → Part) : Part := g (alone (fun p => { p with task := none, features := 1, pages := [hostPage] }) fun c => { c with cond := .idle })

/-- The bytes of a task node: id, image, reserved bit, completion address. -/
def nodeBytes (id image reserved done : Nat) : List Byte := leBytes 64 (id + image * 2 ^ 32 + reserved * 2 ^ 136 + done * 2 ^ 384)

/-- The package with a node in host memory at 4096 and image 1, of one core. -/
def queueing (bytes : List Byte) (g : Part → Part) : State :=
  { base 0 (idlePart g) with host := memWrite [] 4096 bytes, images := [(1, image 1)], imageTenant := [(1, 0)], tabor := 50 }

/-- A dependent that is loading when its node fails (15_tasks R237). -/
theorem wit_FaultsHandled_loading :
    let n : Node := ⟨7, 1, 0, 0, [], 65544⟩
    let failing := alone (fun p => { p with
      pages := [hostPage], stops := [.fault], failing := some (0x40, 9), qfrozen := true, task := p.task.map fun t => { t with node := n } }) id
    let s (dep : Nat) := { base 0 failing with parts := [(0, failing), (1, idlePart fun p => { p with loading := some (⟨9, 1, 0, 0, [dep], 65552⟩, 50) })] }
    let t (dep : Nat) := (after (exec (.faultHandler 0) (s dep))).part 1
    (s 7).here.drained = true ∧ (t 7).loading = none ∧ (t 7).task = none ∧ (t 8).loading ≠ none := by decide +kernel

theorem wit_NodesAcceptedAndTasksRun :
    let n (id image : Nat) : Node := ⟨id, image, 0, 0, [], 65544⟩
    let q := Instr.qsubWrite 0 4096
    let ok := queueing (nodeBytes 7 1 0 65544) id
    let bad := queueing (nodeBytes 7 1 1 65544) id
    let full := queueing (nodeBytes 700 1 0 65544) fun p => { p with queue := (List.range 256).map fun i => n i 1 }
    let cold := queueing (nodeBytes 7 1 0 65544) fun p => { p with features := 0 }
    let word (s : State) : Nat := leNat (memRead s.host (5 * 65536 + 8) 8)
    let launch (l : List (Nat × Nat × Nat × Nat)) := queueing [] fun p => { p with pages := [hostPage, ⟨0, 0, 2, true, true, true, 0⟩] }.onCore 0 fun c => { c with launches := l }
    let addr : State := { launch [(0, 0, 4096, 50)] with host := memWrite [] 4096 (nodeBytes 7 1 0 65544) }
    let join := queueing [] fun p => { p with queue := [n 7 1, n 8 0] }
    let disp := queueing [] fun p => { p with queue := [n 7 1, n 9 1] }
    let load (pt t : Nat) := queueing [] fun p => { p with pt := pt, loading := some (n 7 1, t) }
    let run (c : Cond) := { base 0 (alone (fun p => { p with pages := [hostPage], task := p.task.map fun t => { t with node := n 7 1 } }) fun x => { x with cond := c }) with tabor := 50 }
    (ok.refusesNode 0 (leNat (memRead ok.host 4096 64)) = false ∧ (after (exec q ok)).here.queue = [n 7 1])
    ∧ (bad.refusesNode 0 (leNat (memRead bad.host 4096 64)) = true ∧ word (after (exec q bad)) = 0x80000012 ∧ (after (exec q bad)).here.queue = [])
    ∧ (full.refusesNode 0 (leNat (memRead full.host 4096 64)) = false ∧ full.here.pendingNodes.length = 256 ∧ word (after (exec q full)) = 0x80000013)
    ∧ answers q cold cold ∧ (after (exec (.launchNodeRead 0 0) addr)).here.queue = [n 7 1] ∧ (got (.launchNodeRead 0 0) addr).launches = []
    ∧ answers (.launchNodeRead 0 0) (launch [(0, 0, 4096, 51)]) (launch [(0, 0, 4096, 51)])
    ∧ join.nextNode 0 = some (n 8 0) ∧ (after (exec (.taskDispatch 0) join)).here.queue = [n 7 1] ∧ word (after (exec (.taskDispatch 0) join)) = 1
    ∧ disp.refusesImage disp.here (image 1) = false ∧ (after (exec (.taskDispatch 0) disp)).here.queue = [n 9 1]
    ∧ ((after (exec (.taskDispatch 0) disp)).here.loading.map fun l => l.1) = some (n 7 1)
    ∧ ((after (exec (.taskStart 0) (load 1024 50))).here.task.map (·.t0)) = some 1024 ∧ (got (.taskStart 0) (load 1024 50)).cond = .running
    ∧ (after (exec (.taskStart 0) (load 1025 50))).here.task = none ∧ (after (exec (.taskStart 0) (load 1025 50))).here.loading = some (n 7 1, 50)
    ∧ (run .ended).here.finished = true ∧ (after (exec (.taskCompletion 0) (run .ended))).here.task = none ∧ word (after (exec (.taskCompletion 0) (run .ended))) = 1
    ∧ (got (.taskCompletion 0) (run .ended)).dom 0 = .off ∧ answers (.taskCompletion 0) (run .running) (run .running) := by decide +kernel

/-- A node refused and a task done behind a T1 page; a LAUNCH there, and one to a queue whose partition has gone. -/
theorem wit_NodesAcceptedAndTasksRun_ports :
    let g : Page := ⟨1, 0, 1, true, true, true, 5⟩
    let n : Node := ⟨7, 1, 0, 0, [], 65544⟩
    let s (bytes : List Byte) := queueing bytes fun p => { p with pages := [g] }
    let bad := s (nodeBytes 7 1 1 65544)
    let launch (q a : Nat) := (queueing [] fun p => { p with pages := [g] }).onPart 0 fun p => p.onCore 0 fun c => { c with launches := [(0, q, a, 50)] }
    let run := base 0 (alone (fun p => { p with pages := [g], task := p.task.map fun t => { t with node := n } }) fun x => { x with cond := .ended })
    let t := after (exec (.taskCompletion 0) run)
    bad.refusesNode 0 (leNat (memRead bad.host 4096 64)) = true ∧ (after (exec (.qsubWrite 0 4096) bad)).here.t1Queue = [(0, .word n 0x80000012 0 .refused)]
    ∧ (launch 0 65536).here.portOf 65536 = some 0 ∧ (after (exec (.launchNodeRead 0 0) (launch 0 65536))).here.t1Queue = [(0, .launch 0 65536)]
    ∧ (launch 9 0).here.portOf 0 = none ∧ ((launch 9 0).part 9).live = false ∧ (got (.launchNodeRead 0 0) (launch 9 0)).launches = []
    ∧ ((after (exec (.launchNodeRead 0 0) (launch 9 0))).part 9).queue = []
    ∧ run.here.finished = true ∧ run.here.isBound = true ∧ t.here.task = none ∧ t.here.t1Queue = [(0, .word n 1 0 .task)] ∧ t.host = []
    ∧ t.here.pendingNodes = [n] ∧ (t.core 0 0).dom 0 = .off := by decide +kernel

/-- Images that a partition of two devices takes and refuses; a start that waits until every device is loaded. -/
theorem wit_NodesAcceptedAndTasksRun_devices :
    let s (ports : List (Nat × Port)) (mates : List (Nat × Nat × Nat × Nat)) (loads : List (Nat × Nat)) (own : Option Nat) := { base 0 (idlePart fun p => { p with
      cls := 1, cores := 4, channels := 1, coreTable := [(0, 0), (1, 1)], mates := mates, loads := loads, loadedAt := own, pt := 2048
      loading := some (⟨7, 1, 0, 0, [], 65544⟩, 0) }) with images := [(1, image 1)], ports := ports }
    let up : List (Nat × Port) := [(3, ⟨true, 7, 600⟩)]
    let same : List (Nat × Nat × Nat × Nat) := [(2, 4, 1, 1)]
    let im (cls : Nat) (core : Nat) : Image := { image 4 with latencyClass := cls, sections := [⟨0, 1, [0x20, 0x84000000 + core * 2 ^ 10, 0], 0, 0, []⟩, ⟨2, 3, [], 0, 0, []⟩] }
    let no (s : State) (m : Image) : Bool := s.refusesImage s.here m
    let a := s up same [] none
    let started (loads : List (Nat × Nat)) (own : Option Nat) : Bool := (after (exec (.taskStart 0) (s up same loads own))).here.task.isSome
    no a (im 1 1) = false ∧ no a (im 0 1) = true ∧ no a (im 1 2) = true ∧ no a (im 1 4) = false
    ∧ no (s [(3, ⟨true, 7, 1800⟩)] same [] none) (im 1 1) = true ∧ no (s [(3, ⟨true, 0, 600⟩)] same [] none) (im 1 1) = true
    ∧ no (s up [(2, 5, 1, 1)] [] none) (im 1 1) = true
    ∧ started [(2, 2048)] (some 2048) = true ∧ started [(2, 2049)] (some 2048) = false ∧ started [(2, 2048)] (some 2049) = false
    ∧ started [] (some 1000) = false ∧ started [(2, 1000)] none = false := by decide +kernel

/-- QSUB under a commit that waits; service banks added where T1 pages need them; the report that loading has ended. -/
theorem wit_NodesAcceptedAndTasksRun_service :
    let late := queueing (nodeBytes 7 1 0 65544) fun p => { p with features := 0, featuresNext := some 1 }
    let t1 (size va : Nat) : Page := ⟨va, size, 1, true, true, true, va⟩
    let p (l : List Page) : Part := idlePart fun p => { p with pages := l }
    let mask (l : List Page) : Nat := (p l).serviceOf { image 4 with service := [2] } 0
    let s := base 0 (idlePart fun p => { p with cls := 1, coreTable := [(0, 0)], mates := [(2, 4, 1, 1)], loading := some (⟨7, 1, 0, 0, [], 65544⟩, 0) })
    let u := (tellMove s 0).map fun t => (t.here.loadedAt, t.outbox)
    (after (exec (.qsubWrite 0 4096) late)).here.queue.length = 1 ∧ mask [] = 2 ∧ mask [t1 2 0] = 2 ∧ mask [t1 2 0, t1 0 4096] = 0x8002
    ∧ mask [t1 3 0] = 0xFFFF ∧ s.here.loaded 0 = true ∧ u = some (some 1624, [.loaded 0 1624]) := by decide +kernel

/-- A bank that the loader makes a service bank keeps no row of T0, and the bytes of T1 past the service banks are gone; a node that a failure
dooms does not start (01_device R11; 09_memory R132; 15_tasks R237). -/
theorem wit_NodesAcceptedAndTasksRun_loader :
    let n (id : Nat) (deps : List Nat) : Node := ⟨id, 1, 0, 0, deps, 65544⟩
    let bank : Nat := 2 ^ 28
    let s : State := { base 0 (idlePart fun p => { p with channels := 1, chanTable := [(0, 3)], pages := [] }) with
      dram := [(3 * 2 ^ 32 + bank - 1, 1), (3 * 2 ^ 32 + bank, 2), (3 * 2 ^ 32 + 2 * bank, 3), (4 * 2 ^ 32 + bank, 4)]
      t1 := [(3 * 2 ^ 32 + bank - 1, 5), (3 * 2 ^ 32 + bank, 6), (4 * 2 ^ 32 + bank, 7)] }
    let u := setService 0 { image 4 with service := [2] } s
    let failing : Part := alone (fun p => { p with stops := [.fault], frec := { FRec.none with code := 0x40 }, queue := [n 5 [1]] }) id
    let load (deps : List Nat) : State := { queueing [] id with parts := [(0, idlePart fun p => { p with loading := some (n 7 deps, 50) }), (1, failing)] }
    let started (deps : List Nat) : Bool := (after (exec (.taskStart 0) (load deps))).here.task.isSome
    tget 0 u.here.service 0 = 2 ∧ u.dram = [(3 * 2 ^ 32 + bank - 1, 1), (3 * 2 ^ 32 + 2 * bank, 3), (4 * 2 ^ 32 + bank, 4)]
    ∧ u.t1 = [(3 * 2 ^ 32 + bank - 1, 5), (4 * 2 ^ 32 + bank, 7)] ∧ (load []).failedIds = [1] ∧ started [] = true ∧ started [6] = true
    ∧ started [1] = false ∧ started [5] = false ∧ (after (exec (.taskStart 0) (load [5]))).here.loading = some (n 7 [5], 50) := by decide +kernel

/-- A task whose park deadline is 1024, and one that is not clampable. -/
theorem wit_PreemptionsFreeze :
    let s (clampable : Option Nat) (c : Cond) (g : Part → Part) := { base 0 (alone (fun p =>
      g { p with task := p.task.map fun t => { t with clampable := clampable } }) fun x => { x with cond := c }) with tabor := 90 }
    let p (i : Instr) (s : State) : Part := (after (exec i s)).here
    let r (b : Option Nat) (f : Option Nat) (n : Nat) : Part → Part := fun p => { p with clampOn := true, preempt := some ⟨b, f, n, false, none⟩ }
    let frozen (b : Option Nat) (f : Option Nat) (n : Nat) (parked : Bool) : Option Preempt := some ⟨b, f, n, parked, some 90⟩
    let due (b : Nat) : Part → Part := fun p => { p with preempt := some ⟨some b, none, 0, false, none⟩ }
    let off := { s none .idle id with parts := [(0, idlePart id)] }
    (p (.preemptionRequest 0 0) (s (some 1024) .running id)).preempt = some ⟨some 2048, none, 0, false, none⟩
    ∧ (p (.preemptionRequest 0 5000) (s none .running id)).preempt = some ⟨none, some 5000, 0, false, none⟩
    ∧ (p (.preemptionRequest 0 0) (s none .running id)).preempt = some ⟨none, some 1088, 0, false, none⟩
    ∧ (p (.preemptionRequest 0 0) off).resid = .switchedOut ∧ answers (.preemptionRequest 0 0) { off with fatal := 1 } { off with fatal := 1 }
    ∧ (let u := s none .running (r none (some 1025) 0); answers (.preemptionRequest 0 0) u u)
    ∧ (p (.parkFreeze 0) (s (some 1024) .parked id)).preempt = some ⟨none, none, 0, true, some 90⟩
    ∧ (p (.clampEffect 0) (s (some 1024) .running (due 1024))).clampOn = true ∧ (p (.clampEffect 0) (s (some 1024) .running (due 1025))).clampOn = false
    ∧ (p (.parkFreeze 0) (s (some 1024) .parked (r (some 0) none 0))).stops = [.preempt]
    ∧ (p (.parkFreeze 0) (s (some 1024) .parked (r (some 0) none 0))).preempt = frozen (some 0) none 0 true
    ∧ answers (.parkFreeze 0) (s (some 1024) .running (r (some 0) none 0)) (s (some 1024) .running (r (some 0) none 0))
    ∧ (p (.parkDeadline 0) (s (some 1024) .running (r (some 0) none 0))).preempt = frozen (some 0) none 0 false
    ∧ (p (.parkDeadline 0) (s (some 1034) .running (r (some 0) none 10))).preempt = frozen (some 0) none 10 false
    ∧ answers (.parkDeadline 0) (s (some 1025) .running (r (some 0) none 0)) (s (some 1025) .running (r (some 0) none 0))
    ∧ (p (.forcedStop 0) (s none .running (r none (some 1024) 0))).preempt = frozen none (some 1024) 0 false
    ∧ answers (.forcedStop 0) (s none .running (r none (some 1025) 0)) (s none .running (r none (some 1025) 0)) := by decide +kernel

/-- CLAMP in effect, every core ended, and an engine command in flight: PT freezes all the same (16_faults R251). -/
theorem wit_PreemptionsFreeze_ended :
    let s (on : Bool) := { base 0 (alone (fun p => { p with clampOn := on, preempt := some ⟨some 0, none, 0, false, none⟩ })
      fun x => { x with cond := .ended, cmds := [move 0 0 [] []] }) with tabor := 90 }
    (after (exec (.parkFreeze 0) (s true))).here.preempt = some ⟨some 0, none, 0, true, some 90⟩ ∧ answers (.parkFreeze 0) (s false) (s false) := by decide +kernel

/-- The start of a task comes before its forced stop, which is taken in the cycle of the start (16_faults R252). -/
theorem wit_PreemptionsFreeze_start :
    let forced : Part → Part := fun p => { p with preempt := some ⟨none, some 1024, 0, false, none⟩ }
    let s := queueing [] fun p => { forced p with loading := some (⟨7, 1, 0, 0, [], 65544⟩, 50) }
    let run := base 0 (alone forced id)
    let t := after (exec (.taskStart 0) s)
    s.mayStart 0 = true ∧ limitMove s 0 9 = some (.run (.taskStart 0) (s.atStage 0 (.limits 10))) ∧ limitMove s 0 12 = none
    ∧ limitMove run 0 12 = some (.run (.forcedStop 0) (run.atStage 0 (.limits 13))) ∧ (limitMove t 0 12).isSome = true := by
  decide +kernel

theorem wit_ContextsSavedAndResumed :
    let frozen : Part → Part := fun p => { p with coreTable := [], stops := [.preempt], preempt := some ⟨none, some 9, 0, false, some 7⟩ }
    let e : Pend := ⟨2000, 1000, 1, 0, .reg (.s 1) 5⟩
    let s := base 0 (alone frozen fun c => { c with pend := [e], vregs := [(1, 5)] })
    let busy := base 0 (alone frozen fun c => { c with cmds := [move 0 0 [] []] })
    let away (f : Core → Core) := base 0 (alone (fun p => { frozen p with resid := .switchedOut, stops := [], chanTable := [], channels := 2 }) f)
    let r (f : Core → Core) := after (exec (.resume 0) (away f))
    let parked : Core → Core := fun c => { c with cond := .parked, parkAt := 44, next := 1, pend := [e] }
    let ch := { base 0 (alone (fun p => { p with tenant := 2, resid := .switchedOut }) id) with
      dram := [(5, 1), (3 * 2 ^ 32 + 7, 2), (4 * 2 ^ 32, 3)], t1 := [(3 * 2 ^ 32, 9)], chanTenant := [(3, 1)] }
    let t := after (exec (.contextSave 0) s)
    let c := after (exec (.channelReassignment 3 0) ch)
    s.here.drained = true ∧ t.here.resid = .switchedOut ∧ t.here.pt = 1024 ∧ (t.core 0 0).pend = [e] ∧ (t.core 0 0).v 1 = 5
    ∧ busy.here.drained = false ∧ answers (.contextSave 0) busy busy ∧ answers (.contextSave 0) (at_ 0 id) (at_ 0 id)
    ∧ (away id).resumable 0 = true ∧ (away id).here.waiting = false ∧ (r id).here.resid = .bound 0 ∧ (r id).here.preempt = none ∧ ((r id).core 0 0).cond = .running
    ∧ ((r parked).core 0 0).next = 44 ∧ ((r parked).core 0 0).pend = [e]
    ∧ (s.resumable 0 = false ∧ answers (.resume 0) s s)
    ∧ (3 ∉ ch.usedChannels) ∧ tget 2 ch.chanTenant 3 ≠ 2 ∧ c.dram = [(5, 1), (4 * 2 ^ 32, 3)] ∧ c.t1 = [] ∧ c.chanTenant = [(3, 2)]
    ∧ (let u := ch.onPart 0 fun p => { p with resid := .bound 0, chanTable := [(0, 3)] }
       3 ∈ u.usedChannels ∧ answers (.channelReassignment 3 0) u u)
    ∧ (let u := { ch with chanTenant := [(3, 2)] }
       (after (exec (.channelReassignment 3 0) u)).dram = u.dram ∧ (after (exec (.channelReassignment 3 0) u)).t1 = u.t1) := by decide +kernel

/-- The instruction store is read again at resumption: its words, within the limit, and no error of a word. -/
theorem wit_ContextsSavedAndResumed_store :
    let c (f : Core → Core) := base 0 (alone (fun p => { p with
      coreTable := [], preempt := some ⟨none, some 9, 0, false, some 7⟩, resid := .switchedOut, chanTable := [], channels := 2 }) f)
    let s := { c fun c => { c with store := [(0, 9)], limit := 2, bad := [(3, 0), (4, 65)] } with
      images := [(1, ⟨1, 1, 0, 4, 0, none, false, 0, [⟨0, 0, [7, 8, 9], 0, 0, []⟩], [], []⟩)] }
    let t := after (exec (.resume 0) s)
    s.resumable 0 = true ∧ (s.here.task.map (·.image)) = some 1 ∧ (t.core 0 0).store = codeTable [7, 8] ∧ (t.core 0 0).bad = [(4, 65)] := by decide +kernel

/-- Clamp records with one saved kI and with two, of this device's cores and of another's: every later pre-emption is forced (08_loops R121). -/
theorem wit_ContextsSavedAndResumed_forced :
    let r (ki : Nat) : Option ClampRec := some ⟨9, BitVec.ofNat 64 ki, 2, 3, 4⟩
    let s (a b : Nat) (away : List (Nat × DWord)) := base 0 (alone (fun p => { p.onCore 1 (fun c => { c with clamp := r b }) with
      coreTable := [], preempt := some ⟨none, some 9, 0, false, some 7⟩, resid := .switchedOut, chanTable := [], channels := 2, awayKi := away }) fun c => { c with clamp := r a })
    let f (a b : Nat) (away : List (Nat × DWord)) := (after (exec (.resume 0) (s a b away))).here.forceAlways
    (s 5 5 []).resumable 0 = true ∧ f 5 5 [] = false ∧ f 5 6 [] = true ∧ f 5 5 [(3, 5)] = false ∧ f 5 5 [(3, 6)] = true := by decide +kernel

/-- A context keeps a handle's place and not its row, and an XLT in flight its address alone (10_translation R154); resumption on a channel takes
T0 rows out of service banks, and T1 bytes past them; each thing that it needs is missing once. -/
theorem wit_ContextsSavedAndResumed_physical :
    let frozen : Part → Part := fun p => { p with coreTable := [], stops := [.preempt], preempt := some ⟨none, some 9, 0, false, some 7⟩ }
    let h : Handle := ⟨.valid, true, true, 2, 1, 3, 4, 5⟩
    let e (y : Handle) : Pend := ⟨2000, 1000, 0, 0, .xlt 6 77 y⟩
    let s := base 0 (alone frozen fun c => { c with hregs := [(5, h)], pend := [e h] })
    let t := after (exec (.contextSave 0) s)
    let away (g : Part → Part) : State := base 0 (alone (fun p => g { frozen p with resid := .switchedOut, stops := [], channels := 1, pages := [], service := [(0, 1)] }) id)
    let full : State := { away id with dram := [(5, 1), (2 ^ 28, 2)], t1 := [(5, 3), (2 ^ 28 - 1, 4), (2 ^ 28, 5)], chanTenant := (List.range 128).map fun c => (c, 0) }
    let u := after (exec (.resume 0) full)
    let takes (g : Part → Part) : Bool := decide ((after (exec (.resume 0) (away g))).here.isBound = true)
    let busy (g : Part → Part) : Bool := let s := { away id with parts := [(0, (away id).here), (1, alone g id)] }; decide ((after (exec (.resume 0) s)).here.isBound = true)
    (t.core 0 0).h 5 = ⟨.valid, false, false, 2, 0, 3, 4, 0⟩ ∧ (t.core 0 0).pend = [e ⟨.valid, false, false, 0, 0, 0, 0, 0⟩]
    ∧ (full.resumable 0 = true ∧ u.here.chanTable = [(0, 0)] ∧ u.dram = [(2 ^ 28, 2)] ∧ u.t1 = [(5, 3), (2 ^ 28 - 1, 4)])
    ∧ (takes id = true ∧ takes (fun p => { p with live := false }) = false ∧ takes (fun p => { p with cores := 512 }) = true ∧ takes (fun p => { p with cores := 3 }) = false
      ∧ takes (fun p => { p with channels := 128 }) = true ∧ takes (fun p => { p with channels := 129 }) = false)
    ∧ busy (fun p => { p with coreTable := (List.range 508).map fun c => (c, c) }) = true ∧ busy (fun p => { p with coreTable := (List.range 509).map fun c => (c, c) }) = false
    ∧ busy (fun p => { p with chanTable := (List.range 128).map fun c => (c, c) }) = false := by
  refine ⟨?_, ?_, ?_, ?_, ?_, ?_, ?_⟩ <;> decide +kernel

theorem wit_ManagementCommands :
    let s (g : Part → Part) := { base 0 (alone g id) with tabor := 60 }
    let idle : Part → Part := fun p => { p with task := none }
    let fault : Part → Part := fun p => { p with stops := [.fault] }
    let at_ (r : Resid) : Part → Part := fun p => { p with resid := r, resumeAt := some 60, features := 16 }
    let parked : Part → Part := fun p => { (at_ .switchedOut p).onCore 0 (fun c => { regs [(.k 1, 9)] c with cond := .parked, kregs := [(13, 9)] }) with
      cores := 9, preempt := some ⟨none, none, 0, true, some 3⟩ }
    let p (i : Instr) (g : Part → Part) : Part := (after (exec i (s g))).here
    let r (i : Instr) (g : Part → Part) : Nat × Nat := ((p i g).pcmd, (p i g).pres)
    let waits : Part → Part := fun p => { p with pres := 0, pcmd := 3 }
    let paging : Part → Part := fun p => { at_ .pagingOut p with pres := 0, pcmd := 3 }
    ((s idle).here.status = 0 ∧ r (.endSlice 0) idle = (1, 1) ∧ (p (.endSlice 0) idle).resid = .switchedOut)
    ∧ ((s id).here.status = 1 ∧ r (.endSlice 0) id = (1, 0) ∧ (p (.endSlice 0) id).preempt ≠ none)
    ∧ ((s fault).here.status = 2 ∧ r (.endSlice 0) fault = (1, 0) ∧ (p (.endSlice 0) fault).endAfter = true)
    ∧ ((s (at_ .cold)).here.status = 4 ∧ r (.endSlice 0) (at_ .cold) = (1, 4) ∧ r (.endSlice 0) (at_ .switchedOut) = (1, 4))
    ∧ (answers (.endSlice 0) (s waits) (s waits) ∧ r (.reshape 0 4) waits = (3, 0) ∧ r (.reshape 0 4) fault = (2, 4))
    ∧ ((s (at_ .switchedOut)).here.reshapable 4 = false ∧ r (.reshape 0 4) (at_ .switchedOut) = (2, 3))
    ∧ ((s parked).here.reshapable 4 = true ∧ r (.reshape 0 4) parked = (2, 1) ∧ (p (.reshape 0 4) parked).cores = 4 ∧ ((p (.reshape 0 4) parked).core 0).k 13 = 4
       ∧ (s parked).here.reshapable 9 = true ∧ (s parked).here.reshapable 3 = false ∧ (s parked).here.reshapable 10 = false)
    ∧ (r (.pageOut 0) id = (3, 4) ∧ r (.pageOut 0) (fun p => { at_ .switchedOut p with features := 15 }) = (3, 3)
       ∧ r (.pageOut 0) (at_ .switchedOut) = (3, 0) ∧ (p (.pageOut 0) (at_ .switchedOut)).resid = .pagingOut)
    ∧ ((p (.pageOut 0) paging).resid = .cold ∧ (p (.pageOut 0) paging).pres = 1 ∧ (p (.pageOut 0) paging).digest.isSome = true)
    ∧ (r (.endSlice 0) paging = (3, 2) ∧ r (.reshape 0 4) paging = (3, 2) ∧ r (.pageOut 0) (fun p => { paging p with resumeAt := some 61 }) = (3, 2)
       ∧ r (.pageOut 0) (fun p => { paging p with resid := .pagingIn }) = (3, 2)
       ∧ (p (.pageOut 0) fun p => { paging p with wantRestore := true }).resid = .pagingIn
       ∧ (let u := s fun p => { at_ .cold p with corrupt := true }; answers (.coldRestore 0) u u))
    ∧ ((p (.coldRestore 0) (at_ .cold)).resid = .pagingIn ∧ goesOn (exec (.coldRestore 0) (s (at_ .pagingIn))) = true) := by decide +kernel

/-- A LAUNCH that a released core has sent goes on from core 0; a page-out that ends, and a cold context, after a fatal error; a submission that
waited at a service port is in its queue when the context is away. -/
theorem wit_ManagementCommands_more :
    let s (g : Part → Part) := { base 0 (alone g id) with tabor := 60, fatal := 2 }
    let away : Part → Part := fun p => { (p.onCore 0 fun c => { c with cond := .parked }).onCore 5 (fun c => { c with cond := .parked, launches := [(9, 0, 64, 70)] }) with
      resid := .switchedOut, cores := 9, preempt := some ⟨none, none, 0, true, some 3⟩ }
    let t := after (exec (.reshape 0 4) (s away))
    let out : Part → Part := fun p => { p with resid := .pagingOut, resumeAt := some 60, pres := 0, pcmd := 3, wantRestore := true }
    let cold := s fun p => { p with resid := .cold }
    (s away).here.reshapable 4 = true ∧ (t.core 0 0).launches = [(0, 0, 64, 70)] ∧ (t.core 0 5) = Core.fresh
    ∧ (after (exec (.pageOut 0) (s out))).here.resid = .cold ∧ answers (.coldRestore 0) cold cold := by decide +kernel

theorem wit_HostRegistersAndMeters :
    let s (g : Part → Part) := base 0 (idlePart g)
    let p (i : Instr) (g : Part → Part) : Part := (after (exec i (s g))).here
    let facc (n : Nat) : Part → Part := fun p => { p with facc := [(0, BitVec.ofNat 32 n)], features := 1 }
    let busy (n : Nat) : Part → Part := fun p => { facc n p with queue := [⟨7, 1, 0, 0, [], 0⟩] }
    let meter (n : Nat) (sat : Bool) : Part → Part := fun p => { p with meter := n, meterSat := sat, meterHold := if sat then some 77 else none }
    let out (i : Instr) (g : Part → Part) : List Out := (after (exec i (s g))).outbox
    let temp (hot calm level t w : Nat) : Nat × Nat × Nat :=
      let u := after (exec (.thermalSample t w) { s id with hotBelow := hot, calm := calm, holdLevel := level })
      (u.holdLevel, u.calm, u.hotBelow)
    let big := 2 ^ 64 - 5
    ((s (facc 63)).here.accepted = 63 ∧ (p (.featureCommit 0) (facc 63)).features = 63 ∧ (p (.featureCommit 0) (busy 63)).featuresNext = some 63
      ∧ (p (.featureCommit 0) (facc 62)).factOk = false ∧ (p (.featureCommit 0) (facc 65)).factOk = false ∧ (p (.featureCommit 0) (facc 1)).factOk = true)
    ∧ (out (.emloRead 0) (meter (5 * 2 ^ 32 + 3) false) = [.mmioRead 0 3] ∧ (p (.emloRead 0) (meter (5 * 2 ^ 32 + 3) false)).meterHold = some 5
      ∧ out (.emhiRead 0) (meter 0 true) = [.mmioRead 0 77] ∧ out (.emhiRead 0) (meter (5 * 2 ^ 32) false) = [.mmioRead 0 5]
      ∧ (p (.energyMeterClear 0) (meter 5 true)).meter = 0)
    ∧ ((p (.energyMeterCharge 0 4) (meter big false)).meter = 2 ^ 64 - 1 ∧ (p (.energyMeterCharge 0 4) (meter big false)).meterSat = false
      ∧ (p (.energyMeterCharge 0 5) (meter big false)).meterSat = true ∧ (p (.energyMeterCharge 0 5) (meter 7 true)).meter = 7)
    ∧ ((after (exec (.pcapWrite 500) (s id))).pcap = 500 ∧ (after (exec (.pcapWrite 3000) (s id))).pcap = 3000 ∧ answers (.pcapWrite 499) (s id) (s id)
      ∧ answers (.pcapWrite 3001) (s id) (s id))
    ∧ ((p (.mmioWrite 0 0x23C 5) id).facc = [(7, 5)] ∧ answers (.mmioWrite 0 0x21C 5) (s id) (s id) ∧ answers (.mmioWrite 0 0x240 5) (s id) (s id)
      ∧ (after (exec (.mmioWrite 129 0x010 (2 ^ 32 + 5)) (s id))).mail = [(1, ⟨5, false, 0⟩)])
    ∧ (temp 0 16 4095 105 0 = (4096, 0, 1) ∧ temp 0 9 4096 50 3001 = (4096, 0, 0) ∧ temp 2 15 7 99 3000 = (6, 16, 0) ∧ temp 0 15 0 99 3000 = (0, 16, 0)) := by
  decide +kernel

/-- A feature commit while a task's completion word waits; the meter in a freeze; a clear leaves the held half (18_fabric_host R280; 12_power R192). -/
theorem wit_HostRegistersAndMeters_more :
    let n : Node := ⟨7, 1, 0, 0, [], 65544⟩
    let s (x : After) := base 0 (idlePart fun p => { p with facc := [(0, 63)], features := 1, t1Queue := [(0, .word n 1 0 x)], meterHold := some 7, meter := 9 })
    let t (x : After) := (after (exec (.featureCommit 0) (s x))).here
    let ran (m : Move) : Option Instr := match m with
      | .run i _ => some i
      | _ => none
    let frozen := { s .plain with fatal := 1 }
    (t .plain).featuresNext = some 63 ∧ (t .plain).features = 1 ∧ (t .refused).featuresNext = none ∧ (t .refused).features = 63
    ∧ (after (exec (.energyMeterClear 0) (s .plain))).here.meterHold = some 7 ∧ (after (exec (.energyMeterClear 0) (s .plain))).here.meter = 0
    ∧ ran (takeInput (.event (.energyMeterCharge 0 4)) frozen) = some (.energyMeterCharge 0 4) ∧ ran (takeInput (.event (.energyMeterClear 0)) frozen) = some (.energyMeterClear 0) := by
  decide +kernel

/-- A virtual function without a partition: FSUP, FACC and a commit, which a new partition finds in force, and a meter that nothing counts
(18_fabric_host R279, R280). -/
theorem wit_HostRegistersAndMeters_function :
    let s := base 0 (alone id id)
    let t := after (exec (.featureCommit 9) (after (exec (.mmioWrite 9 0x220 5) s)))
    let even := after (exec (.featureCommit 9) (after (exec (.mmioWrite 9 0x220 4) s)))
    (s.part 9).live = false ∧ hostRead 9 0x200 s = s.emit (.mmioRead 9 0x3F) ∧ hostRead 9 0x220 (after (exec (.mmioWrite 9 0x220 5) s)) =
      (after (exec (.mmioWrite 9 0x220 5) s)).emit (.mmioRead 9 5)
    ∧ (t.part 9).features = 5 ∧ (t.part 9).factOk = true ∧ (t.part 9).live = false ∧ (even.part 9).factOk = false ∧ (even.part 9).features = 0
    ∧ (after (exec (.emloRead 9) s)).outbox.length = 1 ∧ (after (exec (.emhiRead 9) s)).outbox.length = 1 ∧ (after (exec (.emloRead 9) s)).parts = s.parts
    ∧ answers (.energyMeterClear 9) s s ∧ answers (.featureCommit 128) s s := by decide +kernel

/-! ### Witnesses: the mailbox, the life cycle, and the statements over all ops and all steps
What the entropy source, the bus, the reader of an image file, the firmware and the check of a signature answer are free values: a clause
whose hypothesis names one of them is met by the other hypotheses shown here, whichever way that value falls. -/

/-- A command block at host address 0: code, parameter length, room for the response at 1024, and the parameters. -/
def block (code len room : Nat) (param : List Byte) : Mem :=
  memWrite (memWrite [] 0 (leBytes 4 code ++ leBytes 4 len ++ leBytes 8 1024 ++ leBytes 4 room)) 64 param

/-- The package with that command waiting in the mailbox of physical function 0. -/
def mailed (host : Mem) (p : Part) (f : State → State) : State :=
  f { base 0 p with host := host, mailQueue := [0], mail := [(0, ⟨0, true, 0⟩)], tenants := [(1, ⟨5, []⟩)] }

/-- The command is legal, as the statements say. -/
def legal (s : State) (code n : Nat) : Bool := decide (s.mailQueue.head? = some 0 ∧ s.mailCode 0 = code ∧ s.blockLegal 0 n = true)

/-- STATUS and GO after a command, and whether vector 0 fired. -/
def answer (i : Instr) (s : State) : Nat × Bool × Bool :=
  let t := after (exec i s)
  let m := tget Mailbox.fresh t.mail 0
  (m.status, m.go, decide (t.outbox = [.msixPf 0 0] ∧ t.mailQueue = []))

/-- The part answers with a STATUS. -/
def said (n : Nat) : Nat × Bool × Bool := (n, false, true)

theorem wit_MailboxImagesAndTenants :
    let p := idlePart fun p => { p with tenant := 1 }
    let at0 (code len : Nat) (param : List Byte) (f : State → State) := mailed (block code len 4096 param) p f
    let unknown := at0 14 0 [] id
    let img (n : Nat) (f : State → State) := at0 2 4 (leBytes 4 n) fun s => f { s with images := [(1, image 1)], imageTenant := [(1, 1)] }
    let queued : State → State := fun s => s.onPart 0 fun p => { p with queue := [⟨7, 1, 0, 0, [], 0⟩] }
    let create := at0 3 0 [] id
    let all := at0 3 0 [] fun s => { s with tenants := (List.range 255).map fun n => (n + 1, ⟨5, []⟩) }
    let del (n : Nat) (f : State → State) := at0 4 1 (leBytes 1 n) f
    let two_ : State → State := fun s => { s with tenants := [(1, ⟨5, []⟩), (2, ⟨6, []⟩)] }
    let short (code n : Nat) := mailed (block code (n - 1) 4096 []) p id
    let reg := at0 1 13 (leBytes 12 0 ++ leBytes 1 1) id
    let none_ := at0 1 13 (leBytes 12 0 ++ leBytes 1 9) id
    (unknown.mailQueue.head? = some 0 ∧ 13 < unknown.mailCode 0 ∧ goesOn (exec (.mailboxUnknownCode 0) unknown) = true)
    ∧ (answer (.registerImage 0) (short 1 13) = said 3 ∧ answer (.unregisterImage 0) (short 2 4) = said 3 ∧ answer (.deleteTenant 0) (short 4 1) = said 3
       ∧ answer (.createTenant 0) { create with host := memWrite create.host 20 [1] } = said 3)
    ∧ (legal reg 1 13 ∧ tfind reg.tenants (reg.param 0 96 8) ≠ none ∧ 12 ≤ reg.replyRoom 0 ∧ imageLegal (image 1) = true ∧ imageLegal (image 5) = true
       ∧ (∃ q ∈ reg.partsOf 1, (image 4).cores ≤ q.cores) ∧ (∃ q ∈ reg.partsOf 1, (image 4).vchannels ≤ q.channels)
       ∧ (∀ q ∈ reg.partsOf 1, q.cores < (image 5).cores) ∧ (∀ q ∈ reg.partsOf 1, q.channels < { image 4 with vchannels := 129 }.vchannels)
       ∧ legal none_ 1 13 ∧ answer (.registerImage 0) none_ = said 3)
    ∧ (legal (img 1 id) 2 4 ∧ answer (.unregisterImage 0) (img 2 id) = said 3 ∧ answer (.unregisterImage 0) (img 1 queued) = said 4
       ∧ answer (.unregisterImage 0) (img 1 id) = said 1 ∧ (after (exec (.unregisterImage 0) (img 1 id))).images = [])
    ∧ (legal create 3 0 ∧ answer (.createTenant 0) create = said 1 ∧ (tfind (after (exec (.createTenant 0) create)).tenants 2).isSome = true
       ∧ leNat (memRead (after (exec (.createTenant 0) create)).host 1024 9) = 1 + 2 * 2 ^ 64 ∧ answer (.createTenant 0) all = said 6)
    ∧ (legal (del 2 two_) 4 1 ∧ answer (.deleteTenant 0) (del 3 two_) = said 3 ∧ answer (.deleteTenant 0) (del 1 two_) = said 4
       ∧ answer (.deleteTenant 0) (del 2 two_) = said 1 ∧ (after (exec (.deleteTenant 0) (del 2 two_))).tenants = [(1, ⟨5, []⟩)]) := by
  refine ⟨?_, ?_, ?_, ?_, ?_, ?_⟩ <;> decide +kernel

/-- Command 5 with 4 cores and 2 channels as virtual function 127; command 6, 11, 12 and 13 on function 0. -/
theorem wit_MailboxPartitionsAndDebug :
    let p (g : Part → Part) := idlePart fun p => g { p with tenant := 1, features := 33, cores := 4, channels := 2 }
    let create (tenant n c vf group cls : Nat) := mailed (block 5 13 64 (leBytes 13
      (tenant + n * 2 ^ 8 + c * 2 ^ 18 + vf * 2 ^ 26 + group * 2 ^ 64 + cls * 2 ^ 96))) (p id) id
    let new := after (exec (.createLogicalPartition 0) (create 1 4 2 127 0 0))
    let c5 (s : State) := answer (.createLogicalPartition 0) s
    let full := (create 1 512 2 127 0 0).onPart 0 fun p => { p with coreTable := [(0, 0)] }
    let cmd (code n param : Nat) (g : Part → Part) := mailed (block code n 64 (leBytes n param)) (p g) id
    let broke : Part → Part := fun p => { p with debug := true, stops := [.fault], frec := { FRec.none with code := 0x72 } }
    let debug : Part → Part := fun p => { p with debug := true }
    let busy : Part → Part := fun p => { p with queue := [⟨7, 1, 0, 0, [], 0⟩] }
    let saved : Part → Part := fun p => { p with resid := .switchedOut, task := (lonePart [] 3).task }
    let read : Part → Part := fun p => { p with t1Queue := [(0, .word ⟨7, 1, 0, 0, [], 0⟩ 1 0 .plain)] }
    let dead : Part → Part := fun p => { p with live := false }
    let cold (corrupt : Bool) : Part → Part := fun p => { busy p with resid := .cold, corrupt := corrupt, pres := 4 }
    let pair (peers : List (Nat × Nat)) : Part → Part := fun p => { broke p with cls := 1, mates := [(2, 4, 2, 1)], peers := peers }
    let freed (peers : List (Nat × Nat)) : List Stop := (after (exec (.debugRelease 0) (cmd 13 1 0 (pair peers)))).here.stops
    (legal (create 1 4 2 127 0 0) 5 13 ∧ c5 (create 1 4 2 127 0 0) = said 1 ∧ (new.part 127).live = true ∧ (new.part 127).pt = 0 ∧ (new.part 127).cores = 4
       ∧ (new.part 127).resid = .bound 1 ∧ (create 1 4 2 127 0 0).hasRoom 4 2 = true)
    ∧ (c5 (create 2 4 2 127 0 0) = said 3 ∧ c5 (create 1 3 2 127 0 0) = said 3 ∧ c5 (create 1 513 2 127 0 0) = said 3 ∧ c5 (create 1 4 129 127 0 0) = said 3
       ∧ c5 (create 1 4 2 127 1 0) = said 3 ∧ c5 (create 1 4 2 127 0 1) = said 3)
    ∧ (c5 (create 1 4 2 0 0 0) = said 4 ∧ full.hasRoom 512 2 = false ∧ c5 full = said 6)
    ∧ (legal (cmd 6 1 0 id) 6 1 ∧ answer (.deleteLogicalPartition 0) (cmd 6 1 0 id) = said 1 ∧ (after (exec (.deleteLogicalPartition 0) (cmd 6 1 0 id))).here = { Part.fresh with features := (cmd 6 1 0 id).here.features }
       ∧ answer (.deleteLogicalPartition 0) (cmd 6 1 0 saved) = said 4 ∧ answer (.deleteLogicalPartition 0) (cmd 6 1 0 read) = said 4
       ∧ answer (.deleteLogicalPartition 0) (cmd 6 1 0 busy) = said 4 ∧ answer (.deleteLogicalPartition 0) (cmd 6 1 0 (cold true)) = said 1
       ∧ answer (.deleteLogicalPartition 0) (cmd 6 1 0 (cold false)) = said 4 ∧ answer (.deleteLogicalPartition 0) (cmd 6 1 127 id) = said 4)
    ∧ (legal (cmd 11 1 128 id) 11 1 ∧ answer (.debugEnable 0) (cmd 11 1 128 id) = said 1 ∧ (after (exec (.debugEnable 0) (cmd 11 1 128 id))).here.breakMask = BitVec.allOnes 64
       ∧ (after (exec (.debugEnable 0) (cmd 11 1 0 debug))).here.debug = false ∧ answer (.debugEnable 0) (cmd 11 1 0 dead) = said 4
       ∧ answer (.debugEnable 0) (cmd 11 1 0 fun p => { p with features := 31 }) = said 4)
    ∧ (legal (cmd 12 16 (2 ^ 127) debug) 12 16 ∧ (after (exec (.setBreakMask 0) (cmd 12 16 (2 ^ 127) debug))).here.breakMask = BitVec.ofNat 64 (2 ^ 63)
       ∧ answer (.setBreakMask 0) (cmd 12 16 0 id) = said 4)
    ∧ (legal (cmd 13 1 0 broke) 13 1 ∧ answer (.debugRelease 0) (cmd 13 1 0 broke) = said 1 ∧ (after (exec (.debugRelease 0) (cmd 13 1 0 broke))).here.stops = []
       ∧ answer (.debugRelease 0) (cmd 13 1 0 debug) = said 4 ∧ freed [(2, 1025)] = [] ∧ freed [(2, 1024)] = [.align] ∧ freed [(2, 1023)] = [.align] ∧ freed [] = [.align]) := by
  refine ⟨?_, ?_, ?_, ?_, ?_, ?_, ?_⟩ <;> decide +kernel

/-- A partition made in a virtual function whose driver has committed features: they hold, and each of its channels has the service banks that
its T1 pages need. -/
theorem wit_MailboxPartitionsAndDebug_features :
    let s := (mailed (block 5 13 64 (leBytes 13 (1 + 4 * 2 ^ 8 + 2 * 2 ^ 18 + 127 * 2 ^ 26))) (idlePart id) id).setPart 127 { Part.fresh with features := 5, factOk := true, facc := [(0, 5)] }
    let t := after (exec (.createLogicalPartition 0) s)
    answer (.createLogicalPartition 0) s = said 1 ∧ (t.part 127).features = 5 ∧ (t.part 127).facc = [(0, 5)] ∧ (t.part 127).live = true := by decide +kernel

theorem wit_LifeCycleResetAndAttestation :
    let at0 (code len room : Nat) (param : List Byte) (g : Part → Part) (lcs : Nat) :=
      mailed (block code len room param) (idlePart g) fun s => { s with lcs := lcs, nonce := some 5, seeds := some 3, dram := [(5, 5)], tabor := 9 }
    let change (target lcs : Nat) (g : Part → Part) := at0 8 29793 64 (leBytes 1 target) g lcs
    let busy : Part → Part := fun p => { p with task := (lonePart [] 3).task }
    let i := Instr.lifeCycleChange 0
    let r (s : State) : Nat × Bool × Option Nat × Nat := let t := after (exec i s); ((tget Mailbox.fresh t.mail 0).status, t.lcsErr, t.nonce, t.lcs)
    let off := { State.reset with powered := false, inbox := [(0, .event (.holdStart 0))] }
    (legal (at0 7 0 40 [] id 2) 7 0 ∧ answer (.lifeCycleNonce 0) (at0 7 0 40 [] id 2) = said 1 ∧ answer (.lifeCycleNonce 0) (at0 7 0 39 [] id 2) = said 8)
    ∧ (legal (change 4 2 id) 8 29793 ∧ r (change 4 2 id) = (3, true, none, 2) ∧ r (change 0 2 id) = (7, true, none, 2) ∧ r (change 3 3 id) = (7, true, none, 3)
       ∧ r (change 1 2 busy) = (4, true, none, 2) ∧ (∀ e ∈ (change 1 2 id).parts, e.2.status = 0)
       ∧ (∀ x ∈ [(0, 1), (0, 3), (1, 2), (1, 3), (2, 1), (2, 3)], lcsAllows x.1 x.2 = true))
    ∧ (legal (at0 9 32 0 [] id 0) 9 32 ∧ answer (.attestationReport 0) (at0 9 32 0 [] id 0) = said 7 ∧ answer (.attestationReport 0) (at0 9 32 0 [] id 3) = said 7
       ∧ 19208 ≤ (at0 9 32 19208 [] id 1).replyRoom 0 ∧ answer (.attestationReport 0) (at0 9 32 19207 [] id 1) = said 8)
    ∧ (legal (at0 10 0 0 [] id 3) 10 0 ∧ answer (.attestationKey 0) (at0 10 0 0 [] id 0) = said 7 ∧ answer (.attestationKey 0) (at0 10 0 29831 [] id 2) = said 8)
    ∧ (goesOn (exec .packageReset (change 1 2 id)) = true ∧ (after (exec .powerLoss (change 1 2 id))).powered = false
       ∧ (after (exec .powerLoss (change 1 2 id))).dram = [] ∧ (after (exec .powerLoss (change 1 2 id))).lcs = 2)
    ∧ (off.powered = false ∧ (∀ e ∈ off.inbox, e.2 ≠ .event .packageReset) ∧ (nextMove off).isNone = true) := by
  refine ⟨?_, ?_, ?_, ?_, ?_, ?_⟩ <;> decide +kernel

/-- The last lane, and counts of w − 1, w and above, in every type. -/
theorem wit_LaneShifts : ([0, 1, 2, 3, 4, 5, 6, 7].all fun t =>
      let w := laneBits t
      let i := lanes t - 1
      let x := vec w (List.replicate i 0 ++ [2 ^ (w - 1)])
      [w - 1, w, 2 ^ w - 1].all fun n =>
        let y := vec w (List.replicate i 0 ++ [n])
        decide (lane w (vShl t x y) i = 0 ∧ lane w (vShr t x y) i = (if n < w then 1 else 0) ∧ lane w (vSar t x y) i = 2 ^ w - 1)) = true
    ∧ runs (at_ 2 id) [.vshl gT 0 1 2 3, .vshr gT 0 1 2 0, .vsar gT 0 1 2 7] = true ∧ runs (at_ 3 id) [.vshl gT 0 1 2 3] = true := by decide +kernel

theorem wit_DrawsPerLane :
    let x := vec 64 [0, 2 ^ 64 - 1]
    let y := vec 32 [0x56789ABC, 0x1234, 0, 2]
    lane 64 (vRng x y) 0 = 0x4F88E9164F37CBD1 ∧ vRng x y = vRng x (y + 2 ^ 128) ∧ Instr.legal 2 (.vrng gT 0 1 2 7) = true
    ∧ Instr.legal 3 (.vrng gT 0 1 2 6) = false ∧ runs (at_ 2 id) [.vrng gT 0 1 2 7] = true ∧ runs (at_ 3 id) [.vrng gT 31 1 2 7] = true := by decide +kernel

/-- The word of VLD v1, ia0, +4 *1 with a false predicate, of an op that is none, and of a CPYX to a core that the task does not have. -/
theorem wit_FalseCondition :
    let s (w x : Nat) (sl : Nat) := at_ sl fun c => { c with sticky := [(sl, ⟨BitVec.ofNat 32 w, BitVec.ofNat 32 x, 5, 0⟩)] }
    let vld := s 0xB4304004 0x00100000 2
    let i := Instr.vldLong ⟨3, 0⟩ 1 0 4 1
    let bad := s 0x4A000000 0 0
    let issuing (s : State) (sl : Nat) : Issuing := ⟨0, sl, 1, (s.core 0 0).slot sl⟩
    let far := s 0x84000108 0x12012000 5
    let op := Instr.cpyx gT 1 0 0 288 288 0
    (decodeOp 2 0xB4304004 0x00100000).toOption = some i ∧ vld.hereCore.holds ⟨3, 0⟩ = false ∧ taskLimit vld.here i = false ∧ (4, 64 * 12 + 3) ∉ vld.hereCore.bad
    ∧ answers i vld (vld.onHere fun u => u.setSlot 2 ((u.slot 2).moved 1 512 0))
    ∧ refusedWith 0 0x4A000000 0 = some .illegalEncoding
    ∧ ((opBad bad 0 [] none (issuing bad 0)).map fun b => (b.code, b.detail)) = some (1, 0x4A000000)
    ∧ ((decodeOp 5 0x84000108 0x12012000).toOption.map fun i => taskLimit far.here i) = some false ∧ taskLimit far.here op = true
    ∧ ((opBad far 0 [] none ⟨0, 5, 1, ⟨0x84008000, 0x12012000, 0, 0⟩⟩).map fun b => b.code) = some 1 := by decide +kernel

/-- The condition p3 holds an uncorrectable error: the op takes its step, and the error is in flight for the next cycle. -/
theorem wit_FailingCheckIsPrecise_condition :
    let s := at_ 2 fun c => { c with sticky := [(2, ⟨0xB4304004, 0x00100000, 5, 0⟩)], bad := [(4, 64 * 12 + 3)] }
    let i := Instr.vldLong ⟨3, 0⟩ 1 0 4 1
    (decodeOp 2 0xB4304004 0x00100000).toOption = some i ∧ passes s ⟨3, 0⟩ i = true ∧ (4, 64 * 12 + 3) ∈ s.hereCore.bad
    ∧ answers i s (s.onHere fun u => (u.issue 1024 2 [(1, .readError 4 3)]).setSlot 2 ((u.slot 2).moved 1 512 0)) := by decide +kernel

/-- A DACT of an INVALID handle. -/
theorem wit_FailingCheckIsPrecise :
    let s := at_ 5 fun c => { c with cur := 9, sticky := [(5, ⟨0x86000510, 3, 0, 0⟩)] }
    let i := Instr.dact gT 0 5 1 3
    let t := after (exec i s)
    (decodeOp 5 0x86000510 3).toOption = some i ∧ (opCheck s 0 0 5 (s.hereCore.slot 5) gT i).map (fun b => (b.code, b.detail)) = some (0x20, 1)
    ∧ t.here.frec = ⟨0x20, 0, 5, 0, false, 9, 1024, 1024, 1⟩ ∧ t.here.stops = [.fault] ∧ t.hereCore = s.hereCore
    ∧ (Instr.div gT 1 2 3 0).inMap .s = true ∧ passes s gT (.div gT 1 2 3 0) = true := by decide +kernel

/-- Each check at its limit, passed and failed: the code of the fault (03_core R47). -/
theorem wit_FailingCheckIsPrecise_limits :
    let code (sl : Nat) (g : Part → Part) (f : Core → Core) (i : Instr) : Option Nat :=
      let s := base sl (alone g f)
      (opCheck s 0 0 sl (s.hereCore.slot sl) gT i).map fun b => b.code
    let mul (n last : Nat) (i : Instr) := code 4 id (fun c => { c with notices := [(0, n)], lastMul := [(0, last)] }) i
    let dact (h : Handle) (row : Nat) := code 5 id (fun c => { c with hregs := [(1, h)] }) (.dact gT 0 5 1 row)
    let valid : Handle := ⟨.valid, true, false, 1, 0, 0, 0x40, 0x1C0⟩
    let leave (l : List (Nat × Nat)) := code 0 (fun p => { p with leaves := l, task := p.task.map fun t => { t with budget := 4 } }) id (.leave gT 3)
    let drd (act : Nat) (last : Option (Nat × Nat)) := code 5 (fun p => { p with
      banks := [(5, { Bank.fresh with st := .active 3 false, act := some act })], chans := [(0, { Chan.fresh with last := last })] }) id (.drd gT 0 5 0 9 0)
    let lds (l : List Touch) (pt : Nat) := code 1 (fun p => { p with pt := pt }) (fun c => { c with touches := l }) (.lds gT 1 0 0 0 0)
    let slice (d : DState) := code 4 id (fun c => { (c.put (.s 1) 1) with domains := c.domains.map (fun e => if e.1 = 28 then (28, d) else e), notices := [(0, 900)] }) (.mmul gT 0 0 0)
    let launch (q n : Nat) := code 0 id (regs [(.k 1, q), (.k 2, n)]) (.launch gT 1 2)
    (mul 961 700 (.mmul gT 0 0 0) = some 0x11 ∧ mul 960 700 (.mmul gT 0 0 0) = none ∧ mul 961 768 (.mmul gT 0 0 0) = some 0x11 ∧ mul 961 769 (.mmac gT 0 0 0) = none
      ∧ mul 961 1020 (.mmul gT 0 0 0) = none ∧ mul 961 1021 (.mmul gT 0 0 0) = some 0x34 ∧ slice .off = some 0x10 ∧ slice (.waking 1025 false) = some 0x10
      ∧ slice (.waking 1024 false) = none)
    ∧ (dact Handle.invalid 0 = some 0x20 ∧ dact { valid with st := .miss } 0 = some 0x21 ∧ dact { valid with rp := false } 0 = some 0x22 ∧ dact { valid with tier := 1 } 0 = some 0x22
      ∧ dact { valid with vch := 1 } 0 = some 0x22 ∧ dact valid 64 = some 0x23 ∧ dact valid 63 = none)
    ∧ (leave [(961, 2)] = none ∧ leave [(961, 3)] = some 0x12 ∧ leave [(960, 3)] = none ∧ drd 1012 none = none ∧ drd 1013 none = some 0x31
      ∧ drd 1012 (some (1024, 1)) = some 0x32 ∧ drd 1012 (some (1023, 1)) = none)
    ∧ (lds [] 1277 = none ∧ lds [] 1278 = some 0x30 ∧ lds [⟨1025, 0, 7⟩] 1024 = some 0x30 ∧ lds [⟨1025, 1, 7⟩, ⟨1026, 0, 7⟩] 1024 = none)
    ∧ (code 0 id (fun c => { c with rstack := List.replicate 7 0 }) (.call gT 1) = none ∧ code 0 id (fun c => { c with rstack := List.replicate 8 0 }) (.call gT 1) = some 0x62
      ∧ code 0 id id (.ret gT) = some 0x62 ∧ launch 63 64 = none ∧ launch 63 63 = some 0x64 ∧ launch 40 64 = some 0x64 ∧ launch 39 64 = some 0x64
      ∧ code 5 (fun p => { p with task := p.task.map fun t => { t with vchannels := 127 } }) id (.dref gT 127 0) = some 1
      ∧ code 5 id id (.dref gT 127 0) = none) := by
  refine ⟨?_, ?_, ?_, ?_, ?_⟩ <;> decide +kernel

/-- The lines that ops touch and the cycles (09_memory R124). -/
theorem wit_FailingCheckIsPrecise_touches :
    let t (sl : Nat) (a1 a2 : Nat) (i : Instr) : List Touch :=
      touchesOf (regs [(.s 1, 2 ^ 20 - 1), (.ia 1, 2 ^ 20 - 1), (.ib 1, 256), (.im 1, 512)] Core.fresh) sl 1024 0 ⟨0, 0, a1, a2⟩ i
    t 1 0 0 (.lds gT 0 1 0 2 1) = [⟨1025, 0, 0⟩] ∧ t 1 0 0 (.sts gT 0 1 2 (2 ^ 20 - 1)) = [⟨1026, 15, 4095⟩] ∧ t 2 2 0 (.vld gT 0 1 2047) = [⟨1025, 0, 0⟩]
    ∧ t 3 2 0 (.vst gT 0 1 2047) = [⟨1027, 0, 2⟩] ∧ t 4 4095 0 (.mpack gT 0 1 8191 4 0 0 0 0) = [⟨1025, 0, 0⟩] ∧ t 4 5 5 (.mmul gT 2 0 9) = [⟨1024, 18, 9⟩]
    ∧ t 5 4095 0 (.dwr gT 0 5 0 257 0) = [⟨1026, 1, 256⟩] ∧ t 5 1 2 (.cpy gT 0 0 4095 254 0) = [⟨1025, 0, 0⟩, ⟨1028, 1, 256⟩] := by decide +kernel

theorem wit_DecodeEncodeAgree : Instr.wellFormed 1 (.addi ⟨31, 1⟩ 63 63 127) = true ∧ encode (.addi ⟨31, 1⟩ 63 63 127) = some (0x05FFFFFF, 0)
    ∧ (decodeOp 1 0x05FFFFFF 0).toOption = some (.addi ⟨31, 1⟩ 63 63 127) ∧ Instr.wellFormed 0 (.nop gT) = true := by decide

/-- Core 0 in its ops stage with a K op to issue; and with a bundle of one YIELD to begin. -/
theorem wit_StepRunsDecodedOp :
    let a := (base 0 (alone (fun p => { p with stage := .ops [(0, 0)] }) fun c => { c with sticky := [(0, ⟨0x24000000, 0, 0, 0⟩)] }))
    let b := (base 0 (alone id fun c => { c with store := [(0, 1), (1, 0x24000000)] }))
    let pls := b.here.running.map (planOf b.here)
    (decodeOp 0 0x24000000 0).toOption = some (.phase gT) ∧ a.arrived = none ∧ wallEvent a 0 = none ∧ a.here.stops.any (Stop.waitDone a.tabor) = false
    ∧ answers (.phase gT) { a.atStage 0 (.ops []) with cursor := ⟨0, 0, 0, [0]⟩ } (after (step a))
    ∧ issueFaults b 0 pls = [] ∧ breaksOf b.here 0 pls [] = [] ∧ a.here.sliceOver = false ∧ b.here.sliceOver = false ∧ a.fatal % 2 = 0 ∧ a.samples = false ∧ (tellMove a 0).isNone = true ∧ a.here.losing = 0
    ∧ (tellMove b 0).isNone = true ∧ b.samples = false ∧ (b.here.begin pls).stage = .ops [(0, 0)]
    ∧ answers (.phase gT) { (b.setPart 0 (b.here.begin pls)).atStage 0 (.ops []) with cursor := ⟨0, 0, 0, [0]⟩ } (after (step b)) := by decide +kernel

theorem wit_IssueFrame : (encode (.wake gT 0 0)).isSome = true ∧ goesOn (exec (.wake gT 0 0) (at_ 0 id)) = true
    ∧ (encode (.loop gT 1 2 2 2 0 0)).isSome = true ∧ (encode (.add gT 1 2 3)).isSome = true ∧ goesOn (exec (.add gT 1 2 3) (at_ 1 id)) = true
    ∧ (Instr.add gT 1 2 3).inMap .k = false ∧ (Instr.wake gT 0 0).inMap .k = true := by decide

/-- A step in which PT advances, and one in which the Tabor does. -/
theorem wit_ClocksAdvance :
    let a := base 0 (alone (fun p => { p with stage := .done }) id)
    let b := { a with cursor := ⟨0, 0, 0, []⟩ }
    let d := base 0 (alone (fun p => { p with stage := .issue, stops := [.hold 50] }) id)
    goesOn (step d) = true ∧ (after (step d)).here.pt = 1024
    ∧ goesOn (step a) = true ∧ (after (step a)).here.pt = 1025 ∧ (after (step a)).tabor = 0 ∧ goesOn (step b) = true ∧ (after (step b)).tabor = 1 := by
  decide +kernel

theorem wit_MemoriesStayCanonical :
    let s := pending (.storeBytes 0x10000 [1, 0, 2]) fun c => { c with scratch := [(0x10000, 9), (0x10001, 7)] }
    let t := s.onPart 0 fun p => { p with stage := .due }
    t.memOk = true ∧ goesOn (step t) = true ∧ (after (step t)).memOk = true ∧ ((after (step t)).core 0 0).scratch = [(0x10000, 1), (0x10002, 2)] := by
  decide +kernel
end

section
/-! The handling of faults (01_device R12; 10_translation R152; 15_tasks R237; 16_faults R246, R247): what a miss, a break and a failure do to
their partition, what a failed node does to the nodes that wait for it, and the two fatal errors. -/

namespace Sys2Proof.Machine

/-! ### Tables of partitions and cores -/

/-- A table whose entries are all changed alike, by a change that leaves the default. -/
theorem tget_map {α : Type} (d : α) (f : α → α) (hd : f d = d) (t : Table α) (i : Nat) :
    tget d (t.map fun e => (e.1, f e.2)) i = f (tget d t i) := by
  induction t with
  | nil => exact hd.symm
  | cons e r ih => obtain ⟨k, a⟩ := e; simp only [List.map_cons, tget]; split <;> simp [ih]

/-- A key that does not read as the default is listed. -/
theorem mem_of_tget_ne {α : Type} {d : α} {t : Table α} {i : Nat} (h : tget d t i ≠ d) : (i, tget d t i) ∈ t := by
  induction t with
  | nil => exact absurd rfl h
  | cons e r ih =>
    obtain ⟨k, a⟩ := e
    by_cases hk : k = i
    · simp [tget, hk]
    · simp only [tget, hk, if_false] at h ⊢
      exact List.mem_cons_of_mem _ (ih h)

theorem mem_parts_of_task {s : State} {vf : Nat} {k : Task} (h : (s.part vf).task = some k) : (vf, s.part vf) ∈ s.parts :=
  mem_of_tget_ne fun hf => by rw [State.part, hf] at h; cases h

theorem mem_parts_of_loading {s : State} {w : Nat} {l : Node × Nat} (h : (s.part w).loading = some l) : (w, s.part w) ∈ s.parts :=
  mem_of_tget_ne fun hf => by rw [State.part, hf] at h; cases h

/-- Cores that are all changed alike. -/
theorem Part.core_of_map {p q : Part} (f : Core → Core) (hf : f Core.fresh = Core.fresh)
    (h : q.coreOf = p.coreOf.map fun e => (e.1, f e.2)) (c : Nat) : q.core c = f (p.core c) := by
  rw [Part.core, h]; exact tget_map _ f hf _ _

theorem part_of_parts {s t : State} (h : t.parts = s.parts) (w : Nat) : t.part w = s.part w := by rw [State.part, h]; rfl

theorem isFault_eq (x : Stop) : x.isFault = decide (x = .fault) := by cases x <;> rfl

theorem not_isFault (x : Stop) : (!x.isFault) = decide (x ≠ .fault) := by simp [isFault_eq]

theorem any_isFault {l : List Stop} : l.any Stop.isFault = true ↔ .fault ∈ l := by simp [isFault_eq]

/-! ### Notices, caches, the tower -/

@[simp] theorem part_notify (s : State) (vf w : Nat) (r : Bool) : (s.notify vf r).part w = s.part w := by
  obtain ⟨out, h⟩ := notify_eq s vf r; rw [h]; rfl

@[simp] theorem parts_notify (s : State) (vf : Nat) (r : Bool) : (s.notify vf r).parts = s.parts := by
  obtain ⟨out, h⟩ := notify_eq s vf r; rw [h]

@[simp] theorem host_notify (s : State) (vf : Nat) (r : Bool) : (s.notify vf r).host = s.host := by
  obtain ⟨out, h⟩ := notify_eq s vf r; rw [h]

@[simp] theorem dram_notify (s : State) (vf : Nat) (r : Bool) : (s.notify vf r).dram = s.dram := by
  obtain ⟨out, h⟩ := notify_eq s vf r; rw [h]

/-- The vector of a fault record fires under features 1 and 2 together (18_fabric_host R280). -/
theorem outbox_notify_record (s : State) (vf : Nat) : (s.notify vf true).outbox =
    s.outbox ++ if (s.part vf).features / 2 % 2 = 1 ∧ (s.part vf).features / 4 % 2 = 1 then [.msixVf vf] else [] := by
  unfold State.notify
  by_cases h : (s.part vf).features / 2 % 2 = 1 ∧ (s.part vf).features / 4 % 2 = 1 <;> simp [Part.feature, h]

/-- A stop notice changes what its partition has agreed on with the others, and the outbox. -/
theorem part_announce (s : State) (vf w : Nat) :
    ∃ a b c d, (s.announce vf).part w = { s.part w with alignAt := a, flitTo := b, readyAt := c, readies := d } := by
  unfold State.announce
  split
  · by_cases h : w = vf
    · subst h; exact ⟨none, none, none, [], by simp⟩
    · exact ⟨_, _, _, _, by rw [State.part_emit, State.part_onPart_ne _ _ h]⟩
  · exact ⟨_, _, _, _, rfl⟩

@[simp] theorem fatal_announce (s : State) (vf : Nat) : (s.announce vf).fatal = s.fatal := by
  unfold State.announce; split <;> rfl

@[simp] theorem host_announce (s : State) (vf : Nat) : (s.announce vf).host = s.host := by
  unfold State.announce; split <;> rfl

theorem outbox_subset_announce (s : State) (vf : Nat) : s.outbox ⊆ (s.announce vf).outbox := by
  unfold State.announce; split <;> simp

/-- What every partition keeps when others are told of its stop. -/
theorem announce_frame (s : State) (vf w : Nat) :
    ((s.announce vf).part w).stops = (s.part w).stops ∧ ((s.announce vf).part w).pt = (s.part w).pt
    ∧ ((s.announce vf).part w).coreOf = (s.part w).coreOf := by
  obtain ⟨a, b, c, d, h⟩ := part_announce s vf w
  rw [h]; exact ⟨rfl, rfl, rfl⟩

theorem installTower_frame (vf v : Nat) (g : Page) (s : State) :
    installTower vf v g s = { s with towerTlb := (installTower vf v g s).towerTlb } := by
  unfold installTower; dsimp only; split <;> rfl

/-- A core whose cache has lost the pages that a test picks. -/
def Core.flushed (f : Page → Bool) (c : Core) : Core := { c with tlb := c.tlb.filter fun g => !f g }

/-- Every core of a partition so. -/
def Part.flushed (f : Page → Bool) (p : Part) : Part := { p with coreOf := p.coreOf.map fun e => (e.1, e.2.flushed f) }

theorem parts_flush (vf : Nat) (f : Page → Bool) (s : State) : (flush vf f s).parts = (s.onPart vf (Part.flushed f)).parts := rfl

theorem part_flush_same (vf : Nat) (f : Page → Bool) (s : State) : (flush vf f s).part vf = (s.part vf).flushed f :=
  State.part_onPart_same s vf (Part.flushed f)

/-! ### The arms of FAULT_HANDLER (16_faults R246) -/

theorem execFaultHandler_down {s : State} (vf : Nat) (h : s.fatal ≠ 0) : execFaultHandler vf s = .next s := by
  simp [execFaultHandler, State.belfryDown, h]

/-- The handler of a partition's fault stop is due, and the Belfry serves. -/
structure State.HandlerDue (s : State) (vf : Nat) : Prop where
  serves : s.fatal = 0
  notFailing : (s.part vf).failing = none
  stopped : .fault ∈ (s.part vf).stops
  due : (s.part vf).handlerAt ≠ none

/-- The commands of a failing task are drained, and a page holds its aligned completion word. -/
structure State.FailureEnds (s : State) (vf code tab : Nat) (g : Page) (tk : Task) : Prop where
  serves : s.fatal = 0
  failing : (s.part vf).failing = some (code, tab)
  drained : (s.part vf).drained = true
  task : (s.part vf).task = some tk
  aligned : tk.node.done % 8 = 0
  page : (s.part vf).pageAt (tk.node.done / 65536) = some g

theorem execFaultHandler_due {s : State} {vf : Nat} (h : s.HandlerDue vf) : execFaultHandler vf s = .next (handle vf s) := by
  obtain ⟨h0, h1, h2, h3⟩ := h
  simp [execFaultHandler, State.belfryDown, h0, h1, any_isFault.2 h2, Option.isSome_iff_ne_none.2 h3]

theorem execFaultHandler_failing {s : State} {vf code tab : Nat} (h0 : s.fatal = 0) (h1 : (s.part vf).failing = some (code, tab)) :
    execFaultHandler vf s = .next (if (s.part vf).drained then finishFail vf code s else s) := by
  simp [execFaultHandler, State.belfryDown, h0, h1]

theorem execFaultHandler_ends {s : State} {vf code tab : Nat} {g : Page} {tk : Task} (h : s.FailureEnds vf code tab g tk) :
    execFaultHandler vf s = .next (finishFail vf code s) := by
  rw [execFaultHandler_failing h.serves h.failing, if_pos h.drained]

theorem handle_miss {s : State} {vf : Nat} (h : (s.part vf).frec.code = 0x21) : handle vf s = resolveMiss vf s := by
  simp [handle, h]

theorem handle_break {s : State} {vf : Nat} (h : (s.part vf).frec.code = 0x72) : handle vf s = reportBreak vf s := by
  simp [handle, h]

theorem handle_other {s : State} {vf : Nat} (h1 : (s.part vf).frec.code ≠ 0x21) (h2 : (s.part vf).frec.code ≠ 0x72) :
    handle vf s = beginFail vf (s.part vf).frec.code s := by
  unfold handle; split
  · contradiction
  · contradiction
  · rfl

/-! ### A miss (10_translation R152) -/

/-- The page and the handle stand in the core whose op met the miss; nothing else of the partition changes. -/
theorem part_resolveWith (vf v n : Nat) (g : Page) (s : State) :
    (resolveWith vf v n g s).part vf = (s.part vf).onCore v fun c => { c.install g with hregs := tput c.hregs n g.handle } := by
  unfold resolveWith; rw [installTower_frame]; exact State.part_onCore_same _ _ _ _

@[simp] theorem dram_resolveWith (vf v n : Nat) (g : Page) (s : State) : (resolveWith vf v n g s).dram = s.dram := by
  unfold resolveWith; rw [installTower_frame]; rfl

/-- A miss of a resident page: the handle, the caches, the record's vector, and the release. -/
theorem resolveMiss_resident {s : State} {vf : Nat} {g : Page}
    (hg : let h := (s.core vf (s.part vf).frec.vcore).h ((s.part vf).frec.detail % 16)
      (s.part vf).pageAt (h.vch * 65536 + h.vrow) = some g)
    (hr : g.resident = true) (he : (s.part vf).endAfter = false) :
    resolveMiss vf s = release vf ((resolveWith vf (s.part vf).frec.vcore ((s.part vf).frec.detail % 16) g s).notify vf true) := by
  dsimp only at hg
  simp [resolveMiss, residentPage, hg, hr, afterRelease, release, part_resolveWith, he]

/-- The stops after the release from a fault: an alignment stop follows when no announced stop is left and another device must resume before
this one or with it (02_time R28). -/
theorem releaseFault_stops {p : Part} (h : .fault ∈ p.stops) : (p.releaseFrom Stop.isFault).stops =
    let r := p.stops.filter fun y => decide (y ≠ .fault)
    if r.any Stop.announced || p.alone then r else r ++ [.align] := by
  have ha : p.stops.any Stop.announced = true := List.any_eq_true.2 ⟨_, h, rfl⟩
  rw [Part.releaseFrom_stops]
  simp only [not_isFault, ha, Bool.true_and]
  cases (p.stops.filter fun y => decide (y ≠ .fault)).any Stop.announced <;> cases p.alone <;> rfl

theorem any_announced_filter {l : List Stop} : (l.filter fun y => decide (y ≠ .fault)).any Stop.announced = true ↔
    ∃ y ∈ l, y ≠ .fault ∧ y.announced = true := by
  simp [List.any_eq_true]

/-! ### A debug break, and the beginning of a failure (16_faults R246; 15_tasks R237; 19_belfry R291) -/

theorem part_reportBreak (vf : Nat) (s : State) : (reportBreak vf s).part vf = { s.part vf with handlerAt := none } := by
  simp [reportBreak]

theorem outbox_reportBreak (vf : Nat) (s : State) : (reportBreak vf s).outbox =
    s.outbox ++ (if (s.part vf).features / 2 % 2 = 1 ∧ (s.part vf).features / 4 % 2 = 1 then [.msixVf vf] else []) ++ [.msixPf (vf / 64) 1] := by
  simp [reportBreak, outbox_notify_record]

theorem part_beginFail (vf code : Nat) (s : State) :
    (beginFail vf code s).part vf = { s.part vf with qfrozen := true, failing := some (code, s.tabor), handlerAt := none } := by
  simp [beginFail]

/-! ### No task is started, and no node loaded -/

/-- A partition goes on with its task, and with the node that it loads unless that is withdrawn. -/
structure Part.KeepsTask (p q : Part) : Prop where
  task : q.task = p.task
  loading : q.loading = p.loading ∨ q.loading = none

/-- Every partition does. -/
structure State.KeepsTasks (s t : State) : Prop where
  part : ∀ w, (s.part w).KeepsTask (t.part w)

theorem Part.KeepsTask.refl (p : Part) : p.KeepsTask p := ⟨rfl, .inl rfl⟩

theorem Part.KeepsTask.loading_none {p q : Part} (h : p.KeepsTask q) (hp : p.loading = none) : q.loading = none :=
  h.loading.elim (fun e => e.trans hp) id

theorem State.KeepsTasks.refl (s : State) : s.KeepsTasks s := ⟨fun _ => .refl _⟩

theorem State.KeepsTasks.trans {s t u : State} (h : s.KeepsTasks t) (k : t.KeepsTasks u) : s.KeepsTasks u := ⟨fun w =>
  ⟨(k.part w).task.trans (h.part w).task, (k.part w).loading.elim (fun e => (h.part w).loading.imp e.trans e.trans) .inr⟩⟩

theorem State.KeepsTasks.of_parts {s t : State} (h : t.parts = s.parts) : s.KeepsTasks t := ⟨fun w => by
  rw [part_of_parts h]; exact .refl _⟩

theorem State.KeepsTasks.setPart {s : State} {vf : Nat} {p : Part} (h : (s.part vf).KeepsTask p) : s.KeepsTasks (s.setPart vf p) := ⟨fun w => by
  by_cases hw : w = vf
  · subst hw; simpa using h
  · rw [State.part_setPart_ne _ _ hw]; exact .refl _⟩

theorem State.KeepsTasks.onPart {f : Part → Part} (h : ∀ p : Part, p.KeepsTask (f p)) (s : State) (vf : Nat) : s.KeepsTasks (s.onPart vf f) :=
  .setPart (h _)

/-- A change of a partition that touches neither field. -/
theorem State.KeepsTasks.edit {f : Part → Part} (s : State) (vf : Nat) (ht : ∀ p : Part, (f p).task = p.task := by exact fun _ => rfl)
    (hl : ∀ p : Part, (f p).loading = p.loading := by exact fun _ => rfl) : s.KeepsTasks (s.onPart vf f) :=
  .onPart (fun p => ⟨ht p, .inl (hl p)⟩) s vf

theorem State.KeepsTasks.foldl {β : Type} {f : State → β → State} (h : ∀ (s : State) b, s.KeepsTasks (f s b)) (l : List β) (s : State) :
    s.KeepsTasks (l.foldl f s) := by
  induction l generalizing s with
  | nil => exact .refl s
  | cons b l ih => exact (h s b).trans (ih _)

theorem drawDelay_keepsTasks (s : State) : s.KeepsTasks s.drawDelay.2 := .of_parts rfl

/-! #### Words and requests -/

theorem timedStore_keepsTasks (vf : Nat) (g : Page) (a : Nat) (b : Byte) (s : State) : s.KeepsTasks (timedStore vf g a b s) := by
  unfold timedStore
  dsimp only
  split
  · exact .refl s
  · split
    · split
      · exact .setPart ⟨rfl, .inl rfl⟩
      · exact .of_parts rfl
    · exact .setPart ⟨rfl, .inl rfl⟩

theorem tierStore_parts (p : Part) (g : Page) (s : State) (a : Nat) (b : Byte) : (tierStore p g s a b).parts = s.parts := by
  unfold tierStore; split <;> rfl

theorem nearStore_keepsTasks (vf : Nat) (g : Page) (a : Nat) (b : Byte) (s : State) : s.KeepsTasks (nearStore vf g a b s) := by
  unfold nearStore
  dsimp only
  split
  · exact .setPart ⟨rfl, .inl rfl⟩
  · exact .of_parts (tierStore_parts ..)

theorem virtualStore_keepsTasks (vf : Nat) (s : State) (a : Nat) (b : Byte) : s.KeepsTasks (virtualStore vf s a b) := by
  unfold virtualStore
  split
  · exact .refl s
  · split
    · exact timedStore_keepsTasks ..
    · exact nearStore_keepsTasks ..
    · exact .of_parts (tierStore_parts ..)
    · exact .refl s

theorem notify_keepsTasks (s : State) (vf : Nat) (r : Bool) : s.KeepsTasks (s.notify vf r) := .of_parts (parts_notify s vf r)

theorem writeWord_keepsTasks (vf : Nat) (n : Node) (status hi : Nat) (s : State) : s.KeepsTasks (writeWord vf n status hi s) := by
  unfold writeWord virtualWrite
  refine .trans (.foldl ?_ _ s) (notify_keepsTasks _ vf false)
  exact fun s c => virtualStore_keepsTasks vf s c.1 c.2

theorem completeNode_keepsTasks {next : State → State} (hn : ∀ s : State, s.KeepsTasks (next s)) (vf : Nat) (n : Node) (status hi : Nat)
    (after : After) (s : State) : s.KeepsTasks (completeNode vf n status hi after next s) := by
  unfold completeNode
  split
  · exact .edit s vf
  · exact (writeWord_keepsTasks ..).trans (hn _)

theorem applyFeatures_keepsTask (p : Part) : p.KeepsTask p.applyFeatures := by
  unfold Part.applyFeatures
  split
  · split <;> exact ⟨rfl, .inl rfl⟩
  · exact .refl p

theorem settleFeatures_keepsTasks (vf : Nat) (s : State) : s.KeepsTasks (settleFeatures vf s) := .onPart applyFeatures_keepsTask s vf

/-! #### Error tokens (15_tasks R237) -/

theorem withdraw_keepsTask (id : Nat) (p : Part) : p.KeepsTask (p.withdraw id) := by
  unfold Part.withdraw
  dsimp only
  split
  · exact ⟨rfl, .inr rfl⟩
  · exact ⟨rfl, .inl rfl⟩

theorem cancelNode_keepsTasks (root : Nat) (s : State) (e : Nat × Node) : s.KeepsTasks (cancelNode root s e) :=
  (State.KeepsTasks.onPart (withdraw_keepsTask e.2.id) s e.1).trans (completeNode_keepsTasks (settleFeatures_keepsTasks e.1) ..)

theorem cancelDependents_keepsTasks (root n : Nat) (ids : List Nat) (s : State) : s.KeepsTasks (cancelDependents root n ids s) := by
  induction n generalizing ids s with
  | zero => exact .refl s
  | succ n ih =>
    simp only [cancelDependents]
    split
    · exact .refl s
    · exact (State.KeepsTasks.foldl (cancelNode_keepsTasks root) _ s).trans (ih _ _)

theorem errorToken_keepsTasks (id : Nat) (s : State) : s.KeepsTasks (errorToken id s) := cancelDependents_keepsTasks ..

/-- What follows a failure's error token: the report of the record, and the queue unfrozen. -/
theorem afterFailed_keepsTasks (vf : Nat) (report : Bool) (s : State) :
    s.KeepsTasks (settleFeatures vf ((if report then s.notify vf true else s).onPart vf fun p => { p with qfrozen := false })) := by
  refine .trans ?_ (settleFeatures_keepsTasks vf _)
  refine .trans ?_ (.edit _ vf)
  split
  · exact notify_keepsTasks ..
  · exact .refl s

theorem afterWord_keepsTasks (vf : Nat) (n : Node) (after : After) (s : State) : s.KeepsTasks (afterWord vf n after s) := by
  cases after with
  | refused => exact .refl s
  | plain => exact settleFeatures_keepsTasks vf s
  | token => exact (errorToken_keepsTasks n.id s).trans (settleFeatures_keepsTasks vf _)
  | task => exact settleFeatures_keepsTasks vf s
  | failed report => exact (errorToken_keepsTasks n.id s).trans (afterFailed_keepsTasks vf report _)

/-! #### The end of a slice (17_partitions R264) -/

theorem beginRestore_keepsTasks (vf : Nat) (s : State) : s.KeepsTasks (beginRestore vf s) := by
  unfold beginRestore
  dsimp only
  split
  · split
    · exact .refl s
    · exact (drawDelay_keepsTasks s).trans (.setPart ⟨rfl, .inl rfl⟩)
  · exact .setPart ⟨rfl, .inl rfl⟩
  · exact .refl s

theorem acceptNode_keepsTasks (vf v : Nat) (s : State) : s.KeepsTasks (acceptNode vf v s) := by
  unfold acceptNode
  refine .trans ?_ (beginRestore_keepsTasks vf _)
  split
  · exact completeNode_keepsTasks .refl ..
  · split
    · exact completeNode_keepsTasks .refl ..
    · exact .edit s vf

theorem performFlit_keepsTasks (core dev scope seq : Nat) (f : Flit) (s : State) : s.KeepsTasks (performFlit core dev scope seq f s) :=
  .of_parts (by unfold performFlit; rw [applyFlit_frame]; rfl)

theorem serveUnbound_keepsTasks (vf : Nat) (s : State) (r : Nat × T1Req) : s.KeepsTasks (serveUnbound vf s r) := by
  unfold serveUnbound
  split
  · exact .refl s
  · exact performFlit_keepsTasks ..
  · exact (writeWord_keepsTasks ..).trans (afterWord_keepsTasks ..)
  · unfold takeLaunch
    split
    · exact acceptNode_keepsTasks ..
    · exact .refl s
  · exact .refl s

theorem announce_keepsTasks (s : State) (vf : Nat) : s.KeepsTasks (s.announce vf) := ⟨fun w => by
  obtain ⟨a, b, c, d, h⟩ := part_announce s vf w
  rw [h]; exact ⟨rfl, .inl rfl⟩⟩

theorem flush_keepsTasks (vf : Nat) (f : Page → Bool) (s : State) : s.KeepsTasks (flush vf f s) :=
  (State.KeepsTasks.edit (f := Part.flushed f) s vf).trans (.of_parts (parts_flush vf f s))

theorem unbind_keepsTasks (vf : Nat) (s : State) : s.KeepsTasks (unbind vf s) :=
  ((flush_keepsTasks vf _ s).trans
    (.edit (flush vf (fun _ => true) s) vf)).trans (.foldl (serveUnbound_keepsTasks vf) _ _)

theorem armResume_keepsTasks (vf : Nat) (s : State) : s.KeepsTasks (armResume vf s) := by
  unfold armResume
  exact (drawDelay_keepsTasks s).trans (.edit _ vf)

theorem unbindIdle_keepsTasks (vf : Nat) (s : State) : s.KeepsTasks (unbindIdle vf s) :=
  (((announce_keepsTasks s vf).trans (unbind_keepsTasks vf _)).trans (.edit _ vf)).trans
    (armResume_keepsTasks vf _)

theorem endSliceIdle_keepsTasks (vf : Nat) (s : State) : s.KeepsTasks (endSliceIdle vf s) := by
  unfold endSliceIdle
  dsimp only
  split
  · exact unbindIdle_keepsTasks vf s
  · exact .refl s

/-! ### Nodes that depend on a failed one (15_tasks R237) -/

/-- The node that a partition loads is among the dependents of the nodes that it names. -/
theorem mem_dependents_of_loading {s : State} {w x : Nat} {m : Node} {ids : List Nat} {id : Nat} (hl : (s.part w).loading = some (m, x))
    (hi : id ∈ ids) (hd : id ∈ m.deps) : (w, m) ∈ s.dependents ids := by
  unfold State.dependents
  rw [List.mem_flatten]
  refine ⟨_, List.mem_map.2 ⟨_, mem_parts_of_loading hl, rfl⟩, List.mem_map.2 ⟨m, List.mem_filter.2 ⟨?_, ?_⟩, rfl⟩⟩
  · simp [Part.unstarted, hl]
  · exact List.any_eq_true.2 ⟨id, hd, by simpa using hi⟩

/-- No node waits for one that none names. -/
theorem dependents_eq_nil {s : State} {id : Nat} (h : ∀ e ∈ s.parts, ∀ n ∈ e.2.unstarted, id ∉ n.deps) : s.dependents [id] = [] := by
  unfold State.dependents
  rw [List.flatten_eq_nil_iff]
  intro l hl
  obtain ⟨e, he, rfl⟩ := List.mem_map.1 hl
  have hn : (e.2.unstarted.filter fun n => n.deps.any [id].contains) = [] :=
    List.filter_eq_nil_iff.2 fun n hn => by simpa using h e he n hn
  simp [hn]

theorem errorToken_of_no_dependents {s : State} {id : Nat} (h : s.dependents [id] = []) : errorToken id s = s := by
  simp [errorToken, cancelDependents, h]

theorem withdraw_loading {p : Part} {id : Nat} (h : ∀ l, p.loading = some l → l.1.id = id) : (p.withdraw id).loading = none := by
  unfold Part.withdraw
  cases hl : p.loading with
  | none => simp
  | some l => simp [h l hl, Part.unload]

/-- A cancelled node is not loaded any more. -/
theorem cancelNode_unloads {s : State} {e : Nat × Node} (root : Nat) (h : ∀ l, (s.part e.1).loading = some l → l.1.id = e.2.id) :
    ((cancelNode root s e).part e.1).loading = none := by
  unfold cancelNode
  refine ((completeNode_keepsTasks (settleFeatures_keepsTasks e.1) ..).part e.1).loading_none ?_
  rw [State.part_onPart_same]; exact withdraw_loading h

/-- Of nodes that are cancelled one after the other, one that was loaded is not any more. -/
theorem foldl_cancelNode_unloads (root : Nat) {e : Nat × Node} {ds : List (Nat × Node)} (he : e ∈ ds) {s : State}
    (h : ∀ l, (s.part e.1).loading = some l → l.1.id = e.2.id) : ((ds.foldl (cancelNode root) s).part e.1).loading = none := by
  induction ds generalizing s with
  | nil => cases he
  | cons d ds ih =>
    rw [List.foldl_cons]
    rcases List.mem_cons.1 he with rfl | he
    · exact ((State.KeepsTasks.foldl (cancelNode_keepsTasks root) ds _).part _).loading_none (cancelNode_unloads root h)
    · refine ih he fun l hl => ?_
      rcases ((cancelNode_keepsTasks root s d).part e.1).loading with hk | hk
      · exact h l (hk ▸ hl)
      · rw [hk] at hl; cases hl

/-- An error token takes a node that depends on the failed one off the cores on which it is being loaded. -/
theorem errorToken_unloads {s : State} {w x id : Nat} {m : Node} (hl : (s.part w).loading = some (m, x)) (hd : id ∈ m.deps) :
    ((errorToken id s).part w).loading = none := by
  have hm : (w, m) ∈ s.dependents [id] := mem_dependents_of_loading hl (List.mem_singleton.2 rfl) hd
  have hne : (s.dependents [id]).isEmpty = false := by simpa using List.ne_nil_of_mem hm
  simp only [errorToken, cancelDependents, hne, Bool.false_eq_true, if_false]
  refine ((cancelDependents_keepsTasks ..).part w).loading_none (foldl_cancelNode_unloads id hm fun l h => ?_)
  rw [hl] at h; cases h; rfl

/-- A task that has stopped with a fault which the Belfry does not resolve is among the failed ones. -/
theorem mem_failedIds {s : State} {vf : Nat} {tk : Task} (hf : .fault ∈ (s.part vf).stops) (h1 : (s.part vf).frec.code ≠ 0x21)
    (h2 : (s.part vf).frec.code ≠ 0x72) (ht : (s.part vf).task = some tk) : tk.node.id ∈ s.failedIds :=
  List.mem_flatMap.2 ⟨_, mem_parts_of_task ht, by simp [Part.fails, any_isFault.2 hf, h1, h2, ht]⟩

/-- A node that is being loaded is pending. -/
theorem pendingIds_length_pos {s : State} {w : Nat} {l : Node × Nat} (hl : (s.part w).loading = some l) : 0 < s.pendingIds.length :=
  List.length_pos_of_mem (a := l.1.id) (List.mem_flatten.2
    ⟨_, List.mem_map.2 ⟨_, mem_parts_of_loading hl, rfl⟩, List.mem_map.2 ⟨l.1, by simp [Part.pendingNodes, hl], rfl⟩⟩)

/-- A node that is being loaded and names a failed one does not start. -/
theorem mem_doomed_of_loading {s : State} {w x id : Nat} {m : Node} (hl : (s.part w).loading = some (m, x)) (hi : id ∈ s.failedIds)
    (hd : id ∈ m.deps) : m.id ∈ s.doomed s.pendingIds.length s.failedIds := by
  have hm := mem_dependents_of_loading hl hi hd
  obtain ⟨n, hn⟩ := Nat.exists_eq_succ_of_ne_zero (Nat.ne_of_gt (pendingIds_length_pos hl))
  rw [hn, State.doomed]
  have hm' : m.id ∈ (s.dependents s.failedIds).map fun e => e.2.id := List.mem_map.2 ⟨_, hm, rfl⟩
  rw [if_neg (by simpa using List.ne_nil_of_mem hm')]
  exact List.mem_append_left _ hm'

theorem not_doomed_of_mayStart {s : State} {w x : Nat} {m : Node} (h : s.mayStart w = true) (hl : (s.part w).loading = some (m, x)) :
    m.id ∉ s.doomed s.pendingIds.length s.failedIds := by
  simp only [State.mayStart, hl, Option.all_some, Bool.and_eq_true, Bool.not_eq_true', List.contains_eq_mem, decide_eq_false_iff_not] at h
  exact h.2

/-! ### A task off its cores (15_tasks R237) -/

/-- A core on which nothing runs: every domain OFF, nothing in flight. -/
def Core.Vacant (c : Core) : Prop := (∀ d, c.dom d = .off) ∧ c.pend = [] ∧ c.cmds = []

/-- A partition without its task, and without the fault stop of one. -/
def Part.TaskGone (p : Part) : Prop := p.task = none ∧ p.failing = none ∧ .fault ∉ p.stops ∧ ∀ c, (p.core c).Vacant

/-- The partition is without its task, its queue frozen or not, and host memory stands as named. -/
def State.TaskOff (vf : Nat) (frozen : Bool) (host : Mem) (t : State) : Prop :=
  (t.part vf).TaskGone ∧ (t.part vf).qfrozen = frozen ∧ t.host = host

theorem Core.freed_vacant (c : Core) : c.freed.Vacant := ⟨fun _ => rfl, rfl, rfl⟩

theorem Core.Vacant.virtual {c : Core} (h : c.Vacant) : c.virtual.Vacant :=
  ⟨h.1, by simp [Core.virtual, h.2.1], h.2.2⟩

/-- The task is cleared and its stops released: an alignment stop may be left, a fault stop is not. -/
theorem clearTask_taskGone (p : Part) : p.clearTask.TaskGone := by
  refine ⟨by simp [Part.clearTask], by simp [Part.clearTask], ?_, fun c => ?_⟩
  · unfold Part.clearTask
    rw [Part.releaseFrom_stops]
    dsimp only
    split <;> simp [Stop.ofTask]
  · unfold Part.clearTask
    rw [Part.releaseFrom_core, Part.core_of_map (p := p) Core.freed rfl rfl]
    exact Core.freed_vacant _

@[simp] theorem clearTask_qfrozen (p : Part) : p.clearTask.qfrozen = p.qfrozen := by simp [Part.clearTask]
@[simp] theorem clearTask_queue (p : Part) : p.clearTask.queue = p.queue := by simp [Part.clearTask]
@[simp] theorem clearTask_loading (p : Part) : p.clearTask.loading = none := by simp [Part.clearTask]
@[simp] theorem clearTask_pages (p : Part) : p.clearTask.pages = p.pages := by simp [Part.clearTask]
@[simp] theorem clearTask_live (p : Part) : p.clearTask.live = p.live := by simp [Part.clearTask]
@[simp] theorem clearTask_resid (p : Part) : p.clearTask.resid = p.resid := by simp [Part.clearTask]
@[simp] theorem clearTask_pcmd (p : Part) : p.clearTask.pcmd = p.pcmd := by simp [Part.clearTask]
@[simp] theorem clearTask_pres (p : Part) : p.clearTask.pres = p.pres := by simp [Part.clearTask]

theorem clearTask_t1Queue {p : Part} (h : p.t1Queue = []) : p.clearTask.t1Queue = [] := by simp [Part.clearTask, h]

@[simp] theorem clearTask_isBound (p : Part) : p.clearTask.isBound = p.isBound := by simp [Part.isBound]

@[simp] theorem clearTask_pageAt (p : Part) (u : Nat) : p.clearTask.pageAt u = p.pageAt u := by simp [Part.pageAt]

/-! #### What follows leaves the partition as the failed task left it -/

/-- A change of the partition that touches none of the fields that matter. -/
theorem State.TaskOff.edit {vf : Nat} {b : Bool} {m : Mem} {s : State} {f : Part → Part} (h : s.TaskOff vf b m)
    (hf : ∀ p : Part, (f p).task = p.task ∧ (f p).failing = p.failing ∧ (f p).stops = p.stops ∧ (f p).coreOf = p.coreOf
      ∧ (f p).qfrozen = p.qfrozen := by exact fun _ => ⟨rfl, rfl, rfl, rfl, rfl⟩) : (s.onPart vf f).TaskOff vf b m := by
  obtain ⟨⟨h1, h2, h3, h4⟩, h5, h6⟩ := h
  obtain ⟨k1, k2, k3, k4, k5⟩ := hf (s.part vf)
  unfold State.TaskOff Part.TaskGone Part.core
  rw [State.part_onPart_same, k1, k2, k3, k4, k5]
  exact ⟨⟨h1, h2, h3, h4⟩, h5, h6⟩

theorem State.TaskOff.announce {vf : Nat} {b : Bool} {m : Mem} {s : State} (h : s.TaskOff vf b m) : (s.announce vf).TaskOff vf b m := by
  obtain ⟨x, y, z, w, hp⟩ := part_announce s vf vf
  unfold State.TaskOff
  rw [hp, host_announce]; exact h

theorem State.TaskOff.unbind {vf : Nat} {b : Bool} {m : Mem} {s : State} (h : s.TaskOff vf b m) (hq : (s.part vf).t1Queue = []) :
    (unbind vf s).TaskOff vf b m := by
  obtain ⟨⟨ht, hf, -, hc⟩, hb, hm⟩ := h
  unfold Machine.unbind State.TaskOff
  rw [hq, List.foldl_nil, State.part_onPart_same, part_flush_same]
  refine ⟨⟨ht, hf, by simp, fun c => ?_⟩, hb, hm⟩
  rw [Part.core_of_map (p := (s.part vf).flushed fun _ => true) Core.virtual rfl rfl,
    Part.core_of_map (p := s.part vf) (Core.flushed fun _ => true) rfl rfl]
  exact Core.Vacant.virtual (hc c)

theorem State.TaskOff.unbindIdle {vf : Nat} {b : Bool} {m : Mem} {s : State} (h : s.TaskOff vf b m) (hq : (s.part vf).t1Queue = []) :
    (unbindIdle vf s).TaskOff vf b m := by
  have hq' : ((s.announce vf).part vf).t1Queue = [] := by
    obtain ⟨x, y, z, w, hp⟩ := part_announce s vf vf
    rw [hp]; exact hq
  have hu : ((Machine.unbind vf (s.announce vf)).onPart vf Part.sliceEnded).TaskOff vf b m := (h.announce.unbind hq').edit
  exact State.TaskOff.edit (s := (State.drawDelay _).2) hu

/-- Where command 1 waits, no request is left at a service port. -/
theorem State.TaskOff.endSliceIdle {vf : Nat} {b : Bool} {m : Mem} {s : State} (h : s.TaskOff vf b m)
    (hq : (s.part vf).pcmd ≠ 1 ∨ (s.part vf).pres ≠ 0 ∨ (s.part vf).t1Queue = []) : (endSliceIdle vf s).TaskOff vf b m := by
  unfold Machine.endSliceIdle
  dsimp only
  split
  · rename_i hc
    simp only [Bool.and_eq_true, decide_eq_true_eq] at hc
    exact h.unbindIdle ((hq.resolve_left fun hn => hn hc.2.1).resolve_left fun hn => hn hc.2.2)
  · exact h

theorem applyFeatures_frame (p : Part) : ∃ f n, p.applyFeatures = { p with features := f, featuresNext := n } := by
  unfold Part.applyFeatures
  split
  · split <;> exact ⟨_, _, rfl⟩
  · exact ⟨_, _, rfl⟩

/-- What follows the word of a failed node on which no other depends: the queue goes on, and the partition's commit. -/
theorem afterFailed_frame {s : State} {n : Node} (vf : Nat) (report : Bool) (h : s.dependents [n.id] = []) :
    ∃ f x, (afterWord vf n (.failed report) s).part vf = { s.part vf with qfrozen := false, features := f, featuresNext := x }
      ∧ (afterWord vf n (.failed report) s).host = s.host := by
  obtain ⟨f, x, hp⟩ := applyFeatures_frame { s.part vf with qfrozen := false }
  refine ⟨f, x, ?_, ?_⟩ <;> simp only [afterWord, settleFeatures, errorToken_of_no_dependents h]
  · rw [State.part_onPart_same, State.part_onPart_same, ← hp]
    cases report <;> simp
  · cases report <;> simp

/-- The failed node's word is written and none depends on it. -/
theorem State.TaskOff.followFailed {vf : Nat} {b : Bool} {m : Mem} {s : State} {n : Node} (report : Bool) (h : s.TaskOff vf b m)
    (hd : s.dependents [n.id] = []) (hq : (s.part vf).pcmd ≠ 1 ∨ (s.part vf).pres ≠ 0 ∨ (s.part vf).t1Queue = []) :
    (followWord vf n (.failed report) s).TaskOff vf false m := by
  obtain ⟨f, x, hp, hh⟩ := afterFailed_frame vf report hd
  obtain ⟨hg, -, hm⟩ := h
  refine State.TaskOff.endSliceIdle ⟨?_, ?_, hh.trans hm⟩ ?_ <;> rw [hp]
  · exact hg
  · exact hq

/-! ### The completion word (15_tasks R229; 09_memory R140, R142) -/

theorem portOf_eq_none {p : Part} {a : Nat} {g : Page} (hg : p.pageAt (a / 65536) = some g) (ht : g.tier ≠ 1) : p.portOf a = none := by
  simp [Part.portOf, hg, ht]

theorem portOf_near {p : Part} {a : Nat} {g : Page} (hb : p.isBound = true) (hg : p.pageAt (a / 65536) = some g) (ht : g.tier = 1) :
    p.portOf a = some g.vch := by
  simp [Part.portOf, hb, hg, ht]

/-- Bytes of one page of host memory, written one after the other. -/
theorem foldl_virtualStore_host {vf : Nat} {g : Page} (ht : g.tier = 2) (cs : List (Nat × Byte)) (s : State)
    (h : ∀ c ∈ cs, (s.part vf).pageAt (c.1 / 65536) = some g) : cs.foldl (fun s c => virtualStore vf s c.1 c.2) s =
      { s with host := cs.foldl (fun m c => memWrite m (g.place c.1) [c.2]) s.host } := by
  induction cs generalizing s with
  | nil => rfl
  | cons c cs ih =>
    have hc : virtualStore vf s c.1 c.2 = { s with host := memWrite s.host (g.place c.1) [c.2] } := by
      simp [virtualStore, h c (by simp), ht, tierStore]
    rw [List.foldl_cons, hc, ih { s with host := memWrite s.host (g.place c.1) [c.2] } fun d hd => h d (by simp [hd])]
    rfl

/-- The cells of an aligned 8-byte number lie in one page. -/
theorem numCells_page {a v : Nat} (ha : a % 8 = 0) {c : Nat × Byte} (hc : c ∈ numCells a 8 v) : c.1 / 65536 = a / 65536 := by
  obtain ⟨e, he, rfl⟩ := List.mem_map.1 hc
  have hi : e.2 < 8 := by simpa using (List.mem_zipIdx he).2.1
  dsimp only
  omega

/-- An aligned completion word behind a page of host memory. -/
theorem writeWord_host {s : State} {vf : Nat} {n : Node} {g : Page} (status hi : Nat) (ha : n.done % 8 = 0)
    (hg : (s.part vf).pageAt (n.done / 65536) = some g) (ht : g.tier = 2) : ∃ out, writeWord vf n status hi s =
      { s with
        host := (numCells n.done 8 (status + hi % 2 ^ 32 * 2 ^ 32)).foldl (fun m c => memWrite m (g.place c.1) [c.2]) s.host, outbox := out } := by
  unfold writeWord virtualWrite
  rw [foldl_virtualStore_host ht _ s fun c hc => (numCells_page ha hc).symm ▸ hg]
  exact notify_eq _ _ _

/-! ### The end of a failure (15_tasks R237) -/

theorem finishFail_task {s : State} {vf : Nat} {tk : Task} (code : Nat) (h : (s.part vf).task = some tk) : finishFail vf code s =
    endNode vf tk.node statusFailed code (.failed ((s.part vf).stops.any Stop.isFault)) (s.onPart vf Part.clearTask) := by
  simp [finishFail, endTask, h]

/-- The word is written at once where it does not lie behind a T1 page. -/
theorem finishFail_far {s : State} {vf : Nat} {tk : Task} {g : Page} (code : Nat) (h : (s.part vf).task = some tk)
    (hg : (s.part vf).pageAt (tk.node.done / 65536) = some g) (ht : g.tier ≠ 1) : finishFail vf code s =
    followWord vf tk.node (.failed ((s.part vf).stops.any Stop.isFault))
      (writeWord vf tk.node statusFailed code (s.onPart vf Part.clearTask)) := by
  rw [finishFail_task code h]
  unfold endNode completeNode
  rw [portOf_eq_none (g := g) (by simpa using hg) ht]

/-- Behind a T1 page of a bound partition it waits at the service port. -/
theorem finishFail_near {s : State} {vf : Nat} {tk : Task} {g : Page} (code : Nat) (h : (s.part vf).task = some tk)
    (hb : (s.part vf).isBound = true) (hg : (s.part vf).pageAt (tk.node.done / 65536) = some g) (ht : g.tier = 1) : finishFail vf code s =
    (s.onPart vf Part.clearTask).onPart vf fun p => p.ask g.vch (.word tk.node statusFailed code (.failed ((s.part vf).stops.any Stop.isFault))) := by
  rw [finishFail_task code h]
  unfold endNode completeNode
  rw [portOf_near (g := g) (by simpa using hb) (by simpa using hg) ht]

theorem clearTask_taskOff (vf : Nat) (s : State) : (s.onPart vf Part.clearTask).TaskOff vf (s.part vf).qfrozen s.host :=
  ⟨by rw [State.part_onPart_same]; exact clearTask_taskGone _, by simp, rfl⟩

/-- Once the failed task is off its cores, no node depends on its node if none did before. -/
theorem dependents_clearTask {s : State} {vf id : Nat} (hq : ∀ e ∈ s.parts, ∀ m ∈ e.2.queue, id ∉ m.deps)
    (hl : ∀ e ∈ s.parts, ∀ m x, e.2.loading = some (m, x) → id ∉ m.deps) : (s.onPart vf Part.clearTask).dependents [id] = [] := by
  have hp : ∀ m ∈ (s.part vf).queue, id ∉ m.deps := tget_all _ _ (fun p : Part => ∀ m ∈ p.queue, id ∉ m.deps) (by simp [Part.fresh]) hq vf
  refine dependents_eq_nil fun e he n hn => ?_
  rcases mem_tput he with rfl | he
  · simp only [Part.unstarted, clearTask_queue, clearTask_loading] at hn
    exact hp n (by simpa using hn)
  · rcases List.mem_append.1 hn with hn | hn
    · exact hq e he n hn
    · cases h : e.2.loading with
      | none => simp [h] at hn
      | some l => simp [h] at hn; exact hn ▸ hl e he l.1 l.2 h

theorem followFailed_keepsTasks (vf : Nat) (n : Node) (report : Bool) (s : State) :
    (errorToken n.id s).KeepsTasks (followWord vf n (.failed report) s) :=
  (afterFailed_keepsTasks vf report _).trans (endSliceIdle_keepsTasks vf _)

/-! ### Fatal errors (01_device R12; 16_faults R247) -/

theorem part_freezeAll (s : State) (vf : Nat) :
    s.freezeAll.part vf = if (s.part vf).live then (s.part vf).stopBy .rail else s.part vf :=
  tget_map Part.fresh (fun p : Part => if p.live then p.stopBy .rail else p) rfl s.parts vf

/-- The notices of many stops. -/
theorem foldl_announce_frame (l : List Nat) (s : State) : let t := l.foldl (fun s vf => s.announce vf) s
    t.fatal = s.fatal ∧ s.outbox ⊆ t.outbox
    ∧ ∀ w, (t.part w).stops = (s.part w).stops ∧ (t.part w).pt = (s.part w).pt ∧ (t.part w).coreOf = (s.part w).coreOf := by
  induction l generalizing s with
  | nil => exact ⟨rfl, List.Subset.refl _, fun _ => ⟨rfl, rfl, rfl⟩⟩
  | cons v l ih =>
    obtain ⟨hf, ho, hp⟩ := ih (s.announce v)
    refine ⟨hf.trans (fatal_announce s v), List.Subset.trans (outbox_subset_announce s v) ho, fun w => ?_⟩
    obtain ⟨h1, h2, h3⟩ := announce_frame s v w
    exact ⟨(hp w).1.trans h1, (hp w).2.1.trans h2, (hp w).2.2.trans h3⟩

theorem execRailError_outcome (s : State) (vf : Nat) : ∃ t, execRailError s = .next t ∧ t.fatal % 2 = 1
    ∧ ((s.part vf).live = true → .rail ∈ (t.part vf).stops) ∧ .fatal 1 ∈ t.outbox ∧ (t.part vf).pt = (s.part vf).pt
    ∧ ∀ c, t.core vf c = s.core vf c := by
  obtain ⟨hf, ho, hp⟩ := foldl_announce_frame (keys (s.parts.filter fun e => e.2.isBound)) (s.freezeAll.reportFatal 1)
  obtain ⟨h1, h2, h3⟩ := hp vf
  have hz : (s.freezeAll.reportFatal 1).part vf = if (s.part vf).live then (s.part vf).stopBy .rail else s.part vf := part_freezeAll s vf
  rw [hz] at h1 h2 h3
  refine ⟨_, rfl, ?_, fun hl => ?_, ho (by simp [State.reportFatal]), ?_, fun c => ?_⟩
  · rw [hf]; change (s.fatal / 2 * 2 + 1) % 2 = 1; omega
  · rw [h1]; simp [hl]
  · rw [h2]; split <;> rfl
  · simp only [State.core, Part.core]; rw [h3]; split <;> rfl

theorem execBelfryPanic_outcome (s : State) (vf : Nat) : ∃ t, execBelfryPanic s = .next t ∧ t.fatal / 2 % 2 = 1
    ∧ (t.part vf).handlerAt = none ∧ .fatal 2 ∈ t.outbox ∧ (t.part vf).stops = (s.part vf).stops ∧ (t.part vf).pt = (s.part vf).pt
    ∧ ∀ c, t.core vf c = s.core vf c := by
  have hp := tget_map Part.fresh (fun p : Part => { p with handlerAt := none }) rfl s.parts vf
  refine ⟨_, rfl, ?_, congrArg Part.handlerAt hp, by simp [State.reportFatal], (congrArg Part.stops hp).trans rfl,
    (congrArg Part.pt hp).trans rfl, fun c => (congrArg (fun p : Part => p.core c) hp).trans rfl⟩
  change (s.fatal % 2 + 2) / 2 % 2 = 1
  omega

/-! ### What FAULT_HANDLER does, case by case -/

section

variable {s : State} {vf code tab : Nat} {g : Page} {tk : Task}

/-- A handle written leaves the others. -/
theorem h_of_hregs {c k : Core} {n : Nat} {h : Handle} (e : k.hregs = tput c.hregs n h) : k.h n = h ∧ ∀ x, x ≠ n → k.h x = c.h x := by
  unfold Core.h
  rw [e]
  exact ⟨tget_tput_same _ _ _ _, fun x hx => tget_tput_ne _ _ _ hx⟩

/-- A miss of a resident page (10_translation R152). -/
theorem execFaultHandler_miss (h : s.HandlerDue vf) (hc : (s.part vf).frec.code = 0x21)
    (hg : let h := (s.core vf (s.part vf).frec.vcore).h ((s.part vf).frec.detail % 16)
      (s.part vf).pageAt (h.vch * 65536 + h.vrow) = some g)
    (hr : g.resident = true) (he : (s.part vf).endAfter = false) :
    let v := (s.part vf).frec.vcore
    let left := (s.part vf).stops.filter fun y => decide (y ≠ .fault)
    ∃ t, execFaultHandler vf s = .next t ∧ (t.core vf v).hregs = tput (s.core vf v).hregs ((s.part vf).frec.detail % 16) g.handle
      ∧ (t.part vf).stops = (if left.any Stop.announced || (s.part vf).alone then left else left ++ [.align])
      ∧ (t.part vf).task = (s.part vf).task ∧ (t.part vf).pt = (s.part vf).pt ∧ t.dram = s.dram := by
  refine ⟨_, execFaultHandler_due h, ?_⟩
  rw [handle_miss hc, resolveMiss_resident hg hr he]
  simp only [release, State.core, State.part_onPart_same, part_notify, part_resolveWith, State.onPart_dram, dram_notify, dram_resolveWith]
  refine ⟨?_, releaseFault_stops (by exact h.stopped), by simp, by simp, trivial⟩
  change (Part.core (Part.releaseFrom _ _) _).hregs = _
  rw [Part.releaseFrom_core, Part.core_onCore_same]

/-- Bytes that a completion word leaves in a page of host memory. -/
def Page.hostWord (g : Page) (a v : Nat) (m : Mem) : Mem := (numCells a 8 v).foldl (fun m c => memWrite m (g.place c.1) [c.2]) m

/-- A failing task whose commands are drained and whose completion word lies in host memory. -/
theorem execFaultHandler_far (h : s.FailureEnds vf code tab g tk) (h2 : g.tier = 2) : ∃ u : State,
      execFaultHandler vf s = .next (followWord vf tk.node (.failed ((s.part vf).stops.any Stop.isFault)) u)
      ∧ u.parts = (s.onPart vf Part.clearTask).parts ∧ u.host = g.hostWord tk.node.done (0x80000010 + code % 2 ^ 32 * 2 ^ 32) s.host := by
  obtain ⟨out, hw⟩ := writeWord_host (s := s.onPart vf Part.clearTask) (vf := vf) statusFailed code h.aligned (by simpa using h.page) h2
  rw [execFaultHandler_ends h, finishFail_far code h.task h.page (by omega), hw]
  exact ⟨_, rfl, rfl, rfl⟩

/-- No node depends on the failed one: the task is off, the queue goes on, and the word stands in host memory (15_tasks R237). -/
theorem execFaultHandler_fails (h : s.FailureEnds vf code tab g tk) (h2 : g.tier = 2)
    (hq : ∀ e ∈ s.parts, ∀ m ∈ e.2.queue, tk.node.id ∉ m.deps)
    (hl : ∀ e ∈ s.parts, ∀ m x, e.2.loading = some (m, x) → tk.node.id ∉ m.deps)
    (hs : (s.part vf).pcmd ≠ 1 ∨ (s.part vf).pres ≠ 0 ∨ (s.part vf).t1Queue = []) : ∃ t, execFaultHandler vf s = .next t
      ∧ t.TaskOff vf false (g.hostWord tk.node.done (0x80000010 + code % 2 ^ 32 * 2 ^ 32) s.host) := by
  obtain ⟨u, he, hp, hm⟩ := execFaultHandler_far h h2
  have hu : u.part vf = (s.part vf).clearTask := (part_of_parts hp vf).trans (State.part_onPart_same s vf _)
  have hd : u.dependents [tk.node.id] = [] := by
    unfold State.dependents; rw [hp]; exact dependents_clearTask hq hl
  refine ⟨_, he, State.TaskOff.followFailed (b := (s.part vf).qfrozen) _ ⟨?_, ?_, hm⟩ hd ?_⟩ <;> rw [hu]
  · exact clearTask_taskGone _
  · exact clearTask_qfrozen _
  · simpa using hs.imp_right (Or.imp_right clearTask_t1Queue)

/-- A node that depends on the failed one, while it is being loaded elsewhere (15_tasks R237). -/
theorem execFaultHandler_cancels (h : s.FailureEnds vf code tab g tk) (h2 : g.tier = 2) {w x : Nat} {m : Node} (hw : w ≠ vf)
    (hl : (s.part w).loading = some (m, x)) (hd : tk.node.id ∈ m.deps) :
    ∃ t, execFaultHandler vf s = .next t ∧ (t.part w).loading = none ∧ (t.part w).task = (s.part w).task := by
  obtain ⟨u, he, hp, -⟩ := execFaultHandler_far h h2
  have hu : u.part w = s.part w := (part_of_parts hp w).trans (State.part_onPart_ne s _ hw)
  have hk := followFailed_keepsTasks vf tk.node ((s.part vf).stops.any Stop.isFault) u
  exact ⟨_, he, (hk.part w).loading_none (errorToken_unloads (hu ▸ hl) hd), hu ▸ (((errorToken_keepsTasks tk.node.id u).trans hk).part w).task⟩

/-- The word behind a T1 page waits at its service port (09_memory R142). -/
theorem execFaultHandler_near (h : s.FailureEnds vf code tab g tk) (h1 : g.tier = 1)
    (hb : (s.part vf).isBound = true) : ∃ t, execFaultHandler vf s = .next t ∧ t.TaskOff vf (s.part vf).qfrozen s.host ∧ t.t1 = s.t1
      ∧ (g.vch, .word tk.node 0x80000010 code (.failed ((s.part vf).stops.any Stop.isFault))) ∈ (t.part vf).t1Queue := by
  rw [execFaultHandler_ends h, finishFail_near code h.task hb h.page h1]
  refine ⟨_, rfl, (clearTask_taskOff vf s).edit, rfl, ?_⟩
  rw [State.part_onPart_same]
  exact List.mem_append_right _ (List.mem_singleton.2 rfl)

end

/-- Settles O40: one lemma for each thing that a handler, a failure or a fatal error does. -/
theorem faultsHandled : Obligations.FaultsHandled := by
  intro s vf code tab g tk
  simp only [exec_faultHandler, exec_railError, exec_belfryPanic]
  refine ⟨?miss, ?debugBreak, ?other, ?draining, ?fails, ?cancels, ?near, ?start, execFaultHandler_down vf, execRailError_outcome s vf,
    execBelfryPanic_outcome s vf⟩
  case miss =>
    intro ⟨h0, h1, h2, h3⟩ hc hg hr he
    obtain ⟨t, ht, hh, hs, hk⟩ := execFaultHandler_miss ⟨h0, h1, h2, h3⟩ hc hg hr he
    obtain ⟨hn, hx⟩ := h_of_hregs hh
    refine ⟨t, ht, hn, hx, ?_, fun h => ?_, fun h k => ?_, hk⟩
    · rw [hs]; split
      · exact .inl rfl
      · exact .inr rfl
    · rw [hs, if_pos (by rw [Bool.or_eq_true, any_announced_filter]; exact h.symm)]
    · rw [hs, if_neg]
      rw [Bool.or_eq_true, any_announced_filter, h]
      rintro (⟨y, hy, hf, ha⟩ | ha)
      · rw [k y hy hf] at ha; cases ha
      · cases ha
  case debugBreak =>
    intro ⟨h0, h1, h2, h3⟩ hc
    refine ⟨_, execFaultHandler_due ⟨h0, h1, h2, h3⟩, ?_⟩
    rw [handle_break hc]
    simp only [State.core, part_reportBreak, outbox_reportBreak]
    exact ⟨trivial, trivial, trivial, trivial, fun _ => rfl⟩
  case other =>
    intro ⟨h0, h1, h2, h3⟩ hc hd
    refine ⟨_, execFaultHandler_due ⟨h0, h1, h2, h3⟩, ?_⟩
    rw [handle_other hc hd]
    simp only [State.core, part_beginFail]
    exact ⟨trivial, trivial, trivial, trivial, fun _ => rfl⟩
  case draining =>
    intro h0 h1 h2
    rw [execFaultHandler_failing h0 h1, h2]; rfl
  case fails =>
    intro ⟨h0, h1, h2, ht, ha, hg⟩ h3 hq hl hs
    obtain ⟨t, he, ⟨hk, hf, hn, hv⟩, hz, hm⟩ := execFaultHandler_fails ⟨h0, h1, h2, ht, ha, hg⟩ h3 hq hl hs
    exact ⟨t, he, ⟨hk, hf, hn, fun c => (hv c).1, fun c => (hv c).2⟩, hz, hm⟩
  case cancels =>
    intro w m x ⟨h0, h1, h2, ht, ha, hg⟩ h3 hw hl hd
    exact execFaultHandler_cancels ⟨h0, h1, h2, ht, ha, hg⟩ h3 hw hl hd
  case near =>
    intro ⟨h0, h1, h2, ht, ha, hg⟩ h3 hb
    obtain ⟨t, he, ⟨⟨hk, hf, hn, hv⟩, hz, hm⟩, hr⟩ := execFaultHandler_near ⟨h0, h1, h2, ht, ha, hg⟩ h3 hb
    exact ⟨t, he, ⟨hk, hf, hn, fun c => (hv c).1, fun c => (hv c).2⟩, hz, hm, hr⟩
  case start =>
    intro w m x hs hl hf h1 h2 ht _ hd
    exact not_doomed_of_mayStart hs hl (mem_doomed_of_loading hl (mem_failedIds hf h1 h2 ht) hd)

end Sys2Proof.Machine
end

section
/-! Lanes, line addresses and draws: what VSHL, VSHR and VSAR leave in a lane (07_vector R105), which lanes VRNG reads and what it draws from
them (R111), and the lines that VLD and VST name (R103). -/

namespace Sys2Proof.Machine

/-! ### Lanes (07_vector R100) -/

theorem laneBits_pos (t : Nat) : 0 < laneBits t := by unfold laneBits; split <;> decide

theorem lane_lt (w x i : Nat) : lane w x i < 2 ^ w := Nat.mod_lt _ (Nat.two_pow_pos w)

theorem lane_succ (w x i : Nat) : lane w x (i + 1) = lane w (x / 2 ^ w) i := by
  unfold lane; rw [Nat.div_div_eq_div_mul, ← Nat.pow_add, Nat.mul_succ, Nat.add_comm]

/-- A register cut above a lane still holds it. -/
theorem lane_mod {w i n : Nat} (x : Nat) (h : w * i + w ≤ n) : lane w (x % 2 ^ n) i = lane w x i := by
  obtain ⟨k, rfl⟩ : ∃ k, n = w * i + k := ⟨n - w * i, by omega⟩
  unfold lane
  rw [Nat.pow_add, Nat.mod_mul_right_div_self, Nat.mod_mod_of_dvd _ (Nat.pow_dvd_pow 2 (by omega))]

/-- Lanes that fit their width do not run into each other. -/
theorem lane_ofLanes {w : Nat} {l : List Nat} (h : ∀ v ∈ l, v < 2 ^ w) {i : Nat} (hi : i < l.length) : lane w (ofLanes w l) i = l[i] := by
  induction l generalizing i with
  | nil => cases hi
  | cons v vs ih =>
    have hv : v < 2 ^ w := h v List.mem_cons_self
    cases i with
    | zero => simp [lane, ofLanes, Nat.mod_eq_of_lt hv]
    | succ i =>
      have hd : ofLanes w (v :: vs) / 2 ^ w = ofLanes w vs := by
        rw [ofLanes, Nat.add_mul_div_left _ _ (Nat.two_pow_pos w), Nat.div_eq_of_lt hv, Nat.zero_add]
      rw [lane_succ, hd]
      exact ih (fun u hu => h u (List.mem_cons_of_mem v hu)) _

theorem lane_mapLanes {t i : Nat} {f : Nat → Nat} (hi : i < lanes t) (hf : ∀ k, f k < 2 ^ laneBits t) :
    lane (laneBits t) (mapLanes t f) i = f i := by
  unfold mapLanes
  rw [lane_ofLanes (by simpa using fun k _ => hf k) (by simpa using hi)]
  simp

/-- A result computed in bit vectors of the lane's width fits its lane. -/
theorem lane_mapLanes_toNat {t i : Nat} {f : Nat → Nat} (hi : i < lanes t) (b : Nat → BitVec (laneBits t)) (hf : ∀ k, f k = (b k).toNat) :
    lane (laneBits t) (mapLanes t f) i = (b i).toNat := by
  rw [lane_mapLanes hi fun k => hf k ▸ (b k).isLt, hf]

/-! ### Lane shifts (07_vector R105) -/

theorem toNat_ofNat_lane (w x i : Nat) : (BitVec.ofNat w (lane w x i)).toNat = lane w x i := by
  rw [BitVec.toNat_ofNat, Nat.mod_eq_of_lt (lane_lt w x i)]

/-- Copies of the sign bit fill every place from the width on. -/
theorem sshiftRight_of_width_le {w n : Nat} (a : BitVec w) (h : w ≤ n) : a.sshiftRight n = if a.msb then BitVec.allOnes w else 0#w := by
  cases hm : a.msb with
  | false => rw [BitVec.sshiftRight_eq_of_msb_false hm, BitVec.ushiftRight_eq_zero h]; rfl
  | true => rw [BitVec.sshiftRight_eq_of_msb_true hm, BitVec.ushiftRight_eq_zero h, BitVec.not_zero]; rfl

/-- A count cut at the width shifts as far as the count itself. -/
theorem sshiftRight_min {w : Nat} (a : BitVec w) (n : Nat) : a.sshiftRight (min w n) = a.sshiftRight n := by
  rcases Nat.le_total w n with h | h
  · rw [Nat.min_eq_left h, sshiftRight_of_width_le a h, sshiftRight_of_width_le a (Nat.le_refl w)]
  · rw [Nat.min_eq_right h]

/-- The signed quotient of a lane by a power of two is its arithmetic shift. -/
theorem imod_signed_div {w : Nat} (hw : 0 < w) (v n : Nat) :
    imod (signed w v / (2 ^ n : Nat)) (2 ^ w) = ((BitVec.ofNat w v).sshiftRight n).toNat := by
  rw [signed_eq w v hw, ← Int.shiftRight_eq_div_pow, BitVec.sshiftRight, BitVec.toNat_ofInt]; rfl

section

variable {t i : Nat} (x y : Nat) (hi : i < lanes t)

include hi

theorem lane_vShl : lane (laneBits t) (vShl t x y) i
    = (BitVec.ofNat (laneBits t) (lane (laneBits t) x i) <<< lane (laneBits t) y i).toNat := by
  refine lane_mapLanes_toNat hi (fun k => BitVec.ofNat _ (lane _ x k) <<< lane (laneBits t) y k) fun k => ?_
  split
  · next h => rw [BitVec.shiftLeft_eq_zero h]; rfl
  · rw [BitVec.toNat_shiftLeft, toNat_ofNat_lane, Nat.shiftLeft_eq]

theorem lane_vShr : lane (laneBits t) (vShr t x y) i
    = (BitVec.ofNat (laneBits t) (lane (laneBits t) x i) >>> lane (laneBits t) y i).toNat := by
  refine lane_mapLanes_toNat hi (fun k => BitVec.ofNat _ (lane _ x k) >>> lane (laneBits t) y k) fun k => ?_
  split
  · next h => rw [BitVec.ushiftRight_eq_zero h]; rfl
  · rw [BitVec.toNat_ushiftRight, toNat_ofNat_lane, Nat.shiftRight_eq_div_pow]

theorem lane_vSar : lane (laneBits t) (vSar t x y) i
    = ((BitVec.ofNat (laneBits t) (lane (laneBits t) x i)).sshiftRight (lane (laneBits t) y i)).toNat :=
  lane_mapLanes_toNat hi (fun k => (BitVec.ofNat _ (lane _ x k)).sshiftRight (lane (laneBits t) y k)) fun k => by
    rw [← sshiftRight_min, ← imod_signed_div (laneBits_pos t)]

end

/-! ### Draws (06_numbers R98; 07_vector R111) -/

/-- The four words of a generator's state are words. -/
structure Peal.InWords (s : Peal) : Prop where
  x0 : s.x0 < 2 ^ 32
  x1 : s.x1 < 2 ^ 32
  x2 : s.x2 < 2 ^ 32
  x3 : s.x3 < 2 ^ 32

theorem rotl_lt {v n : Nat} (hv : v < 2 ^ 32) (hn : n ≤ 32) : rotl v n < 2 ^ 32 := by
  have hp : 2 ^ 32 = 2 ^ (32 - n) * 2 ^ n := by rw [← Nat.pow_add]; congr 1; omega
  have hhigh : v / 2 ^ (32 - n) < 2 ^ n := Nat.div_lt_of_lt_mul (hp ▸ hv)
  have hlow : v % 2 ^ (32 - n) + 1 ≤ 2 ^ (32 - n) := Nat.mod_lt _ (Nat.two_pow_pos _)
  unfold rotl
  rw [hp, Nat.mul_mod_mul_right]
  have hsum : v % 2 ^ (32 - n) * 2 ^ n + 2 ^ n ≤ 2 ^ (32 - n) * 2 ^ n := Nat.succ_mul _ _ ▸ Nat.mul_le_mul_right (2 ^ n) hlow
  omega

theorem Peal.InWords.left {s : Peal} (h : s.InWords) {n : Nat} (hn : n ≤ 32) : (s.left n).InWords :=
  have hx : (s.x0 + s.x1) % 2 ^ 32 < 2 ^ 32 := Nat.mod_lt _ (Nat.two_pow_pos 32)
  ⟨hx, h.x1, h.x2, rotl_lt (Nat.xor_lt_two_pow h.x3 hx) hn⟩

theorem Peal.InWords.right {s : Peal} (h : s.InWords) {n : Nat} (hn : n ≤ 32) : (s.right n).InWords :=
  have hx : (s.x2 + s.x3) % 2 ^ 32 < 2 ^ 32 := Nat.mod_lt _ (Nat.two_pow_pos 32)
  ⟨h.x0, rotl_lt (Nat.xor_lt_two_pow h.x1 hx) hn, hx, h.x3⟩

theorem Peal.InWords.round {s : Peal} (h : s.InWords) {k1 : Nat} (hk : k1 < 2 ^ 32) (k0 r : Nat) : (Peal.round k0 k1 r s).InWords :=
  have ht := (((h.left (n := 16) (by omega)).right (n := 12) (by omega)).left (n := 8) (by omega)).right (n := 7) (by omega)
  ⟨Nat.mod_lt _ (Nat.two_pow_pos 32), Nat.xor_lt_two_pow ht.x1 hk, ht.x2, ht.x3⟩

/-- A draw fits a lane of 64 bits. -/
theorem peal_lt {k0 k1 c0 c1 : Nat} (h0 : k0 < 2 ^ 32) (h1 : k1 < 2 ^ 32) (hc0 : c0 < 2 ^ 32) (hc1 : c1 < 2 ^ 32) (c2 c3 : Nat) :
    peal k0 k1 c0 c1 c2 c3 < 2 ^ 64 := by
  have hs : Peal.InWords ⟨c0 ^^^ k0, c1 ^^^ k1, (c2 + k0) % 2 ^ 32, (c3 + k1) % 2 ^ 32⟩ :=
    ⟨Nat.xor_lt_two_pow hc0 h0, Nat.xor_lt_two_pow hc1 h1, Nat.mod_lt _ (Nat.two_pow_pos 32), Nat.mod_lt _ (Nat.two_pow_pos 32)⟩
  have ht := (((hs.round h1 k0 0).round h1 k0 1).round h1 k0 2).round h1 k0 3
  have hhigh := Nat.xor_lt_two_pow ht.x1 ht.x3
  have hlow := Nat.xor_lt_two_pow ht.x0 ht.x2
  dsimp only [peal]
  omega

theorem lane_vRng (x y : Nat) {i : Nat} (hi : i < 32) : lane 64 (vRng x y) i
    = peal (lane 32 y 0) (lane 32 y 1) (lane 64 x i % 2 ^ 32) (lane 64 x i / 2 ^ 32) (lane 32 y 2) (lane 32 y 3) :=
  lane_mapLanes (t := 7) hi fun k =>
    peal_lt (lane_lt 32 y 0) (lane_lt 32 y 1) (Nat.mod_lt _ (Nat.two_pow_pos 32)) (Nat.div_lt_of_lt_mul (lane_lt 64 x k)) _ _

/-- Of B only the lanes 0 to 3 are read. -/
theorem vRng_mod (x y : Nat) : vRng x (y % 2 ^ 128) = vRng x y := by
  unfold vRng
  rw [lane_mod y (by decide : 32 * 0 + 32 ≤ 128), lane_mod y (by decide : 32 * 1 + 32 ≤ 128), lane_mod y (by decide : 32 * 2 + 32 ≤ 128),
    lane_mod y (by decide : 32 * 3 + 32 ≤ 128)]

/-! ### What the V ops put in flight -/

/-- An op whose one effect is the result of two registers of its slot's file. -/
theorem vReg_delivers {s : State} {g : Guard} {i : Instr} {lat d a b : Nat} (op : Nat → Nat → Nat)
    (he : exec i s = vReg i g lat d (fun sl c => op (c.vn sl a) (c.vn sl b)) s) :
    Delivers s g i id
      [(lat, .reg (vDst s.cursor.slot d) (op (s.hereCore.vn s.cursor.slot a) (s.hereCore.vn s.cursor.slot b)))] :=
  fun h => he.trans (vReg_executes lat d _ h fun _ _ => rfl)

/-- The step of VLD and VST is a signed number of 12 bits (03_core R43). -/
theorem vStep_eq (n : Nat) : vStep n = fun x : Sticky =>
    { x with adv1 := (((x.adv1 : Int) + (BitVec.ofNat 12 n).toInt) % 4096).toNat, adv2 := x.adv2 % 512 } := by
  funext x
  unfold vStep Sticky.stepped
  rw [signed_eq 12 n (by decide), Int.add_zero, imod_natCast]
  rfl

/-- The line of VLD and VST: register, signed offset of 11 bits and steps (07_vector R103). -/
theorem Core.vline_eq (c : Core) (slot ar off : Nat) (st : Sticky) : c.vline slot ar off st
    = (((((if slot = 3 then c.ib ar else c.ia ar) / 256 : Nat) : Int) + (BitVec.ofNat 11 off).toInt + (st.adv1 : Int)) % 4096).toNat :=
  lineAddr_eq (c.va slot ar) 11 off st.adv1 (by decide)

section

variable {s : State} {g : Guard} {i : Instr} {r ar off step : Nat}

theorem vLoad_delivers (he : exec i s = vLoad i g r ar off step s) : Delivers s g i (vStep step)
    [(1, .vld (s.cursor.slot == 3) r (s.hereCore.vline s.cursor.slot ar off (s.hereCore.slot s.cursor.slot)))] :=
  fun h => he.trans (issueStep_executes (vStep step)
    (fun c => [(1, .vld (decide (s.cursor.slot = 3)) r (c.vline s.cursor.slot ar off (c.slot s.cursor.slot)))]) h
    (fun ts => by rw [State.here_onHere]; rfl) fun _ _ => rfl)

theorem vStore_delivers (he : exec i s = vStore i g r ar off step s) : Delivers s g i (vStep step)
    [(3, .storeLine (s.hereCore.vline s.cursor.slot ar off (s.hereCore.slot s.cursor.slot)) (s.hereCore.vr s.cursor.slot r))] :=
  fun h => he.trans (issueStep_executes (vStep step)
    (fun c => [(3, .storeLine (c.vline s.cursor.slot ar off (c.slot s.cursor.slot)) (c.vr s.cursor.slot r))]) h
    (fun ts => by rw [State.here_onHere]; rfl) fun _ _ => rfl)

end

/-- Settles O50: each lane is the shift of a bit vector, of which a count of its width or more leaves the sign bit at most. -/
theorem laneShifts : Obligations.LaneShifts := by
  refine ⟨fun t x y i hi => ?lanes, fun s g d a b t => ⟨?shl, ?shr, ?sar⟩⟩
  case lanes =>
    refine ⟨lane_vShl x y hi, lane_vShr x y hi, lane_vSar x y hi, fun h => ⟨?_, ?_, ?_⟩⟩
    · rw [lane_vShl x y hi, BitVec.shiftLeft_eq_zero h]; rfl
    · rw [lane_vShr x y hi, BitVec.ushiftRight_eq_zero h]; rfl
    · rw [lane_vSar x y hi, sshiftRight_of_width_le _ h, apply_ite BitVec.toNat, BitVec.toNat_allOnes]; rfl
  case shl => exact vReg_delivers (vShl t) (exec_vshl s g d a b t)
  case shr => exact vReg_delivers (vShr t) (exec_vshr s g d a b t)
  case sar => exact vReg_delivers (vSar t) (exec_vsar s g d a b t)

/-- Settles O51: a draw fits its lane, so each lane of the result is its own draw. -/
theorem drawsPerLane : Obligations.DrawsPerLane := by
  refine ⟨fun x y i hi => lane_vRng x y hi, fun x y z h => ?reads, fun g sl d a b t h => of_decide_eq_true h, fun s g d a b => ?issue⟩
  case reads => rw [← vRng_mod x y, h, vRng_mod]
  case issue => exact vReg_delivers vRng (exec_vrng s g d a b 7)

/-- Settles O11: the line and the step, read as `Core.vline_eq` and `vStep_eq` say. -/
theorem lineLoadsAndStoresIssue : Obligations.LineLoadsAndStoresIssue := by
  intro s g r ar off step
  dsimp only
  rw [← Core.vline_eq, ← vStep_eq, ← vStep_eq]
  exact ⟨vLoad_delivers (exec_vld s g r ar off), vLoad_delivers (exec_vldLong s g r ar off step),
    vStore_delivers (exec_vst s g r ar off), vStore_delivers (exec_vstLong s g r ar off step)⟩

end Sys2Proof.Machine
end

section
/-! Loops: LOOP enters its body or goes on after it (08_loops R117), the end of a pass repeats the body or leaves it, and what a clamp does to
either (R120, R121; 16_faults R241). -/

namespace Sys2Proof.Machine

/-! ### A core changed, from the core alone -/

theorem onCore_congr {s : State} {vf v : Nat} {f g : Core → Core} (h : f (s.core vf v) = g (s.core vf v)) :
    s.onCore vf v f = s.onCore vf v g := by
  unfold State.onCore State.onPart Part.onCore
  exact congrArg _ (congrArg _ h)

theorem onCore_onlyPart (s : State) (vf v : Nat) (f : Core → Core) : s.onlyPart (s.onCore vf v f) vf :=
  ⟨fun _ h => State.part_onCore_ne s v f h, rfl, rfl, rfl, rfl, rfl⟩

theorem issued_congr {s : State} (i : Instr) (step : Sticky → Sticky) {f g : Core → Core}
    (h : ∀ ts, f (s.hereCore.reserve ts) = g (s.hereCore.reserve ts)) : s.issued i step f = s.issued i step g :=
  onHere_congr s (by simp only [h])

/-! ### Registers and bundles that a loop reads -/

theorem Core.k_put_same (c : Core) {r : Nat} (n : Nat) (h : r < 12) : (c.put (.k r) n).k r = BitVec.ofNat 64 n := by
  simp [Core.put, Core.k, h]

theorem Core.k_put_ne (c : Core) {r m : Nat} (n : Nat) (h : m ≠ r) : (c.put (.k r) n).k m = c.k m := by
  simp only [Core.put]
  split
  · exact tget_tput_ne _ _ _ h
  · rfl

@[simp] theorem Core.reserve_opWords (c : Core) (ts : List Touch) (pres n : Nat) (a : Int) :
    (c.reserve ts).opWords pres n a = c.opWords pres n a := by
  induction n generalizing a with
  | zero => rfl
  | succ n ih => simp only [Core.opWords, Core.reserve_word_read, ih]

@[simp] theorem Core.reserve_afterBundles (c : Core) (ts : List Touch) (n : Nat) (a : Int) :
    (c.reserve ts).afterBundles n a = c.afterBundles n a := by
  induction n generalizing a with
  | zero => rfl
  | succ n ih => simp only [Core.afterBundles, Core.bundleLength, Core.reserve_word_read, Core.reserve_opWords, ih]

/-- The loop that LOOP describes, its resume address as R121 says: the header's address plus the signed offset RESUME. -/
theorem Core.loopOf_eq (c : Core) (kn ki body stages cl res : Nat) : c.loopOf kn ki body stages cl res
    = ⟨c.next, c.afterBundles body c.next, body, stages, kn, ki, cl == 1, c.cur + (BitVec.ofNat 31 res).toInt, 0⟩ := by
  rw [Core.loopOf, Core.target, signed_eq 31 res (by decide)]
  rfl

@[simp] theorem Core.reserve_loopOf (c : Core) (ts : List Touch) (kn ki body stages cl res : Nat) :
    (c.reserve ts).loopOf kn ki body stages cl res = c.loopOf kn ki body stages cl res := by
  simp [Core.loopOf]

/-! ### LOOP's test and its clamp (08_loops R117, R120) -/

section

variable {c : Core} {on : Bool} {l : Loop}

/-- Entered: the test holds and no clamp applies. -/
theorem Core.enterLoop_enters (hc : (on && l.cl) = false) (ht : (c.k l.ki).toNat + l.stages - 1 < (c.k l.kn).toNat) :
    c.enterLoop on l = { c with loop := some l } := by
  simp [Core.enterLoop, Core.loopTest, hc, ht]

/-- Skipped: the test fails, and a clamp finds nothing to lower. -/
theorem Core.enterLoop_skips (ht : (c.k l.kn).toNat ≤ (c.k l.ki).toNat + l.stages - 1) :
    c.enterLoop on l = { c with next := l.after } := by
  have hn := Nat.not_lt.2 ht
  simp [Core.enterLoop, Core.clampLoop, Core.loopTest, hn]

/-- Clamped: with `kN` lowered to the limit, the test fails. -/
theorem Core.enterLoop_clamps (ho : on = true) (hc : l.cl = true)
    (ht : (c.k l.ki).toNat + l.stages - 1 < (c.k l.kn).toNat) (hr : l.kn < 12) (hs : 1 ≤ l.stages) :
    c.enterLoop on l = { c.put (.k l.kn) ((c.k l.ki).toNat + l.stages - 1) with
      clamp := some ⟨l.res, BitVec.ofNat 64 ((c.k l.ki).toNat + l.stages - 1), c.k l.kn, l.ki, l.kn⟩, next := l.after } := by
  have hne : l.ki ≠ l.kn := fun h => by rw [h] at ht; omega
  have hlow : c.clampLoop l = { c.put (.k l.kn) ((c.k l.ki).toNat + l.stages - 1) with
      clamp := some ⟨l.res, BitVec.ofNat 64 ((c.k l.ki).toNat + l.stages - 1), c.k l.kn, l.ki, l.kn⟩ } := if_pos ht
  have hfails : (c.clampLoop l).loopTest l = false := by
    have hki : (c.clampLoop l).k l.ki = c.k l.ki := by rw [hlow]; exact c.k_put_ne _ hne
    have hkn : (c.clampLoop l).k l.kn = BitVec.ofNat 64 ((c.k l.ki).toNat + l.stages - 1) := by rw [hlow]; exact c.k_put_same _ hr
    have hfits := (c.k l.kn).isLt
    rw [Core.loopTest, hki, hkn, BitVec.toNat_ofNat, Nat.mod_eq_of_lt (by omega)]
    exact decide_eq_false (Nat.lt_irrefl _)
  simp only [Core.enterLoop, ho, hc, Bool.and_self, if_true, hfails, Bool.false_eq_true, if_false]
  rw [hlow]

end

/-! ### The issue of a LOOP -/

section

variable {s : State} {g : Guard} {kn ki body stages cl res : Nat}

/-- A LOOP that does not meet a clamp record of its core. -/
theorem execLoop_tests (h : executes s g (.loop g kn ki body stages cl res) = true) (hc : cl = 0 ∨ s.hereCore.clamp = none) :
    exec (.loop g kn ki body stages cl res) s = .next (s.issued (.loop g kn ki body stages cl res) id fun w =>
      w.enterLoop s.here.clampOn (s.hereCore.loopOf kn ki body stages cl res)) := by
  rw [exec_loop, execLoop, issueCore_executes _ h]
  refine congrArg _ (issued_congr _ _ fun ts => ?_)
  have hp : (decide (cl = 1) && (s.hereCore.reserve ts).clamp.isSome) = false := by
    rcases hc with rfl | hn
    · rfl
    · simp [hn]
  rw [hp, Core.reserve_loopOf]
  rfl

/-- A clampable LOOP on a core that holds a clamp record (08_loops R121). -/
theorem execLoop_parks (h : executes s g (.loop g kn ki body stages 1 res) = true) (hc : s.hereCore.clamp ≠ none) :
    exec (.loop g kn ki body stages 1 res) s = .next (s.issued (.loop g kn ki body stages 1 res) id fun w =>
      { w with leaving := some .parked, parkAt := s.hereCore.cur }) := by
  rw [exec_loop, execLoop, issueCore_executes _ h]
  refine congrArg _ (issued_congr _ _ fun ts => ?_)
  have hp : (s.hereCore.reserve ts).clamp.isSome = true := Option.isSome_iff_ne_none.2 hc
  rw [hp]
  rfl

end

/-! ### The reads at the end of a pass (16_faults R241) -/

theorem Core.mem_passError {c : Core} {l : Loop} {r : Nat} (h : c.passError l = some r) : (r = l.ki ∨ r = l.kn) ∧ (4, 64 + r) ∈ c.bad := by
  have hm := List.mem_of_mem_head? h
  simpa [regMark] using hm

theorem Core.passError_eq_none {c : Core} {l : Loop} : c.passError l = none ↔ ¬ ((4, 64 + l.ki) ∈ c.bad ∨ (4, 64 + l.kn) ∈ c.bad) := by
  simp [Core.passError, regMark]

/-! ### The test at the end of a pass (08_loops R117, R120) -/

section

variable {c : Core} {pt : Nat} {on : Bool} {l : Loop}

/-- `kI + 1`, as a k register holds it in the next cycle. -/
def Core.passKi (c : Core) (l : Loop) : Nat := ((c.k l.ki).toNat + 1) % 2 ^ 64

theorem Core.passKi_eq (c : Core) (l : Loop) : ((c.k l.ki).toNat + 1) % 2 ^ 64 = c.passKi l := rfl

theorem Core.passEnd_repeats (hc : on = false ∨ l.cl = false) (ht : c.passKi l + l.stages - 1 < c.kAt (pt + 1) l.kn) :
    c.passEnd pt on l = { c.loopWrite pt l.ki (c.passKi l) with next := l.start, loop := some { l with done := 0 } } := by
  have hoff : (on && l.cl) = false := Bool.and_eq_false_iff.2 hc
  simp only [Core.passEnd, Core.passKi_eq, hoff, ht, Bool.false_and, Bool.false_eq_true, if_false, and_self, if_true, -Nat.reducePow]

theorem Core.passEnd_leaves (ht : c.kAt (pt + 1) l.kn ≤ c.passKi l + l.stages - 1) :
    c.passEnd pt on l = { c.loopWrite pt l.ki (c.passKi l) with next := l.after, loop := none } := by
  have hn := Nat.not_lt.2 ht
  simp only [Core.passEnd, Core.passKi_eq, hn, decide_false, Bool.and_false, Bool.false_eq_true, if_false, false_and, -Nat.reducePow]

theorem Core.passEnd_clamps (ho : on = true) (hc : l.cl = true) (ht : c.passKi l + l.stages - 1 < c.kAt (pt + 1) l.kn) :
    c.passEnd pt on l = { (c.loopWrite pt l.ki (c.passKi l)).loopWrite pt l.kn (c.passKi l + l.stages - 1) with
      clamp := some ⟨l.res, BitVec.ofNat 64 (c.passKi l + l.stages - 1), BitVec.ofNat 64 (c.kAt (pt + 1) l.kn), l.ki, l.kn⟩
      next := l.after, loop := none } := by
  simp only [Core.passEnd, Core.passKi_eq, ho, hc, ht, decide_true, Bool.and_self, if_true, Bool.true_eq_false, and_false, if_false, -Nat.reducePow]

end

/-! ### LOOP_PASS_END -/

section

variable {s : State} {vf v : Nat} {l : Loop}

/-- Within a pass, and without a loop, the core stays as it is. -/
theorem execLoopPassEnd_within (h : (s.core vf v).loop = none ∨ ((s.core vf v).loop = some l ∧ l.done < l.body)) :
    exec (.loopPassEnd vf v) s = .next (s.onCore vf v id) := by
  refine congrArg Host.Outcome.next (onCore_congr ?_)
  rcases h with h | ⟨h, hd⟩
  · simp only [h, id]
  · simp only [h, Nat.not_le.2 hd, if_false, id]

theorem execLoopPassEnd_ends (h : (s.core vf v).loop = some l ∧ l.body ≤ l.done) :
    exec (.loopPassEnd vf v) s = .next (s.onCore vf v fun c => c.endPass (s.part vf).pt (s.part vf).clampOn l) := by
  obtain ⟨hl, hd⟩ := h
  refine congrArg Host.Outcome.next (onCore_congr ?_)
  simp only [hl, hd, if_true]

/-- A pass that ends with its reads sound: what the test makes of the core. -/
theorem execLoopPassEnd_tests {f : Core → Core} (h : (s.core vf v).loop = some l ∧ l.body ≤ l.done)
    (he : ¬ ((4, 64 + l.ki) ∈ (s.core vf v).bad ∨ (4, 64 + l.kn) ∈ (s.core vf v).bad))
    (hf : (s.core vf v).passEnd (s.part vf).pt (s.part vf).clampOn l = f (s.core vf v)) :
    exec (.loopPassEnd vf v) s = .next (s.onCore vf v f) := by
  rw [execLoopPassEnd_ends h]
  refine congrArg _ (onCore_congr ?_)
  simp only [Core.endPass, Core.passError_eq_none.2 he, hf]

theorem execLoopPassEnd_unread {r : Nat} (h : (s.core vf v).loop = some l ∧ l.body ≤ l.done) (he : (s.core vf v).passError l = some r) :
    exec (.loopPassEnd vf v) s = .next (s.onCore vf v fun w =>
      { w.sched ⟨(s.part vf).pt + 1, (s.part vf).pt, 0, (s.core vf v).cur, .readError 4 r⟩ with loop := none }) := by
  rw [execLoopPassEnd_ends h]
  refine congrArg _ (onCore_congr ?_)
  simp only [Core.endPass, he]

end

/-- Settles O17: LOOP by the cases of `Core.enterLoop`, LOOP_PASS_END by those of `Core.passEnd`. A clamp that lowers `kN` needs `KI ≠ KN`, which
STAGES ≥ 1 gives: with one register the limit is never below it. -/
theorem loopsEnteredAndRepeated : Obligations.LoopsEnteredAndRepeated := by
  intro s g kn ki body stages cl res vf v l
  dsimp only
  rw [← Core.loopOf_eq]
  refine ⟨?enters, ?skips, ?parks, ?clamps, ?repeats, ?leaves, ?clampsAtEnd, ?error, ?within⟩
  case enters =>
    intro hx hc ht
    rw [execLoop_tests hx (hc.imp_right And.left)]
    refine congrArg _ (issued_congr _ _ fun ts => Core.enterLoop_enters ?_ ht)
    rcases hc with rfl | ⟨-, hoff⟩
    · exact Bool.and_false _
    · rw [hoff, Bool.false_and]
  case skips =>
    intro hx hc ht
    rw [execLoop_tests hx hc]
    exact congrArg _ (issued_congr _ _ fun ts => Core.enterLoop_skips ht)
  case parks =>
    rintro hx rfl hc
    exact execLoop_parks hx hc
  case clamps =>
    rintro hx hc hon rfl ht hr hs
    rw [execLoop_tests hx (.inr hc), Core.loopOf_eq]
    exact congrArg _ (issued_congr _ _ fun ts => Core.enterLoop_clamps hon rfl ht hr hs)
  case repeats => exact fun h he hc ht => execLoopPassEnd_tests h he (Core.passEnd_repeats hc ht)
  case leaves => exact fun h he ht => execLoopPassEnd_tests h he (Core.passEnd_leaves ht)
  case clampsAtEnd => exact fun h he ho hc ht => execLoopPassEnd_tests h he (Core.passEnd_clamps ho hc ht)
  case error =>
    intro h he
    obtain ⟨r, hr⟩ := Option.ne_none_iff_exists'.1 fun hn => Core.passError_eq_none.1 hn he
    obtain ⟨hk, hb⟩ := Core.mem_passError hr
    exact ⟨r, hk, hb, execLoopPassEnd_unread h hr⟩
  case within =>
    exact fun h => ⟨_, execLoopPassEnd_within h, State.core_onCore_same s vf v id, by rw [State.part_onCore_same]; rfl, onCore_onlyPart s vf v id⟩

end Sys2Proof.Machine
end
